-- ==== Sys2Proof/Word.lean ====
section
/-!
DEFINITION. Word.lean: the word types of the device and their plainest arithmetic (00 R4, R7).
-/

namespace Sys2Proof

/-- A byte of memory (R4). -/
abbrev Byte := BitVec 8

/-- A scalar register, a program counter or a virtual address (R22, R41). -/
abbrev Word := BitVec 64

/-- A vector register (R236). -/
abbrev Vec := BitVec 512

/-- One instruction word of a fetch line (R20). -/
abbrev Word96 := BitVec 96

/-- Bits `[hi:lo]` of an unbounded number, both ends included (R4, R7). -/
def fld (x hi lo : Nat) : Nat := x / 2 ^ lo % 2 ^ (hi + 1 - lo)

/-- One bit of an unbounded number. -/
def bit (x i : Nat) : Bool := x / 2 ^ i % 2 == 1

/-- The two's-complement reading of the low `w` bits of `x`: `sext(x, w)` of R7. -/
def sx (x w : Nat) : Int :=
  let y : Nat := x % 2 ^ w
  if 2 * y < 2 ^ w then (y : Int) else (y : Int) - ((2 ^ w : Nat) : Int)

/-- An integer reduced modulo `2^w`: `wrap(x, w)` of R7. -/
def wrapN (x : Int) (w : Nat) : Nat := (x % ((2 ^ w : Nat) : Int)).toNat

/-- `sat_i(x, w)` of R7. -/
def satI (x : Int) (w : Nat) : Int :=
  let m : Int := ((2 ^ (w - 1) : Nat) : Int)
  if x < -m then -m else if m - 1 < x then m - 1 else x

/-- `sat_n(x, w)` of R7. -/
def satN (x : Int) (w : Nat) : Int :=
  if x < 0 then 0 else if ((2 ^ w : Nat) : Int) - 1 < x then ((2 ^ w : Nat) : Int) - 1 else x

/-- `x` with bits `[hi:lo]` replaced by the low bits of `v`. -/
def setFld (x hi lo v : Nat) : Nat :=
  x - fld x hi lo * 2 ^ lo + (v % 2 ^ (hi + 1 - lo)) * 2 ^ lo

/-- The bytes of `x`, least significant first (R4). -/
def bytesOf (n x : Nat) : List Byte :=
  match n with
  | 0 => []
  | n + 1 => BitVec.ofNat 8 x :: bytesOf n (x / 256)

/-- The number that little-endian bytes stand for (R4). -/
def ofBytes : List Byte → Nat
  | [] => 0
  | b :: bs => b.toNat + 256 * ofBytes bs

end Sys2Proof
end

