-- ==== Sys2Proof/Config.lean ====
section
/-!
DEFINITION. Config.lean: what the specification leaves open and the model leaves free. Each constant
is opaque: no statement can rest on a value of it.
-/

namespace Sys2Proof

/-- Whether a signature is the signing key's over a digest: ECDSA over NIST P-384 (R448). Log 8. -/
opaque Config.ecdsaVerify : List Byte → List Byte → Bool

/-- The SHA-384 digest of some bytes (R448, R449). Log 8. -/
opaque Config.sha384 : List Byte → BitVec 384

/-- The signature of some bytes under the device's identity key (R449). Log 8. -/
opaque Config.identitySign : List Byte → List Byte

/-- The save keys, by number: each is generated by the device at a package reset and can be read by no agent (R426). Log 8. -/
opaque Config.saveKey : Nat → BitVec 256

/-- A save key wrapped under the key that the device derives from its identity key (R443). Log 8. -/
opaque Config.wrapKey : BitVec 256 → List Byte

/-- The bytes of the blocks of a save area, by offset, for each save: their layout is not stated (R425, R426). Log 7. -/
opaque Config.saveBytes : Nat → List (Nat × Byte)

/-- The state of the lifecycle fuses (R449). Log 8. -/
opaque Config.fuses : BitVec 64

/-- Whether the bridge between dies `a` and `b` lies on the route from die `x` to die `y`, where several
routes are shortest (R421). Log 21. -/
opaque Config.bridgeUsed : Nat → Nat → Nat → Nat → Bool

/-- A value the specification does not state, fresh for each count. Log 7. -/
opaque Config.freeWord : Nat → Word

end Sys2Proof
end

