-- ==== Sys2Proof/Syntax.lean ====
section
/-!
DEFINITION. Syntax.lean: the instructions. One constructor of `Instr` for each row of
spec/opcode_table.json: the forms of cell instructions (02 R44), the mask unit's words (13 R318) and
the steps of the other agents (95). A field the instruction ignores is not held (R43, R47).
-/

namespace Sys2Proof

/-- A register specifier: bank in bits 7 and 6, index below (R41). -/
abbrev RegSpec := BitVec 8

/-- The header of a quench image: the device's save key, wrapped, and the signature over it (R443). -/
structure QuenchHeader where
  wrapped : List Byte
  sig : List Byte
deriving DecidableEq, Repr

/-- The type codes of R38. -/
inductive Ty
  | i64 | i32 | n32 | i16 | n16 | i8 | n8 | f64 | f32 | f16 | bf16 | e4m3 | e5m2 | n64
deriving DecidableEq, Repr

/-- The condition codes of R39. -/
inductive Cond
  | eq | ne | lt | ge | ltn | gen | le | gt | len | gtn | always | ord | unord
deriving DecidableEq, Repr

/-- The rounding modes of R32. -/
inductive Rnd
  | rne | rz | rd | ru
deriving DecidableEq, Repr

/-- The space codes of R40. -/
inductive Space
  | g | l | c | d | s
deriving DecidableEq, Repr

/-- The scope codes of R40, ordered as R10 orders them. -/
inductive Scope
  | cell | clus | die | pkg | sys
deriving DecidableEq, Repr

/-- The cache hints of R40; codes 4 to 15 act as `normal`. -/
inductive Hint
  | normal | strm | keep | byp
deriving DecidableEq, Repr

/-- The operations of AMO and AMOF (R158). -/
inductive AmoOp
  | add | min | max | minn | maxn | and | or | xor | swap
deriving DecidableEq, Repr

/-- The orderings of an atomic (R158). -/
inductive Ord
  | relaxed | acq | rel | ar
deriving DecidableEq, Repr

/-- The kinds of FENCE (R156). -/
inductive FenceKind
  | acq | rel | ar | full
deriving DecidableEq, Repr

/-- The operations of the reductions and scans (R254). -/
inductive RedOp
  | add | min | max | and | or | xor
deriving DecidableEq, Repr

/-- The in-order queues of a cell that hold commands (R45, R330). -/
inductive QueueId
  | tongs | anvil | crucible | coll | gen
deriving DecidableEq, Repr

/-- Three registers. -/
structure A3 where
  a : RegSpec
  b : RegSpec
  c : RegSpec
deriving DecidableEq, Repr
/-- Four registers. -/
structure A4 where
  a : RegSpec
  b : RegSpec
  c : RegSpec
  d : RegSpec
deriving DecidableEq, Repr
/-- A destination and a third register (BQPOP, R331). -/
structure AcR where
  a : RegSpec
  c : RegSpec
deriving DecidableEq, Repr
/-- A destination and one source, with no type. -/
structure MovR where
  a : RegSpec
  b : RegSpec
deriving DecidableEq, Repr
/-- A typed instruction of one source. -/
structure T2 where
  ty : Ty
  a : RegSpec
  b : RegSpec
deriving DecidableEq, Repr
/-- A typed instruction of two sources. -/
structure T3 where
  ty : Ty
  a : RegSpec
  b : RegSpec
  c : RegSpec
deriving DecidableEq, Repr
/-- MOVI (R201). -/
structure MoviR where
  a : RegSpec
  imm : BitVec 64
deriving DecidableEq, Repr
/-- The immediate instructions (R33, R201). -/
structure ImmR where
  a : RegSpec
  b : RegSpec
  imm : BitVec 64
deriving DecidableEq, Repr
/-- CMP and FCMP (R202, R207). -/
structure CmpR where
  cond : Cond
  ty : Ty
  a : RegSpec
  b : RegSpec
  c : RegSpec
deriving DecidableEq, Repr
/-- SEL (R202). -/
structure SelR where
  a : RegSpec
  b : RegSpec
  c : RegSpec
  d : RegSpec
deriving DecidableEq, Repr
/-- BFX and BFXS (R205). -/
structure BfR where
  ty : Ty
  a : RegSpec
  b : RegSpec
  pos : BitVec 6
  len : BitVec 7
deriving DecidableEq, Repr
/-- BFI (R205). -/
structure BfiR where
  ty : Ty
  a : RegSpec
  b : RegSpec
  c : RegSpec
  pos : BitVec 6
  len : BitVec 7
deriving DecidableEq, Repr
/-- Scalar float of two sources (R207). -/
structure FR3 where
  ty : Ty
  rnd : Rnd
  sat : Bool
  a : RegSpec
  b : RegSpec
  c : RegSpec
deriving DecidableEq, Repr
/-- FFMA (R207). -/
structure FR4 where
  ty : Ty
  rnd : Rnd
  sat : Bool
  a : RegSpec
  b : RegSpec
  c : RegSpec
  d : RegSpec
deriving DecidableEq, Repr
/-- FSQRT (R207). -/
structure FR2 where
  ty : Ty
  rnd : Rnd
  sat : Bool
  a : RegSpec
  b : RegSpec
deriving DecidableEq, Repr
/-- A conversion, destination type first (R212). -/
structure CvtR where
  dt : Ty
  st : Ty
  rnd : Rnd
  sat : Bool
  a : RegSpec
  b : RegSpec
deriving DecidableEq, Repr
/-- FRND (R212). -/
structure FrndR where
  ty : Ty
  rnd : Rnd
  a : RegSpec
  b : RegSpec
deriving DecidableEq, Repr
/-- A memory operand: base, index, shift and offset (R34, R35). -/
structure MemRef where
  base : RegSpec
  idx : RegSpec
  sh : BitVec 8
  off : BitVec 32
deriving DecidableEq, Repr
/-- Loads and stores, scalar and vector (R105, R109, R260). -/
structure MemR where
  ty : Ty
  sp : Space
  sc : Scope
  hint : Hint
  a : RegSpec
  m : MemRef
deriving DecidableEq, Repr
/-- LEA (R107). -/
structure LeaR where
  a : RegSpec
  m : MemRef
deriving DecidableEq, Repr
/-- PF (R108). -/
structure PfR where
  sp : Space
  hint : Hint
  m : MemRef
deriving DecidableEq, Repr
/-- AMO, CAS and AMOF (R158); CAS holds `op` as `add`, code 0. -/
structure AmoR where
  op : AmoOp
  ty : Ty
  sp : Space
  sc : Scope
  ord : Ord
  a : RegSpec
  b : RegSpec
  c : RegSpec
  off : BitVec 32
deriving DecidableEq, Repr
/-- FENCE (R156). -/
structure FenceR where
  kind : FenceKind
  sc : Scope
deriving DecidableEq, Repr
/-- CZERO (R113). -/
structure CzeroR where
  sp : Space
  sc : Scope
  m : MemRef
deriving DecidableEq, Repr
/-- CPY and CPYR (R126): `chan` is the channel when CHS is set. -/
structure CpyR where
  g : BitVec 4
  a : RegSpec
  b : RegSpec
  ta : BitVec 12
  tb : BitVec 12
  det : Bool
  chan : Option (BitVec 2)
deriving DecidableEq, Repr
/-- CPYM (R126). -/
structure CpymR where
  g : BitVec 4
  a : RegSpec
  b : RegSpec
  ta : BitVec 12
  tb : BitVec 12
  det : Bool
  chan : Option (BitVec 2)
  lw : BitVec 3
  lh : BitVec 3
deriving DecidableEq, Repr
/-- CPYG and CPYS (R126). -/
structure CpygR where
  g : BitVec 4
  a : RegSpec
  b : RegSpec
  det : Bool
  chan : Option (BitVec 2)
deriving DecidableEq, Repr
/-- CHAN (R131). -/
structure ChanR where
  a : RegSpec
  ch : BitVec 2
deriving DecidableEq, Repr
/-- BINIT (R136): `sp` is 0 .l, 1 .c, 2 .d. -/
structure BarR where
  sp : BitVec 2
  b : RegSpec
deriving DecidableEq, Repr
/-- BPOST (R136). -/
structure BpostR where
  sp : BitVec 2
  b : RegSpec
  c : RegSpec
deriving DecidableEq, Repr
/-- BTEST (R136). -/
structure BtestR where
  sp : BitVec 2
  a : RegSpec
  b : RegSpec
  det : Bool
deriving DecidableEq, Repr
/-- HBIND without `.none` (R271): `loc` for space .l. -/
structure HbindR where
  a : RegSpec
  n : BitVec 4
  loc : Bool
  b : RegSpec
deriving DecidableEq, Repr
/-- HBIND `.none` and HSTAT (R271). -/
structure HndR where
  a : RegSpec
  n : BitVec 4
deriving DecidableEq, Repr
/-- HADVP and HADVC (R271). -/
structure HadvR where
  a : RegSpec
  n : BitVec 4
  c : RegSpec
  sc : Scope
deriving DecidableEq, Repr
/-- REP (R289). -/
structure RepR where
  mark : BitVec 20
  stag : BitVec 8
  cntm1 : BitVec 16
  n : BitVec 3
deriving DecidableEq, Repr
/-- GSET (R288). -/
structure GsetR where
  n : BitVec 4
  b : RegSpec
deriving DecidableEq, Repr
/-- TIDSET and TIDGET (R234). -/
structure TidR where
  a : RegSpec
  b : RegSpec
  id : BitVec 12
deriving DecidableEq, Repr
/-- TIDINV (R234). -/
structure TidinvR where
  a : RegSpec
  id : BitVec 12
deriving DecidableEq, Repr
/-- A vector instruction of two sources (R239, R243). -/
structure V3 where
  ty : Ty
  a : RegSpec
  b : RegSpec
  c : RegSpec
  msk : BitVec 3
deriving DecidableEq, Repr
/-- A vector instruction of one source. -/
structure V2 where
  ty : Ty
  a : RegSpec
  b : RegSpec
  msk : BitVec 3
deriving DecidableEq, Repr
/-- VABS, VEXP and VLOG2, which use SAT (R243, R244). -/
structure VabsR where
  ty : Ty
  sat : Bool
  a : RegSpec
  b : RegSpec
  msk : BitVec 3
deriving DecidableEq, Repr
/-- VFADD, VFSUB and VFMUL (R244). -/
structure VF3 where
  ty : Ty
  rnd : Rnd
  sat : Bool
  a : RegSpec
  b : RegSpec
  c : RegSpec
  msk : BitVec 3
deriving DecidableEq, Repr
/-- VFMA (R244). -/
structure VF4 where
  ty : Ty
  rnd : Rnd
  sat : Bool
  a : RegSpec
  b : RegSpec
  c : RegSpec
  d : RegSpec
  msk : BitVec 3
deriving DecidableEq, Repr
/-- VRCP and VRSQ (R244). -/
structure VF2 where
  ty : Ty
  rnd : Rnd
  sat : Bool
  a : RegSpec
  b : RegSpec
  msk : BitVec 3
deriving DecidableEq, Repr
/-- VFCVT (R248, R250). -/
structure VfcvtR where
  dt : Ty
  st : Ty
  rnd : Rnd
  sat : Bool
  a : RegSpec
  b : RegSpec
  part : BitVec 3
  msk : BitVec 3
deriving DecidableEq, Repr
/-- VCMP and VFCMP (R251). -/
structure VcmpR where
  cond : Cond
  ty : Ty
  a : RegSpec
  b : RegSpec
  c : RegSpec
  msk : BitVec 3
deriving DecidableEq, Repr
/-- VBCAST (R251). -/
structure VbcastR where
  ty : Ty
  a : RegSpec
  b : RegSpec
  lane : BitVec 6
  msk : BitVec 3
deriving DecidableEq, Repr
/-- VSLIDE (R252): `up` for direction `.up`. -/
structure VslideR where
  ty : Ty
  up : Bool
  a : RegSpec
  b : RegSpec
  c : RegSpec
  d : RegSpec
  msk : BitVec 3
deriving DecidableEq, Repr
/-- VIOTA (R251). -/
structure ViotaR where
  ty : Ty
  a : RegSpec
  msk : BitVec 3
deriving DecidableEq, Repr
/-- VRED (R254). -/
structure VredR where
  op : RedOp
  ty : Ty
  a : RegSpec
  b : RegSpec
  msk : BitVec 3
deriving DecidableEq, Repr
/-- VFRED (R254). -/
structure VfredR where
  op : RedOp
  ty : Ty
  rnd : Rnd
  sat : Bool
  a : RegSpec
  b : RegSpec
  msk : BitVec 3
deriving DecidableEq, Repr
/-- VSCAN (R254): `ex` for an exclusive scan. -/
structure VscanR where
  op : RedOp
  ex : Bool
  ty : Ty
  a : RegSpec
  b : RegSpec
  msk : BitVec 3
deriving DecidableEq, Repr
/-- VFSCAN (R254). -/
structure VfscanR where
  op : RedOp
  ex : Bool
  ty : Ty
  rnd : Rnd
  sat : Bool
  a : RegSpec
  b : RegSpec
  msk : BitVec 3
deriving DecidableEq, Repr
/-- ACFG (R291). -/
structure AcfgR where
  g : BitVec 4
  a : RegSpec
  det : Bool
  size : BitVec 2
deriving DecidableEq, Repr
/-- AMMA (R291): `c` and `d` are the handle fields. -/
structure AmmaR where
  g : BitVec 4
  a : RegSpec
  b : RegSpec
  c : RegSpec
  d : RegSpec
  ta : BitVec 12
  tb : BitVec 12
  det : Bool
  adva : Bool
  advb : Bool
  ska : BitVec 4
  skb : BitVec 4
deriving DecidableEq, Repr
/-- AZERO (R291). -/
structure AzeroR where
  g : BitVec 4
  a : RegSpec
  det : Bool
  mask : BitVec 4
deriving DecidableEq, Repr
/-- ARD (R291). -/
structure ArdR where
  g : BitVec 4
  a : RegSpec
  b : RegSpec
  d : RegSpec
  det : Bool
  rnd : Rnd
  sat : Bool
deriving DecidableEq, Repr
/-- ATQ (R305). -/
structure AtqR where
  g : BitVec 4
  a : RegSpec
  b : RegSpec
  d : RegSpec
  det : Bool
deriving DecidableEq, Repr
/-- A guardable engine command of a token and one source (R305, R347). -/
structure EngR where
  g : BitVec 4
  a : RegSpec
  b : RegSpec
  det : Bool
deriving DecidableEq, Repr
/-- ATCNT (R305). -/
structure AtcntR where
  g : BitVec 4
  a : RegSpec
  b : RegSpec
  det : Bool
  sel : BitVec 5
deriving DecidableEq, Repr
/-- SMPL (R331). -/
structure SmplR where
  a : RegSpec
  b : RegSpec
  det : Bool
  tid : BitVec 12
deriving DecidableEq, Repr
/-- TOPK, GMASK and GSTEP (R331). -/
structure GenR where
  a : RegSpec
  b : RegSpec
  det : Bool
deriving DecidableEq, Repr
/-- B (R352). -/
structure BrR where
  cond : Cond
  a : RegSpec
  b : RegSpec
  tslot : BitVec 3
  loff : BitVec 32
deriving DecidableEq, Repr
/-- J and JL (R352). -/
structure JmpR where
  tslot : BitVec 3
  loff : BitVec 32
deriving DecidableEq, Repr
/-- LSET (R358). -/
structure LsetR where
  k : Bool
  sloff : BitVec 20
  sslot : BitVec 3
  eloff : BitVec 20
  eslot : BitVec 3
  b : RegSpec
deriving DecidableEq, Repr
/-- SEND (R386). -/
structure SendR where
  a : RegSpec
  b : RegSpec
  c : RegSpec
  d : RegSpec
  hnd : BitVec 8
  len : BitVec 8
  pri : Bool
  setm : BitVec 4
deriving DecidableEq, Repr
/-- TINFO and ASTAT (R390, R185). -/
structure TinfoR where
  a : RegSpec
  sel : BitVec 4
deriving DecidableEq, Repr
/-- EVSIG and EVSET (R386). -/
structure EvR where
  a : RegSpec
  b : RegSpec
  c : RegSpec
  name : BitVec 16
  sc : Scope
deriving DecidableEq, Repr
/-- EVCLR and EVREAD (R386). -/
structure EvcR where
  a : RegSpec
  c : RegSpec
  name : BitVec 16
  sc : Scope
deriving DecidableEq, Repr
/-- SFORK without `.root` (R405). -/
structure SforkR where
  a : RegSpec
  b : RegSpec
  n : BitVec 4
  hor : BitVec 16
  pers : Bool
  loff : BitVec 18
deriving DecidableEq, Repr
/-- SFORK `.root` (R405). -/
structure SforkRootR where
  a : RegSpec
  c : RegSpec
  d : RegSpec
  n : BitVec 4
  hor : BitVec 16
  pers : Bool
  loff : BitVec 18
deriving DecidableEq, Repr
/-- SJOIN (R405): `red` is 0 max, 1 sum, 2 mean. -/
structure SjoinR where
  a : RegSpec
  b : RegSpec
  red : BitVec 2
  keep : BitVec 4
  adopt : Bool
  wait : Bool
  ooff : BitVec 18
deriving DecidableEq, Repr
/-- SGATE (R405). -/
structure SgateR where
  a : RegSpec
  b : RegSpec
  layer : BitVec 10
deriving DecidableEq, Repr
/-- SMIG (R405). -/
structure SmigR where
  a : RegSpec
  b : RegSpec
  x0 : BitVec 5
  x1 : BitVec 5
  x2 : BitVec 5
  x3 : BitVec 5
  die : BitVec 3
  unlink : Bool
deriving DecidableEq, Repr
/-- ADECL (R185): `dsp` for space .d. -/
structure AdeclR where
  a : RegSpec
  b : RegSpec
  sz : BitVec 4
  slot : BitVec 2
  dsp : Bool
deriving DecidableEq, Repr
/-- CSRRD (R432). -/
structure CsrR where
  a : RegSpec
  csr : BitVec 16
deriving DecidableEq, Repr
/-- CSRWR (R432). -/
structure CsrwR where
  a : RegSpec
  b : RegSpec
  csr : BitVec 16
deriving DecidableEq, Repr
/-- TLBI (R432): `byAddr` for kind 1, `pkg` for scope pkg. -/
structure TlbiR where
  a : RegSpec
  b : RegSpec
  byAddr : Bool
  pkg : Bool
deriving DecidableEq, Repr
/-- TRAP (R432). -/
structure TrapR where
  b : RegSpec
  code : BitVec 32
deriving DecidableEq, Repr
/-- FAULT (R432). -/
structure FaultR where
  b : RegSpec
  code : BitVec 16
deriving DecidableEq, Repr
/-- MADD and MSUB of the mask unit (R317, R318). -/
structure MaskR where
  d : BitVec 3
  a : BitVec 3
  b : BitVec 3
  imm : BitVec 17
deriving DecidableEq, Repr
/-- The other three-register mask words. -/
structure Mask3 where
  d : BitVec 3
  a : BitVec 3
  b : BitVec 3
deriving DecidableEq, Repr

/-- What a MIGREQ packet carries of a stream in transfer (R403, R444, R446). -/
inductive MigPart
  | entry (e : BitVec 512)
  | queue (acts : List (BitVec 512))
  | page (idx off : Nat) (data : List Byte)
deriving DecidableEq, Repr

/-- A MIGREQ packet: the package it comes from and the transfer of that package to which it belongs, the
destination die, the gang whose grid is to take the stream, its part, and whether it is the last packet of the
transfer (R446). -/
structure MigPacket where
  src : Nat
  xfer : Nat
  die : BitVec 3
  gangid : Nat
  part : MigPart
  last : Bool
deriving DecidableEq, Repr

/-- A GANG packet: READY, or LATE, of one package for one slice, with the sender's GT (R444). -/
structure GangPacket where
  src : Nat
  late : Bool
  gangid : Nat
  slice : Nat
  gt : Nat
deriving DecidableEq, Repr

/-- An entry of the gang schedule that the host gives every package: the slice, its instant in GT, the job
that owns it with its report window, and the packages of the job (R384, log 20). -/
structure GangSlice where
  slice : Nat
  at_ : Nat
  gangid : Nat
  gwin : Nat
  members : List Nat
deriving DecidableEq, Repr

/-- A link: the bridge between two forge dies, a die's link to its crucible, or a Beydex port (R421). -/
inductive LinkId
  | bridge (a b : Nat)
  | crucible (d : Nat)
  | port (p : Nat)
deriving DecidableEq, Repr

/-- What the host writes: its registers and its context table (R438 to R441), or memory at sys
scope (R438, R440). -/
inductive HostWrite
  | qbase (q : Nat) (v : BitVec 64)
  | qlog (q : Nat) (v : BitVec 4)
  | msgArea (die : Nat) (base len : Nat)
  | evArea (die : Nat) (base len : Nat)
  | lockArea (die : Nat) (base len : Nat)
  | hearthArea (die : Nat) (base len : Nat)
  | gangArea (base len : Nat)
  | coords (x0 x1 x2 x3 : BitVec 5)
  | context (asid : Nat) (entry : BitVec 512)
  | store (pa : Nat) (data : List Byte)
  | replay (launchid : Nat) (recs : List (Nat × Nat))
  | schedule (l : List GangSlice)
  | packet (dst : List Nat) (flits : List (BitVec 512))
deriving DecidableEq, Repr

/-- The instructions: one constructor for each row of spec/opcode_table.json. -/
inductive Instr
  /-- NOP: class 0x00, function 0x00 (R46). -/
  | nop
  /-- HINT: class 0x00, function 0x01 to 0x3F (R46). -/
  | hint (n : BitVec 6)
  /-- ADD: class 0x01, function 0x00 (R200). -/
  | add (x : T3)
  /-- SUB: class 0x01, function 0x01 (R200). -/
  | sub (x : T3)
  /-- MUL: class 0x01, function 0x02 (R200). -/
  | mul (x : T3)
  /-- MULH: class 0x01, function 0x03 (R200). -/
  | mulh (x : T3)
  /-- MULHN: class 0x01, function 0x04 (R200). -/
  | mulhn (x : T3)
  /-- DIV: class 0x01, function 0x05 (R200). -/
  | div (x : T3)
  /-- DIVN: class 0x01, function 0x06 (R200). -/
  | divn (x : T3)
  /-- REM: class 0x01, function 0x07 (R200). -/
  | rem (x : T3)
  /-- REMN: class 0x01, function 0x08 (R200). -/
  | remn (x : T3)
  /-- AND: class 0x01, function 0x09 (R200). -/
  | and (x : T3)
  /-- OR: class 0x01, function 0x0A (R200). -/
  | or (x : T3)
  /-- XOR: class 0x01, function 0x0B (R200). -/
  | xor (x : T3)
  /-- ANDN: class 0x01, function 0x0C (R200). -/
  | andn (x : T3)
  /-- SHL: class 0x01, function 0x0D (R200). -/
  | shl (x : T3)
  /-- SHR: class 0x01, function 0x0E (R200). -/
  | shr (x : T3)
  /-- SAR: class 0x01, function 0x0F (R200). -/
  | sar (x : T3)
  /-- ROL: class 0x01, function 0x10 (R200). -/
  | rol (x : T3)
  /-- MIN: class 0x01, function 0x11 (R200). -/
  | min (x : T3)
  /-- MAX: class 0x01, function 0x12 (R200). -/
  | max (x : T3)
  /-- MINN: class 0x01, function 0x13 (R200). -/
  | minn (x : T3)
  /-- MAXN: class 0x01, function 0x14 (R200). -/
  | maxn (x : T3)
  /-- SADD: class 0x01, function 0x15 (R200). -/
  | sadd (x : T3)
  /-- SSUB: class 0x01, function 0x16 (R200). -/
  | ssub (x : T3)
  /-- MOVI: class 0x02, function 0x00 (R201). -/
  | movi (x : MoviR)
  /-- ADDI: class 0x02, function 0x01 (R201). -/
  | addi (x : ImmR)
  /-- ANDI: class 0x02, function 0x02 (R201). -/
  | andi (x : ImmR)
  /-- ORI: class 0x02, function 0x03 (R201). -/
  | ori (x : ImmR)
  /-- XORI: class 0x02, function 0x04 (R201). -/
  | xori (x : ImmR)
  /-- SHLI: class 0x02, function 0x05 (R201). -/
  | shli (x : ImmR)
  /-- SHRI: class 0x02, function 0x06 (R201). -/
  | shri (x : ImmR)
  /-- SARI: class 0x02, function 0x07 (R201). -/
  | sari (x : ImmR)
  /-- CMP: class 0x03, function 0x00 (R203). -/
  | cmp (x : CmpR)
  /-- SEL: class 0x03, function 0x01 (R203). -/
  | sel (x : SelR)
  /-- MOV: class 0x03, function 0x02 (R203). -/
  | mov (x : MovR)
  /-- CLZ: class 0x03, function 0x03 (R204). -/
  | clz (x : T2)
  /-- CTZ: class 0x03, function 0x04 (R204). -/
  | ctz (x : T2)
  /-- POPC: class 0x03, function 0x05 (R204). -/
  | popc (x : T2)
  /-- BREV: class 0x03, function 0x06 (R204). -/
  | brev (x : T2)
  /-- BSWAP: class 0x03, function 0x07 (R204). -/
  | bswap (x : T2)
  /-- BFX: class 0x03, function 0x08 (R205). -/
  | bfx (x : BfR)
  /-- BFXS: class 0x03, function 0x09 (R205). -/
  | bfxs (x : BfR)
  /-- BFI: class 0x03, function 0x0A (R205). -/
  | bfi (x : BfiR)
  /-- SEXT: class 0x03, function 0x0B (R206). -/
  | sext (x : T2)
  /-- ZEXT: class 0x03, function 0x0C (R206). -/
  | zext (x : T2)
  /-- FADD: class 0x04, function 0x00 (R208). -/
  | fadd (x : FR3)
  /-- FSUB: class 0x04, function 0x01 (R208). -/
  | fsub (x : FR3)
  /-- FMUL: class 0x04, function 0x02 (R208). -/
  | fmul (x : FR3)
  /-- FFMA: class 0x04, function 0x03 (R208). -/
  | ffma (x : FR4)
  /-- FDIV: class 0x04, function 0x04 (R208). -/
  | fdiv (x : FR3)
  /-- FSQRT: class 0x04, function 0x05 (R208). -/
  | fsqrt (x : FR2)
  /-- FMIN: class 0x04, function 0x06 (R210). -/
  | fmin (x : T3)
  /-- FMAX: class 0x04, function 0x07 (R210). -/
  | fmax (x : T3)
  /-- FCMP: class 0x04, function 0x08 (R211). -/
  | fcmp (x : CmpR)
  /-- FCLASS: class 0x04, function 0x09 (R211). -/
  | fclass (x : T2)
  /-- FABS: class 0x04, function 0x0A (R210). -/
  | fabs (x : T2)
  /-- FNEG: class 0x04, function 0x0B (R210). -/
  | fneg (x : T2)
  /-- FCVT: class 0x05, function 0x00 (R213). -/
  | fcvt (x : CvtR)
  /-- FCVTI: class 0x05, function 0x01 (R214). -/
  | fcvti (x : CvtR)
  /-- ICVTF: class 0x05, function 0x02 (R215). -/
  | icvtf (x : CvtR)
  /-- FRND: class 0x05, function 0x03 (R216). -/
  | frnd (x : FrndR)
  /-- LD: class 0x06, function 0x00 (R105). -/
  | ld (x : MemR)
  /-- LDA: class 0x06, function 0x01 (R106). -/
  | lda (x : MemR)
  /-- LEA: class 0x06, function 0x02 (R107). -/
  | lea (x : LeaR)
  /-- PF: class 0x06, function 0x03 (R108). -/
  | pf (x : PfR)
  /-- ST: class 0x07, function 0x00 (R109). -/
  | st (x : MemR)
  /-- STL: class 0x07, function 0x01 (R110). -/
  | stl (x : MemR)
  /-- AMO: class 0x08, function 0x00 (R159). -/
  | amo (x : AmoR)
  /-- CAS: class 0x08, function 0x01 (R159). -/
  | cas (x : AmoR)
  /-- AMOF: class 0x08, function 0x02 (R159). -/
  | amof (x : AmoR)
  /-- FENCE: class 0x09, function 0x00 (R156). -/
  | fence (x : FenceR)
  /-- SWF: class 0x09, function 0x01 (R111). -/
  | swf (clus : Bool)
  /-- CFLUSH: class 0x09, function 0x02 (R112). -/
  | cflush (m : MemRef)
  /-- CINV: class 0x09, function 0x03 (R112). -/
  | cinv (m : MemRef)
  /-- CZERO: class 0x09, function 0x04 (R113). -/
  | czero (x : CzeroR)
  /-- CPY: class 0x0A, function 0x00 (R127). -/
  | cpy (x : CpyR)
  /-- CPYM: class 0x0A, function 0x01 (R128). -/
  | cpym (x : CpymR)
  /-- CPYR: class 0x0A, function 0x02 (R129). -/
  | cpyr (x : CpyR)
  /-- CPYG: class 0x0A, function 0x03 (R130). -/
  | cpyg (x : CpygR)
  /-- CPYS: class 0x0A, function 0x04 (R130). -/
  | cpys (x : CpygR)
  /-- CHAN_READ: class 0x0A, function 0x05 (R131). -/
  | chanRead (x : ChanR)
  /-- CHAN_ADDR: class 0x0A, function 0x05 (R131). -/
  | chanAddr (x : ChanR)
  /-- CHAN_ABORT: class 0x0A, function 0x05 (R131). -/
  | chanAbort (x : ChanR)
  /-- BINIT: class 0x0B, function 0x00 (R136). -/
  | binit (x : BarR)
  /-- BPOST: class 0x0B, function 0x01 (R136). -/
  | bpost (x : BpostR)
  /-- BTEST: class 0x0B, function 0x02 (R136). -/
  | btest (x : BtestR)
  /-- HBIND: class 0x0C, function 0x00 (R272). -/
  | hbind (x : HbindR)
  /-- HBIND_NONE: class 0x0C, function 0x00 (R272). -/
  | hbindNone (x : HndR)
  /-- HADVP: class 0x0C, function 0x01 (R273). -/
  | hadvp (x : HadvR)
  /-- HADVC: class 0x0C, function 0x02 (R273). -/
  | hadvc (x : HadvR)
  /-- HSTAT: class 0x0C, function 0x03 (R273). -/
  | hstat (x : HndR)
  /-- REP: class 0x0C, function 0x04 (R290). -/
  | rep (x : RepR)
  /-- GSET: class 0x0C, function 0x05 (R288). -/
  | gset (x : GsetR)
  /-- GCLR: class 0x0C, function 0x06 (R288). -/
  | gclr (n : BitVec 4)
  /-- TIDSET: class 0x0D, function 0x00 (R234). -/
  | tidset (x : TidR)
  /-- TIDGET: class 0x0D, function 0x01 (R234). -/
  | tidget (x : TidR)
  /-- TIDINV: class 0x0D, function 0x02 (R234). -/
  | tidinv (x : TidinvR)
  /-- VADD: class 0x10, function 0x00 (R243). -/
  | vadd (x : V3)
  /-- VSUB: class 0x10, function 0x01 (R243). -/
  | vsub (x : V3)
  /-- VMUL: class 0x10, function 0x02 (R243). -/
  | vmul (x : V3)
  /-- VMULH: class 0x10, function 0x03 (R243). -/
  | vmulh (x : V3)
  /-- VMIN: class 0x10, function 0x04 (R243). -/
  | vmin (x : V3)
  /-- VMAX: class 0x10, function 0x05 (R243). -/
  | vmax (x : V3)
  /-- VABS: class 0x10, function 0x06 (R243). -/
  | vabs (x : VabsR)
  /-- VSADD: class 0x10, function 0x07 (R243). -/
  | vsadd (x : V3)
  /-- VSSUB: class 0x10, function 0x08 (R243). -/
  | vssub (x : V3)
  /-- VSHL: class 0x10, function 0x09 (R243). -/
  | vshl (x : V3)
  /-- VSHR: class 0x10, function 0x0A (R243). -/
  | vshr (x : V3)
  /-- VSAR: class 0x10, function 0x0B (R243). -/
  | vsar (x : V3)
  /-- VAND: class 0x10, function 0x0C (R243). -/
  | vand (x : V3)
  /-- VOR: class 0x10, function 0x0D (R243). -/
  | vor (x : V3)
  /-- VXOR: class 0x10, function 0x0E (R243). -/
  | vxor (x : V3)
  /-- VNOT: class 0x10, function 0x0F (R243). -/
  | vnot (x : V2)
  /-- VFADD: class 0x11, function 0x00 (R245). -/
  | vfadd (x : VF3)
  /-- VFSUB: class 0x11, function 0x01 (R245). -/
  | vfsub (x : VF3)
  /-- VFMUL: class 0x11, function 0x02 (R245). -/
  | vfmul (x : VF3)
  /-- VFMA: class 0x11, function 0x03 (R245). -/
  | vfma (x : VF4)
  /-- VFMIN: class 0x11, function 0x04 (R245). -/
  | vfmin (x : V3)
  /-- VFMAX: class 0x11, function 0x05 (R245). -/
  | vfmax (x : V3)
  /-- VFABS: class 0x11, function 0x06 (R245). -/
  | vfabs (x : V2)
  /-- VFNEG: class 0x11, function 0x07 (R245). -/
  | vfneg (x : V2)
  /-- VFCVT: class 0x11, function 0x08 (R248). -/
  | vfcvt (x : VfcvtR)
  /-- VRCP: class 0x11, function 0x09 (R246). -/
  | vrcp (x : VF2)
  /-- VRSQ: class 0x11, function 0x0A (R246). -/
  | vrsq (x : VF2)
  /-- VEXP: class 0x11, function 0x0B (R247). -/
  | vexp (x : VabsR)
  /-- VLOG2: class 0x11, function 0x0C (R247). -/
  | vlog2 (x : VabsR)
  /-- VCMP: class 0x12, function 0x00 (R251). -/
  | vcmp (x : VcmpR)
  /-- VFCMP: class 0x12, function 0x01 (R251). -/
  | vfcmp (x : VcmpR)
  /-- VSEL: class 0x12, function 0x02 (R251). -/
  | vsel (x : V3)
  /-- VPERM: class 0x12, function 0x03 (R251). -/
  | vperm (x : V3)
  /-- VBCAST: class 0x12, function 0x04 (R251). -/
  | vbcast (x : VbcastR)
  /-- VEXTR: class 0x12, function 0x05 (R251). -/
  | vextr (x : T3)
  /-- VINS: class 0x12, function 0x06 (R251). -/
  | vins (x : T3)
  /-- VSLIDE: class 0x12, function 0x07 (R252). -/
  | vslide (x : VslideR)
  /-- VCOMP: class 0x12, function 0x08 (R253). -/
  | vcomp (x : V2)
  /-- VIOTA: class 0x12, function 0x09 (R251). -/
  | viota (x : ViotaR)
  /-- VRED: class 0x13, function 0x00 (R255). -/
  | vred (x : VredR)
  /-- VFRED: class 0x13, function 0x01 (R256). -/
  | vfred (x : VfredR)
  /-- VSCAN: class 0x13, function 0x02 (R255). -/
  | vscan (x : VscanR)
  /-- VFSCAN: class 0x13, function 0x03 (R257). -/
  | vfscan (x : VfscanR)
  /-- VARGMAX: class 0x13, function 0x04 (R258). -/
  | vargmax (x : V3)
  /-- VLD: class 0x14, function 0x00 (R260). -/
  | vld (x : MemR)
  /-- VST: class 0x14, function 0x01 (R260). -/
  | vst (x : MemR)
  /-- VLDS: class 0x14, function 0x02 (R260). -/
  | vlds (x : MemR)
  /-- VSTS: class 0x14, function 0x03 (R260). -/
  | vsts (x : MemR)
  /-- VGATH: class 0x14, function 0x04 (R260). -/
  | vgath (x : MemR)
  /-- VSCAT: class 0x14, function 0x05 (R260). -/
  | vscat (x : MemR)
  /-- MAND: class 0x15, function 0x00 (R259). -/
  | mand (x : T3)
  /-- MOR: class 0x15, function 0x01 (R259). -/
  | mor (x : T3)
  /-- MXOR: class 0x15, function 0x02 (R259). -/
  | mxor (x : T3)
  /-- MNOT: class 0x15, function 0x03 (R259). -/
  | mnot (x : T2)
  /-- MPOPC: class 0x15, function 0x04 (R259). -/
  | mpopc (x : T2)
  /-- MFIRST: class 0x15, function 0x05 (R259). -/
  | mfirst (x : T2)
  /-- MSET: class 0x15, function 0x06 (R259). -/
  | mset (x : T2)
  /-- MGET: class 0x15, function 0x07 (R259). -/
  | mget (x : T2)
  /-- ACFG: class 0x18, function 0x00 (R291). -/
  | acfg (x : AcfgR)
  /-- AMMA: class 0x18, function 0x01 (R277). -/
  | amma (x : AmmaR)
  /-- AZERO: class 0x18, function 0x02 (R291). -/
  | azero (x : AzeroR)
  /-- ARD: class 0x18, function 0x03 (R293). -/
  | ard (x : ArdR)
  /-- ATQ: class 0x1A, function 0x00 (R305). -/
  | atq (x : AtqR)
  /-- ATAPP: class 0x1A, function 0x01 (R309). -/
  | atapp (x : EngR)
  /-- ATSEQ_CREATE: class 0x1A, function 0x02 (R310). -/
  | atseqCreate (x : EngR)
  /-- ATSEQ_FORK: class 0x1A, function 0x02 (R310). -/
  | atseqFork (x : EngR)
  /-- ATSEQ_COMMIT: class 0x1A, function 0x02 (R310). -/
  | atseqCommit (x : EngR)
  /-- ATSEQ_TRIM: class 0x1A, function 0x02 (R310). -/
  | atseqTrim (x : EngR)
  /-- ATSEQ_FREE: class 0x1A, function 0x02 (R310). -/
  | atseqFree (x : EngR)
  /-- ATSEQ_REPORT: class 0x1A, function 0x02 (R310). -/
  | atseqReport (x : EngR)
  /-- ATMSK: class 0x1A, function 0x03 (R313). -/
  | atmsk (x : EngR)
  /-- ATCNT: class 0x1A, function 0x04 (R314). -/
  | atcnt (x : AtcntR)
  /-- SMPL: class 0x1B, function 0x00 (R335). -/
  | smpl (x : SmplR)
  /-- TOPK: class 0x1B, function 0x01 (R337). -/
  | topk (x : GenR)
  /-- GMASK: class 0x1B, function 0x02 (R342). -/
  | gmask (x : GenR)
  /-- GSTEP: class 0x1B, function 0x03 (R342). -/
  | gstep (x : GenR)
  /-- BQCFG: class 0x1B, function 0x04 (R349). -/
  | bqcfg (x : MovR)
  /-- BQPUSH: class 0x1B, function 0x05 (R349). -/
  | bqpush (x : A3)
  /-- BQPOP: class 0x1B, function 0x06 (R349). -/
  | bqpop (x : AcR)
  /-- BQSTAT: class 0x1B, function 0x07 (R349). -/
  | bqstat (a : RegSpec)
  /-- CRED: class 0x1C, function 0x00 (R347). -/
  | cred (x : EngR)
  /-- CSCAN: class 0x1C, function 0x01 (R347). -/
  | cscan (x : EngR)
  /-- CBC: class 0x1C, function 0x02 (R347). -/
  | cbc (x : EngR)
  /-- CGATH: class 0x1C, function 0x03 (R347). -/
  | cgath (x : EngR)
  /-- B: class 0x20, function 0x00 (R353). -/
  | b (x : BrR)
  /-- J: class 0x20, function 0x01 (R353). -/
  | j (x : JmpR)
  /-- JL: class 0x20, function 0x02 (R353). -/
  | jl (x : JmpR)
  /-- JR: class 0x20, function 0x03 (R353). -/
  | jr (a : RegSpec)
  /-- JLR: class 0x20, function 0x04 (R353). -/
  | jlr (a : RegSpec)
  /-- LSET: class 0x21, function 0x00 (R359). -/
  | lset (x : LsetR)
  /-- LCLR: class 0x21, function 0x01 (R362). -/
  | lclr (w : BitVec 2)
  /-- SEND: class 0x22, function 0x00 (R387). -/
  | send (x : SendR)
  /-- TSPAWN: class 0x22, function 0x01 (R388). -/
  | tspawn (x : MovR)
  /-- TEND: class 0x22, function 0x02 (R389). -/
  | tend (sc : Scope)
  /-- TINFO: class 0x22, function 0x03 (R390). -/
  | tinfo (x : TinfoR)
  /-- EVSIG: class 0x23, function 0x00 (R391). -/
  | evsig (x : EvR)
  /-- EVSET: class 0x23, function 0x01 (R391). -/
  | evset (x : EvR)
  /-- EVCLR: class 0x23, function 0x02 (R391). -/
  | evclr (x : EvcR)
  /-- EVREAD: class 0x23, function 0x03 (R391). -/
  | evread (x : EvcR)
  /-- SFORK: class 0x24, function 0x00 (R395). -/
  | sfork (x : SforkR)
  /-- SFORK_ROOT: class 0x24, function 0x00 (R395). -/
  | sforkRoot (x : SforkRootR)
  /-- SJOIN: class 0x24, function 0x01 (R400). -/
  | sjoin (x : SjoinR)
  /-- SKILL: class 0x24, function 0x02 (R401). -/
  | skill (x : MovR)
  /-- SSTEP: class 0x24, function 0x03 (R396). -/
  | sstep (x : MovR)
  /-- SACT: class 0x24, function 0x04 (R396). -/
  | sact (x : A3)
  /-- SPOPA: class 0x24, function 0x05 (R396). -/
  | spopa (x : A3)
  /-- SRET: class 0x24, function 0x06 (R396). -/
  | sret (x : A3)
  /-- SGATE: class 0x24, function 0x07 (R398). -/
  | sgate (x : SgateR)
  /-- SMIG: class 0x24, function 0x08 (R403). -/
  | smig (x : SmigR)
  /-- SFLAT: class 0x24, function 0x09 (R402). -/
  | sflat (x : MovR)
  /-- SINFO: class 0x24, function 0x0A (R405). -/
  | sinfo (x : A3)
  /-- ADECL: class 0x25, function 0x00 (R186). -/
  | adecl (x : AdeclR)
  /-- ASTAT: class 0x25, function 0x01 (R187). -/
  | astat (x : TinfoR)
  /-- CSRRD: class 0x30, function 0x00 (R433). -/
  | csrrd (x : CsrR)
  /-- CSRWR: class 0x30, function 0x01 (R433). -/
  | csrwr (x : CsrwR)
  /-- TIME: class 0x30, function 0x02 (R434). -/
  | time (a : RegSpec)
  /-- TIME_UNTIL: class 0x30, function 0x02 (R434). -/
  | timeUntil (x : MovR)
  /-- TLBI: class 0x30, function 0x03 (R435). -/
  | tlbi (x : TlbiR)
  /-- TRACE: class 0x30, function 0x04 (R436). -/
  | trace (x : A3)
  /-- BRK: class 0x31, function 0x00 (R437). -/
  | brk (code : BitVec 32)
  /-- TRAP: class 0x31, function 0x01 (R437). -/
  | trap (x : TrapR)
  /-- WINRD: class 0x31, function 0x02 (R416). -/
  | winrd (x : A4)
  /-- WINWR: class 0x31, function 0x03 (R416). -/
  | winwr (x : A4)
  /-- RESUME_RETRY: class 0x31, function 0x04 (R417). -/
  | resumeRetry (x : MovR)
  /-- RESUME_SKIP: class 0x31, function 0x04 (R417). -/
  | resumeSkip (x : MovR)
  /-- RESUME_DROP: class 0x31, function 0x04 (R417). -/
  | resumeDrop (x : MovR)
  /-- FAULT: class 0x31, function 0x05 (R419). -/
  | fault (x : FaultR)
  /-- MLQ: a mask word (R318). -/
  | mlq (d : BitVec 3)
  /-- MLK: a mask word (R318). -/
  | mlk (d : BitVec 3)
  /-- MLDQ: a mask word (R318). -/
  | mldq (d : BitVec 3)
  /-- MLDK: a mask word (R318). -/
  | mldk (d : BitVec 3)
  /-- MLA: a mask word (R318). -/
  | mla (d : BitVec 3)
  /-- MLP: a mask word (R318). -/
  | mlp (d : BitVec 3) (imm : BitVec 17)
  /-- MLI: a mask word (R318). -/
  | mli (d : BitVec 3) (imm : BitVec 17)
  /-- MADD: a mask word (R318). -/
  | madd (x : MaskR)
  /-- MSUB: a mask word (R318). -/
  | msub (x : MaskR)
  /-- MMIN: a mask word (R318). -/
  | mmin (x : Mask3)
  /-- MMAX: a mask word (R318). -/
  | mmax (x : Mask3)
  /-- MCLT: a mask word (R318). -/
  | mclt (x : Mask3)
  /-- MCLE: a mask word (R318). -/
  | mcle (x : Mask3)
  /-- MCEQ: a mask word (R318). -/
  | mceq (x : Mask3)
  /-- MBAND: a mask word (R318). -/
  | mband (x : Mask3)
  /-- MBOR: a mask word (R318). -/
  | mbor (x : Mask3)
  /-- MBNOT: a mask word (R318). -/
  | mbnot (d a : BitVec 3)
  /-- MVIS: a mask word (R318). -/
  | mvis (a : BitVec 3)
  /-- LINE_FETCH: a step of an agent (R23, R24, R25, R26). -/
  | lineFetch (c : Nat) (hi : Bool)
  /-- LINE_REFETCH: a step of an agent (R25). -/
  | lineRefetch (c : Nat) (hi : Bool)
  /-- RESULT_WRITEBACK: a step of an agent (R189, R190, R195, R208). -/
  | resultWriteback (k : Nat)
  /-- HOME_SLICE_ARRIVAL: a step of an agent (R58, R85, R86, R98). -/
  | homeSliceArrival (k : Nat)
  /-- HOME_SLICE_FILL: a step of an agent (R58, R59, R85, R86). -/
  | homeSliceFill (k : Nat)
  /-- WRITE_THROUGH_ACK: a step of an agent (R89, R90, R112, R146). -/
  | writeThroughAck (k : Nat)
  /-- LOAD_RETURN: a step of an agent (R105). -/
  | loadReturn (k : Nat)
  /-- L1_EVICTION: a step of an agent (R92). -/
  | l1Eviction (c line : Nat)
  /-- PORT_ARRIVAL: a step of an agent (R97, R98, R99, R157). -/
  | portArrival (k : Nat)
  /-- HEARTH_SLICE_ARRIVAL: a step of an agent (R79, R80, R81, R84). -/
  | hearthSliceArrival (k : Nat)
  /-- HOST_WINDOW_ACCESS: a step of an agent (R484). -/
  | hostWindowAccess (k : Nat)
  /-- TRACE_RING_DRAIN: a step of an agent (R99). -/
  | traceRingDrain (ring : Nat)
  /-- CLUSTER_TLB_LOOKUP: a step of an agent (R68, R72, R73). -/
  | clusterTlbLookup (k : Nat)
  /-- TABLE_WALK: a step of an agent (R60, R69, R70, R73). -/
  | tableWalk (k : Nat)
  /-- WALK_ENTRY_READ: a step of an agent (R63, R64, R65, R66). -/
  | walkEntryRead (k : Nat)
  /-- WALK_INSTALL: a step of an agent (R72, R73, R74). -/
  | walkInstall (k : Nat)
  /-- DIRTY_UPDATE: a step of an agent (R66). -/
  | dirtyUpdate (k : Nat)
  /-- TLBI_COMPLETE: a step of an agent (R77, R435). -/
  | tlbiComplete (k : Nat)
  /-- HOST_INVALIDATE: a step of an agent (R76). -/
  | hostInvalidate (kind : BitVec 2) (asid va : Nat) (die : Option Nat)
  /-- HEARTH_SPILL: a step of an agent (R103). -/
  | hearthSpill (d : Nat)
  /-- HEARTH_FILL: a step of an agent (R103). -/
  | hearthFill (d page : Nat)
  /-- TONGS_COMMAND_START: a step of an agent (R115, R116, R117, R119). -/
  | tongsCommandStart (c : Nat)
  /-- TONGS_PIECE_LAND: a step of an agent (R59, R115, R117, R121). -/
  | tongsPieceLand (c ch : Nat)
  /-- TONGS_PIECE_ACK: a step of an agent (R117). -/
  | tongsPieceAck (k : Nat)
  /-- TOKEN_WRITE: a step of an agent (R117, R124, R125, R336). -/
  | tokenWrite (k : Nat)
  /-- BARRIER_ARRIVE: a step of an agent (R135, R136). -/
  | barrierArrive (k : Nat)
  /-- PENDING_COPY_REPLAY: a step of an agent (R137, R138). -/
  | pendingCopyReplay (gid : Nat)
  /-- BUDGET_PERIOD: a step of an agent (R117, R383). -/
  | budgetPeriod
  /-- LOCK_REQUEST: a step of an agent (R165, R166, R167, R170). -/
  | lockRequest (k : Nat)
  /-- TASK_ABORT: a step of an agent (R171, R180, R181, R374). -/
  | taskAbort (c : Nat) (hi : Bool)
  /-- SET_GRANT: a step of an agent (R165, R168). -/
  | setGrant (k : Nat)
  /-- COMMIT_DRAIN: a step of an agent (R178, R179). -/
  | commitDrain (c : Nat) (hi : Bool)
  /-- SET_RELEASE: a step of an agent (R178). -/
  | setRelease (c : Nat) (hi : Bool)
  /-- ASET_WAIT_LIMIT: a step of an agent (R173). -/
  | asetWaitLimit (c : Nat) (hi : Bool)
  /-- ENGINE_QUEUE_HEAD: a step of an agent (R265, R270, R281, R287). -/
  | engineQueueHead (c : Nat) (q : QueueId)
  /-- RING_WAKE: a step of an agent (R270, R307). -/
  | ringWake (c : Nat) (q : QueueId)
  /-- AMMA_JOIN: a step of an agent (R14, R279, R285). -/
  | ammaJoin (c : Nat)
  /-- AMMA_STEP_START: a step of an agent (R14, R269, R274, R275). -/
  | ammaStepStart (i : Nat)
  /-- GANG_TIMEOUT: a step of an agent (R280). -/
  | gangTimeout (i : Nat)
  /-- AMMA_FETCH: a step of an agent (R231, R275, R278, R283). -/
  | ammaFetch (i : Nat)
  /-- AMMA_FETCH_END: a step of an agent (R284, R286). -/
  | ammaFetchEnd (i : Nat)
  /-- AMMA_COMPUTE_END: a step of an agent (R277, R281, R284). -/
  | ammaComputeEnd (i : Nat)
  /-- ARD_ROW_LAND: a step of an agent (R293). -/
  | ardRowLand (c : Nat)
  /-- REP_ITERATION: a step of an agent (R290). -/
  | repIteration (c : Nat) (hi : Bool)
  /-- CRUCIBLE_COMMAND_ARRIVAL: a step of an agent (R80, R81, R82, R83). -/
  | crucibleCommandArrival (k : Nat)
  /-- ATQ_ACCEPT: a step of an agent (R79, R302, R304, R306). -/
  | atqAccept (k : Nat)
  /-- ATQ_TILE_FETCH: a step of an agent (R299, R302, R303, R323). -/
  | atqTileFetch (cb q : Nat)
  /-- ATQ_RESULT: a step of an agent (R303, R307). -/
  | atqResult (cb q : Nat)
  /-- HELD_RESULT_WRITE: a step of an agent (R307). -/
  | heldResultWrite (cb i : Nat)
  /-- KV_SPILL: a step of an agent (R299). -/
  | kvSpill (cb page : Nat)
  /-- KV_FILL: a step of an agent (R299). -/
  | kvFill (cb page : Nat)
  /-- HEAD_COPY: a step of an agent (R300, R439). -/
  | headCopy (asid : Nat)
  /-- GEN_COMMAND_START: a step of an agent (R330, R332, R333, R334). -/
  | genCommandStart (c : Nat)
  /-- BLOOM_QUEUE_ARRIVAL: a step of an agent (R349). -/
  | bloomQueueArrival (k : Nat)
  /-- COLLECTIVE_JOIN: a step of an agent (R345, R346). -/
  | collectiveJoin (c : Nat)
  /-- COLLECTIVE_TIMEOUT: a step of an agent (R345). -/
  | collectiveTimeout (i : Nat)
  /-- COLLECTIVE_RESULT: a step of an agent (R153, R347, R348). -/
  | collectiveResult (i : Nat)
  /-- LAUNCH_RECORD_CHECK: a step of an agent (R61, R232, R364, R366). -/
  | launchRecordCheck (q : Nat)
  /-- GRID_ADMISSION: a step of an agent (R93, R227, R266, R282). -/
  | gridAdmission (q : Nat)
  /-- QTAIL_WRITE: a step of an agent (R440). -/
  | qtailWrite (q : Nat) (v : BitVec 32)
  /-- HOST_REGISTER_WRITE: a step of an agent (R441). -/
  | hostRegisterWrite (w : HostWrite)
  /-- CONTEXT_ENTRY_SIGNAL: a step of an agent (R439). -/
  | contextEntrySignal (asid entry : Nat)
  /-- MESSAGE_ARRIVAL: a step of an agent (R373, R429). -/
  | messageArrival (k : Nat)
  /-- OVERFLOW_RETURN: a step of an agent (R373). -/
  | overflowReturn (d i : Nat)
  /-- READY_ENTRY_FILL: a step of an agent (R374). -/
  | readyEntryFill (c : Nat) (hi : Bool)
  /-- TASK_START: a step of an agent (R91, R161, R192, R193). -/
  | taskStart (c : Nat) (hi : Bool)
  /-- DEP_TABLE_ENTRY: a step of an agent (R233, R376, R377, R378). -/
  | depTableEntry (k : Nat)
  /-- SPAWN_READY: a step of an agent (R376, R377, R379, R380). -/
  | spawnReady (d i : Nat)
  /-- EVENT_HOME_ARRIVAL: a step of an agent (R380, R391). -/
  | eventHomeArrival (k : Nat)
  /-- WDOG: a step of an agent (R381). -/
  | wdog (c : Nat) (hi : Bool)
  /-- GRID_TIMEOUT: a step of an agent (R369). -/
  | gridTimeout (gid : Nat)
  /-- GRID_END: a step of an agent (R19, R82, R93, R296). -/
  | gridEnd (gid : Nat)
  /-- PREEMPT_REQUEST: a step of an agent (R182, R367, R382). -/
  | preemptRequest (gid : Nat)
  /-- CONTEXT_SAVE: a step of an agent (R93, R138, R227, R266). -/
  | contextSave (gid : Nat)
  /-- CONTEXT_RESTORE: a step of an agent (R266, R424, R427, R443). -/
  | contextRestore (gid : Nat) (intact : Bool)
  /-- GANG_SLICE_INSTANT: a step of an agent (R384). -/
  | gangSliceInstant (slice : Nat)
  /-- GANG_DECISION: a step of an agent (R384). -/
  | gangDecision (slice : Nat)
  /-- GATE_TIMEOUT: a step of an agent (R398). -/
  | gateTimeout (d gate : Nat)
  /-- GATE_BATCH_FORM: a step of an agent (R398, R399). -/
  | gateBatchForm (d gate : Nat)
  /-- GATE_BATCH_SEND: a step of an agent (R103, R394, R399). -/
  | gateBatchSend (d gate : Nat)
  /-- SJOIN_WAIT_COMPLETE: a step of an agent (R400). -/
  | sjoinWaitComplete (k : Nat)
  /-- MIGREQ: a step of an agent (R444, R446). -/
  | migreq (p : MigPacket)
  /-- MIGRATION_RECEIPT: a step of an agent (R403). -/
  | migrationReceipt (i : Nat)
  /-- MIGACK: a step of an agent (R403, R444). -/
  | migack (xfer : Nat) (status : BitVec 16) (newId : Nat)
  /-- MIGRATION_TIMEOUT: a step of an agent (R446). -/
  | migrationTimeout (i : Nat)
  /-- GANG: a step of an agent (R384, R444). -/
  | gang (p : GangPacket)
  /-- TSYNC: a step of an agent (R444, R447). -/
  | tsync (port gt : Nat)
  /-- TSYNC_PERIOD: a step of an agent (R447). -/
  | tsyncPeriod
  /-- HOST: a step of an agent (R444). -/
  | host (port : Nat) (flits : List (BitVec 512))
  /-- LINK: a step of an agent (R444). -/
  | link (port kind : Nat)
  /-- RESERVED_PACKET_DROP: a step of an agent (R444). -/
  | reservedPacketDrop (port kind : Nat)
  /-- LINK_FAILURE: a step of an agent (R179, R421). -/
  | linkFailure (l : LinkId)
  /-- HW_UE: a step of an agent (R423). -/
  | hwUe (d what : Nat) (owner : Option Nat)
  /-- GRID_FAULT_END: a step of an agent (R19, R182, R370, R420). -/
  | gridFaultEnd (gid : Nat)
  /-- WINDOW_OP_ARRIVAL: a step of an agent (R416, R417, R418). -/
  | windowOpArrival (k : Nat)
  /-- CONTEXT_REMOVAL: a step of an agent (R82, R313, R428). -/
  | contextRemoval (asid : Nat)
  /-- REMOVAL_TIMEOUT: a step of an agent (R428). -/
  | removalTimeout (asid : Nat)
  /-- PACKAGE_RESET: a step of an agent (R426, R443). -/
  | packageReset (image : Option QuenchHeader)
  /-- REPLAY_DIVERGENCE: a step of an agent (R430). -/
  | replayDivergence (gid index : Nat)
  /-- QUENCH: a step of an agent (R431, R442). -/
  | quench
  /-- QUENCH_ABORT_TIMEOUT: a step of an agent (R431). -/
  | quenchAbortTimeout
  /-- FIRMWARE_VERIFY: a step of an agent (R448). -/
  | firmwareVerify (die : Nat) (image sig : List (BitVec 8))
  /-- ATTESTATION_REQUEST: a step of an agent (R449). -/
  | attestationRequest (nonce : BitVec 384)
  /-- TIME_UNTIL_DEADLINE: a step of an agent (R434). -/
  | timeUntilDeadline (c : Nat) (hi : Bool)
  /-- TID_REPLICA_UPDATE: a step of an agent (R235). -/
  | tidReplicaUpdate (k : Nat)
  /-- POWER_LIMIT: a step of an agent (R450). -/
  | powerLimit (cycles : Nat)
deriving DecidableEq, Repr

end Sys2Proof
end

