-- ==== Sys2Proof/WellFormed.lean ====
section
/-!
DEFINITION. WellFormed.lean: which operands an instruction accepts. A value it does not accept in a
field it uses makes the pattern an undefined encoding (02 R42, R47); the mask unit's register rules
are 13 R318's.
-/

namespace Sys2Proof

/-- Why a pattern is undefined (R47). -/
inductive Problem
  /-- unassigned class -/
  | cls
  /-- unassigned function, or an unknown mask operation -/
  | func
  /-- a type code the instruction does not accept -/
  | type
  /-- an unassigned space -/
  | space
  /-- an unassigned scope -/
  | scope
  /-- an unassigned condition -/
  | cond
  /-- a SHIFT above 6 -/
  | shift
  /-- a TSLOT above 4 -/
  | tslot
  /-- a LINK that does not match the function -/
  | link
  /-- a SUBOP the instruction does not define -/
  | subop
  /-- a register bank, or a bank-10 index, that the position does not accept -/
  | bank
  /-- a mask unit register or parameter out of range (R318) -/
  | index
  /-- another unassigned value in a used field -/
  | value
  /-- not the length of an instruction -/
  | length
deriving DecidableEq, Repr

/-- Bank 00: a scalar register (R41). -/
def RegSpec.isS (r : RegSpec) : Bool := r.extractLsb' 6 2 == 0#2

/-- Bank 10: mask and special registers (R41). -/
def RegSpec.isBank10 (r : RegSpec) : Bool := r.extractLsb' 6 2 == 2#2

/-- Bank 00 or bank 11: a scalar source (R198). -/
def RegSpec.isSI (r : RegSpec) : Bool := r.extractLsb' 6 2 == 0#2 || r.extractLsb' 6 2 == 3#2

/-- Bank 01: a vector register (R239). -/
def RegSpec.isV (r : RegSpec) : Bool := r.extractLsb' 6 2 == 1#2

/-- Bank 01, 00 or 11: a vector source (R239). -/
def RegSpec.isVS (r : RegSpec) : Bool := r.extractLsb' 6 2 != 2#2

/-- Bank 10, index 0 to 7: a mask operand (R239). -/
def RegSpec.isMask (r : RegSpec) : Bool := r.extractLsb' 3 5 == 0x10#5

/-- TYPE 0 or 1: the 64-bit and 32-bit forms (R199, R202). -/
def Ty.isW : Ty → Bool
  | .i64 | .i32 => true
  | _ => false

/-- Type codes 0 to 6 and 13 (R105, R243). -/
def Ty.isInt : Ty → Bool
  | .i64 | .i32 | .n32 | .i16 | .n16 | .i8 | .n8 | .n64 => true
  | _ => false

/-- Type codes 7 to 10 (R207). -/
def Ty.isF4 : Ty → Bool
  | .f64 | .f32 | .f16 | .bf16 => true
  | _ => false

/-- Type codes 7 to 12 (R212). -/
def Ty.isF6 : Ty → Bool
  | .f64 | .f32 | .f16 | .bf16 | .e4m3 | .e5m2 => true
  | _ => false

/-- The conditions of integer comparisons and branches (R39, R202). -/
def Cond.forInt : Cond → Bool
  | .ord | .unord => false
  | _ => true

/-- The conditions of float comparisons (R39, R207). -/
def Cond.forFloat : Cond → Bool
  | .ltn | .gen | .len | .gtn => false
  | _ => true

/-- The CSR numbers of R433. -/
def csrAssigned (n : BitVec 16) : Bool :=
  n.toNat ≤ 0xC || (0x100 ≤ n.toNat && n.toNat ≤ 0x10B) || n.toNat == 0x200

/-- The first failing check. -/
def firstProblem : List (Bool × Problem) → Option Problem
  | [] => none
  | (ok, p) :: cs => if ok then firstProblem cs else some p

/-- The checks of an instruction's used fields. -/
def Instr.checks (i : Instr) : List (Bool × Problem) :=
  match i with
  | .nop => []
  | .hint n => [(n != 0#6, .func)]
  | .add x => [(x.ty.isW, .type), (x.a.isS, .bank), (x.b.isSI, .bank), (x.c.isSI, .bank)]
  | .sub x => [(x.ty.isW, .type), (x.a.isS, .bank), (x.b.isSI, .bank), (x.c.isSI, .bank)]
  | .mul x => [(x.ty.isW, .type), (x.a.isS, .bank), (x.b.isSI, .bank), (x.c.isSI, .bank)]
  | .mulh x => [(x.ty.isW, .type), (x.a.isS, .bank), (x.b.isSI, .bank), (x.c.isSI, .bank)]
  | .mulhn x => [(x.ty.isW, .type), (x.a.isS, .bank), (x.b.isSI, .bank), (x.c.isSI, .bank)]
  | .div x => [(x.ty.isW, .type), (x.a.isS, .bank), (x.b.isSI, .bank), (x.c.isSI, .bank)]
  | .divn x => [(x.ty.isW, .type), (x.a.isS, .bank), (x.b.isSI, .bank), (x.c.isSI, .bank)]
  | .rem x => [(x.ty.isW, .type), (x.a.isS, .bank), (x.b.isSI, .bank), (x.c.isSI, .bank)]
  | .remn x => [(x.ty.isW, .type), (x.a.isS, .bank), (x.b.isSI, .bank), (x.c.isSI, .bank)]
  | .and x => [(x.ty.isW, .type), (x.a.isS, .bank), (x.b.isSI, .bank), (x.c.isSI, .bank)]
  | .or x => [(x.ty.isW, .type), (x.a.isS, .bank), (x.b.isSI, .bank), (x.c.isSI, .bank)]
  | .xor x => [(x.ty.isW, .type), (x.a.isS, .bank), (x.b.isSI, .bank), (x.c.isSI, .bank)]
  | .andn x => [(x.ty.isW, .type), (x.a.isS, .bank), (x.b.isSI, .bank), (x.c.isSI, .bank)]
  | .shl x => [(x.ty.isW, .type), (x.a.isS, .bank), (x.b.isSI, .bank), (x.c.isSI, .bank)]
  | .shr x => [(x.ty.isW, .type), (x.a.isS, .bank), (x.b.isSI, .bank), (x.c.isSI, .bank)]
  | .sar x => [(x.ty.isW, .type), (x.a.isS, .bank), (x.b.isSI, .bank), (x.c.isSI, .bank)]
  | .rol x => [(x.ty.isW, .type), (x.a.isS, .bank), (x.b.isSI, .bank), (x.c.isSI, .bank)]
  | .min x => [(x.ty.isW, .type), (x.a.isS, .bank), (x.b.isSI, .bank), (x.c.isSI, .bank)]
  | .max x => [(x.ty.isW, .type), (x.a.isS, .bank), (x.b.isSI, .bank), (x.c.isSI, .bank)]
  | .minn x => [(x.ty.isW, .type), (x.a.isS, .bank), (x.b.isSI, .bank), (x.c.isSI, .bank)]
  | .maxn x => [(x.ty.isW, .type), (x.a.isS, .bank), (x.b.isSI, .bank), (x.c.isSI, .bank)]
  | .sadd x => [(x.ty.isW, .type), (x.a.isS, .bank), (x.b.isSI, .bank), (x.c.isSI, .bank)]
  | .ssub x => [(x.ty.isW, .type), (x.a.isS, .bank), (x.b.isSI, .bank), (x.c.isSI, .bank)]
  | .movi x => [(x.a.isS, .bank)]
  | .addi x => [(x.a.isS, .bank), (x.b.isSI, .bank)]
  | .andi x => [(x.a.isS, .bank), (x.b.isSI, .bank)]
  | .ori x => [(x.a.isS, .bank), (x.b.isSI, .bank)]
  | .xori x => [(x.a.isS, .bank), (x.b.isSI, .bank)]
  | .shli x => [(x.a.isS, .bank), (x.b.isSI, .bank)]
  | .shri x => [(x.a.isS, .bank), (x.b.isSI, .bank)]
  | .sari x => [(x.a.isS, .bank), (x.b.isSI, .bank)]
  | .cmp x => [(x.ty.isW, .type), (x.cond.forInt, .cond), (x.a.isS, .bank), (x.b.isSI, .bank), (x.c.isSI, .bank)]
  | .sel x => [(x.a.isS, .bank), (x.b.isSI, .bank), (x.c.isSI, .bank), (x.d.isSI, .bank)]
  | .mov x => [(x.a.isS || x.a.isBank10, .bank), (x.b.isSI || x.b.isBank10, .bank)]
  | .clz x => [(x.ty.isW, .type), (x.a.isS, .bank), (x.b.isSI, .bank)]
  | .ctz x => [(x.ty.isW, .type), (x.a.isS, .bank), (x.b.isSI, .bank)]
  | .popc x => [(x.ty.isW, .type), (x.a.isS, .bank), (x.b.isSI, .bank)]
  | .brev x => [(x.ty.isW, .type), (x.a.isS, .bank), (x.b.isSI, .bank)]
  | .bswap x => [(x.ty.isW, .type), (x.a.isS, .bank), (x.b.isSI, .bank)]
  | .bfx x => [(x.ty.isW, .type), (x.a.isS, .bank), (x.b.isSI, .bank)]
  | .bfxs x => [(x.ty.isW, .type), (x.a.isS, .bank), (x.b.isSI, .bank)]
  | .bfi x => [(x.ty.isW, .type), (x.a.isS, .bank), (x.b.isSI, .bank), (x.c.isSI, .bank)]
  | .sext x => [(x.ty == .i32 || x.ty == .i16 || x.ty == .i8, .type), (x.a.isS, .bank), (x.b.isSI, .bank)]
  | .zext x => [(x.ty == .n32 || x.ty == .n16 || x.ty == .n8, .type), (x.a.isS, .bank), (x.b.isSI, .bank)]
  | .fadd x => [(x.ty.isF4, .type), (x.a.isS, .bank), (x.b.isSI, .bank), (x.c.isSI, .bank)]
  | .fsub x => [(x.ty.isF4, .type), (x.a.isS, .bank), (x.b.isSI, .bank), (x.c.isSI, .bank)]
  | .fmul x => [(x.ty.isF4, .type), (x.a.isS, .bank), (x.b.isSI, .bank), (x.c.isSI, .bank)]
  | .ffma x => [(x.ty.isF4, .type), (x.a.isS, .bank), (x.b.isSI, .bank), (x.c.isSI, .bank), (x.d.isSI, .bank)]
  | .fdiv x => [(x.ty.isF4, .type), (x.a.isS, .bank), (x.b.isSI, .bank), (x.c.isSI, .bank)]
  | .fsqrt x => [(x.ty.isF4, .type), (x.a.isS, .bank), (x.b.isSI, .bank)]
  | .fmin x => [(x.ty.isF4, .type), (x.a.isS, .bank), (x.b.isSI, .bank), (x.c.isSI, .bank)]
  | .fmax x => [(x.ty.isF4, .type), (x.a.isS, .bank), (x.b.isSI, .bank), (x.c.isSI, .bank)]
  | .fcmp x => [(x.ty.isF4, .type), (x.cond.forFloat, .cond), (x.a.isS, .bank), (x.b.isSI, .bank), (x.c.isSI, .bank)]
  | .fclass x => [(x.ty.isF4, .type), (x.a.isS, .bank), (x.b.isSI, .bank)]
  | .fabs x => [(x.ty.isF4, .type), (x.a.isS, .bank), (x.b.isSI, .bank)]
  | .fneg x => [(x.ty.isF4, .type), (x.a.isS, .bank), (x.b.isSI, .bank)]
  | .fcvt x => [(x.dt.isF6 && x.st.isF6, .type), (x.a.isS, .bank), (x.b.isSI, .bank)]
  | .fcvti x => [(x.dt.isInt && x.st.isF6, .type), (x.a.isS, .bank), (x.b.isSI, .bank)]
  | .icvtf x => [(x.dt.isF6 && x.st.isInt, .type), (x.a.isS, .bank), (x.b.isSI, .bank)]
  | .frnd x => [(x.ty.isF4, .type), (x.a.isS, .bank), (x.b.isSI, .bank)]
  | .ld x => [(x.ty.isInt, .type), (x.a.isS, .bank), (x.m.base.isS, .bank), (x.m.idx.isS, .bank), (x.m.sh.toNat ≤ 6, .shift)]
  | .lda x => [(x.ty.isInt, .type), (x.a.isS, .bank), (x.m.base.isS, .bank), (x.m.idx.isS, .bank), (x.m.sh.toNat ≤ 6, .shift)]
  | .lea x => [(x.a.isS, .bank), (x.m.base.isS, .bank), (x.m.idx.isS, .bank), (x.m.sh.toNat ≤ 6, .shift)]
  | .pf x => [(x.m.base.isS, .bank), (x.m.idx.isS, .bank), (x.m.sh.toNat ≤ 6, .shift)]
  | .st x => [(x.ty.isInt, .type), (x.a.isSI, .bank), (x.m.base.isS, .bank), (x.m.idx.isS, .bank), (x.m.sh.toNat ≤ 6, .shift)]
  | .stl x => [(x.ty.isInt, .type), (x.a.isSI, .bank), (x.m.base.isS, .bank), (x.m.idx.isS, .bank), (x.m.sh.toNat ≤ 6, .shift)]
  | .amo x => [(x.ty.isW || x.ty == .n32 || x.ty == .n64, .type), (x.sp != .s, .space), (x.a.isS, .bank), (x.b.isS, .bank), (x.c.isSI, .bank)]
  | .cas x => [(x.ty.isW || x.ty == .n32 || x.ty == .n64, .type), (x.sp != .s, .space), (x.a.isS, .bank), (x.b.isS, .bank), (x.c.isSI, .bank), (x.op == .add, .value)]
  | .amof x => [(x.ty == .f64 || x.ty == .f32, .type), (x.sp != .s, .space), (x.op == .add || x.op == .min || x.op == .max, .value), (x.a.isS, .bank), (x.b.isS, .bank), (x.c.isSI, .bank)]
  | .fence _ => []
  | .swf _ => []
  | .cflush m => [(m.base.isS, .bank), (m.idx.isS, .bank), (m.sh.toNat ≤ 6, .shift)]
  | .cinv m => [(m.base.isS, .bank), (m.idx.isS, .bank), (m.sh.toNat ≤ 6, .shift)]
  | .czero x => [(x.m.base.isS, .bank), (x.m.idx.isS, .bank), (x.m.sh.toNat ≤ 6, .shift)]
  | .cpy x => [(x.a.isS, .bank), (x.b.isS, .bank)]
  | .cpym x => [(x.a.isS, .bank), (x.b.isS, .bank), (x.lw.toNat ≤ 5 && x.lh.toNat ≤ 5, .value)]
  | .cpyr x => [(x.a.isS, .bank), (x.b.isS, .bank)]
  | .cpyg x => [(x.a.isS, .bank), (x.b.isS, .bank)]
  | .cpys x => [(x.a.isS, .bank), (x.b.isS, .bank)]
  | .chanRead x => [(x.a.isS, .bank)]
  | .chanAddr x => [(x.a.isS, .bank)]
  | .chanAbort x => [(x.a.isS, .bank)]
  | .binit x => [(x.sp.toNat ≤ 2, .space), (x.b.isS, .bank)]
  | .bpost x => [(x.sp.toNat ≤ 2, .space), (x.b.isS, .bank), (x.c.isSI, .bank)]
  | .btest x => [(x.sp.toNat ≤ 2, .space), (x.a.isS, .bank), (x.b.isS, .bank)]
  | .hbind x => [(x.a.isS, .bank), (x.b.isS, .bank)]
  | .hbindNone x => [(x.a.isS, .bank)]
  | .hadvp x => [(x.a.isS, .bank), (x.c.isSI, .bank)]
  | .hadvc x => [(x.a.isS, .bank), (x.c.isSI, .bank)]
  | .hstat x => [(x.a.isS, .bank)]
  | .rep x => [(1 ≤ x.n.toNat && x.n.toNat ≤ 5, .value)]
  | .gset x => [(x.n != 15#4, .value), (x.b.isSI, .bank)]
  | .gclr n => [(n != 15#4, .value)]
  | .tidset x => [(x.a.isS, .bank), (x.b.isS, .bank)]
  | .tidget x => [(x.a.isS, .bank), (x.b.isS, .bank)]
  | .tidinv x => [(x.a.isS, .bank)]
  | .vadd x => [(x.ty.isInt, .type), (x.a.isV, .bank), (x.b.isVS, .bank), (x.c.isVS, .bank)]
  | .vsub x => [(x.ty.isInt, .type), (x.a.isV, .bank), (x.b.isVS, .bank), (x.c.isVS, .bank)]
  | .vmul x => [(x.ty.isInt, .type), (x.a.isV, .bank), (x.b.isVS, .bank), (x.c.isVS, .bank)]
  | .vmulh x => [(x.ty.isInt, .type), (x.a.isV, .bank), (x.b.isVS, .bank), (x.c.isVS, .bank)]
  | .vmin x => [(x.ty.isInt, .type), (x.a.isV, .bank), (x.b.isVS, .bank), (x.c.isVS, .bank)]
  | .vmax x => [(x.ty.isInt, .type), (x.a.isV, .bank), (x.b.isVS, .bank), (x.c.isVS, .bank)]
  | .vabs x => [(x.ty.isInt, .type), (x.a.isV, .bank), (x.b.isVS, .bank)]
  | .vsadd x => [(x.ty.isInt, .type), (x.a.isV, .bank), (x.b.isVS, .bank), (x.c.isVS, .bank)]
  | .vssub x => [(x.ty.isInt, .type), (x.a.isV, .bank), (x.b.isVS, .bank), (x.c.isVS, .bank)]
  | .vshl x => [(x.ty.isInt, .type), (x.a.isV, .bank), (x.b.isVS, .bank), (x.c.isVS, .bank)]
  | .vshr x => [(x.ty.isInt, .type), (x.a.isV, .bank), (x.b.isVS, .bank), (x.c.isVS, .bank)]
  | .vsar x => [(x.ty.isInt, .type), (x.a.isV, .bank), (x.b.isVS, .bank), (x.c.isVS, .bank)]
  | .vand x => [(x.ty.isInt, .type), (x.a.isV, .bank), (x.b.isVS, .bank), (x.c.isVS, .bank)]
  | .vor x => [(x.ty.isInt, .type), (x.a.isV, .bank), (x.b.isVS, .bank), (x.c.isVS, .bank)]
  | .vxor x => [(x.ty.isInt, .type), (x.a.isV, .bank), (x.b.isVS, .bank), (x.c.isVS, .bank)]
  | .vnot x => [(x.ty.isInt, .type), (x.a.isV, .bank), (x.b.isVS, .bank)]
  | .vfadd x => [(x.ty.isF4, .type), (x.a.isV, .bank), (x.b.isVS, .bank), (x.c.isVS, .bank)]
  | .vfsub x => [(x.ty.isF4, .type), (x.a.isV, .bank), (x.b.isVS, .bank), (x.c.isVS, .bank)]
  | .vfmul x => [(x.ty.isF4, .type), (x.a.isV, .bank), (x.b.isVS, .bank), (x.c.isVS, .bank)]
  | .vfma x => [(x.ty.isF4, .type), (x.a.isV, .bank), (x.b.isVS, .bank), (x.c.isVS, .bank), (x.d.isVS, .bank)]
  | .vfmin x => [(x.ty.isF4, .type), (x.a.isV, .bank), (x.b.isVS, .bank), (x.c.isVS, .bank)]
  | .vfmax x => [(x.ty.isF4, .type), (x.a.isV, .bank), (x.b.isVS, .bank), (x.c.isVS, .bank)]
  | .vfabs x => [(x.ty.isF4, .type), (x.a.isV, .bank), (x.b.isVS, .bank)]
  | .vfneg x => [(x.ty.isF4, .type), (x.a.isV, .bank), (x.b.isVS, .bank)]
  | .vfcvt x => [(!(x.dt.isInt && x.st.isInt), .subop), (x.a.isV, .bank), (x.b.isVS, .bank)]
  | .vrcp x => [(x.ty.isF4, .type), (x.a.isV, .bank), (x.b.isVS, .bank)]
  | .vrsq x => [(x.ty.isF4, .type), (x.a.isV, .bank), (x.b.isVS, .bank)]
  | .vexp x => [(x.ty == .f32, .type), (x.a.isV, .bank), (x.b.isVS, .bank)]
  | .vlog2 x => [(x.ty == .f32, .type), (x.a.isV, .bank), (x.b.isVS, .bank)]
  | .vcmp x => [(x.ty.isInt, .type), (x.cond.forInt, .cond), (x.a.isMask, .bank), (x.b.isVS, .bank), (x.c.isVS, .bank)]
  | .vfcmp x => [(x.ty.isF6, .type), (x.cond.forFloat, .cond), (x.a.isMask, .bank), (x.b.isVS, .bank), (x.c.isVS, .bank)]
  | .vsel x => [(x.a.isV, .bank), (x.b.isVS, .bank), (x.c.isVS, .bank)]
  | .vperm x => [(x.a.isV, .bank), (x.b.isVS, .bank), (x.c.isVS, .bank)]
  | .vbcast x => [(x.a.isV, .bank), (x.b.isVS, .bank)]
  | .vextr x => [(x.a.isS, .bank), (x.b.isVS, .bank), (x.c.isSI, .bank)]
  | .vins x => [(x.a.isV, .bank), (x.b.isSI, .bank), (x.c.isSI, .bank)]
  | .vslide x => [(x.a.isV, .bank), (x.b.isVS, .bank), (x.d.isVS, .bank), (x.c.isSI, .bank)]
  | .vcomp x => [(x.a.isV, .bank), (x.b.isVS, .bank)]
  | .viota x => [(x.a.isV, .bank)]
  | .vred x => [(x.ty.isInt, .type), (x.a.isS, .bank), (x.b.isVS, .bank)]
  | .vfred x => [(x.ty.isF4, .type), (x.op == .add || x.op == .min || x.op == .max, .subop), (x.a.isS, .bank), (x.b.isVS, .bank)]
  | .vscan x => [(x.ty.isInt, .type), (x.a.isV, .bank), (x.b.isVS, .bank)]
  | .vfscan x => [(x.ty.isF4, .type), (x.op == .add || x.op == .min || x.op == .max, .subop), (x.a.isV, .bank), (x.b.isVS, .bank)]
  | .vargmax x => [(x.ty != .e4m3 && x.ty != .e5m2 && x.ty != .n64, .type), (x.a.isS, .bank), (x.b.isVS, .bank), (x.c.isSI, .bank)]
  | .vld x => [(x.a.isV, .bank), (x.m.base.isS, .bank), (x.m.idx.isS, .bank), (x.m.sh.toNat ≤ 6, .shift)]
  | .vst x => [(x.a.isV, .bank), (x.m.base.isS, .bank), (x.m.idx.isS, .bank), (x.m.sh.toNat ≤ 6, .shift)]
  | .vlds x => [(x.a.isV, .bank), (x.m.base.isS, .bank), (x.m.idx.isS, .bank), (x.m.sh.toNat ≤ 6, .shift)]
  | .vsts x => [(x.a.isV, .bank), (x.m.base.isS, .bank), (x.m.idx.isS, .bank), (x.m.sh.toNat ≤ 6, .shift)]
  | .vgath x => [(x.a.isV, .bank), (x.m.base.isS, .bank), (x.m.idx.isV, .bank), (x.m.sh.toNat ≤ 6, .shift)]
  | .vscat x => [(x.a.isV, .bank), (x.m.base.isS, .bank), (x.m.idx.isV, .bank), (x.m.sh.toNat ≤ 6, .shift)]
  | .mand x => [(x.a.isMask, .bank), (x.b.isMask, .bank), (x.c.isMask, .bank)]
  | .mor x => [(x.a.isMask, .bank), (x.b.isMask, .bank), (x.c.isMask, .bank)]
  | .mxor x => [(x.a.isMask, .bank), (x.b.isMask, .bank), (x.c.isMask, .bank)]
  | .mnot x => [(x.a.isMask, .bank), (x.b.isMask, .bank)]
  | .mpopc x => [(x.a.isS, .bank), (x.b.isMask, .bank)]
  | .mfirst x => [(x.a.isS, .bank), (x.b.isMask, .bank)]
  | .mset x => [(x.a.isMask, .bank), (x.b.isSI, .bank)]
  | .mget x => [(x.a.isS, .bank), (x.b.isMask, .bank)]
  | .acfg x => [(x.size != 3#2, .value), (x.a.isS, .bank)]
  | .amma x => [(x.a.isS, .bank), (x.b.isS, .bank)]
  | .azero x => [(x.a.isS, .bank)]
  | .ard x => [(x.a.isS, .bank), (x.b.isS, .bank)]
  | .atq x => [(x.a.isS, .bank), (x.b.isS, .bank)]
  | .atapp x => [(x.a.isS, .bank), (x.b.isS, .bank)]
  | .atseqCreate x => [(x.a.isS, .bank), (x.b.isS, .bank)]
  | .atseqFork x => [(x.a.isS, .bank), (x.b.isS, .bank)]
  | .atseqCommit x => [(x.a.isS, .bank), (x.b.isS, .bank)]
  | .atseqTrim x => [(x.a.isS, .bank), (x.b.isS, .bank)]
  | .atseqFree x => [(x.a.isS, .bank), (x.b.isS, .bank)]
  | .atseqReport x => [(x.a.isS, .bank), (x.b.isS, .bank)]
  | .atmsk x => [(x.a.isS, .bank), (x.b.isS, .bank)]
  | .atcnt x => [(x.sel.toNat ≤ 17, .value), (x.a.isS, .bank), (x.b.isS, .bank)]
  | .smpl x => [(x.a.isS, .bank), (x.b.isS, .bank)]
  | .topk x => [(x.a.isS, .bank), (x.b.isS, .bank)]
  | .gmask x => [(x.a.isS, .bank), (x.b.isS, .bank)]
  | .gstep x => [(x.a.isS, .bank), (x.b.isS, .bank)]
  | .bqcfg x => [(x.a.isS, .bank), (x.b.isSI, .bank)]
  | .bqpush x => [(x.a.isS, .bank), (x.b.isS, .bank), (x.c.isS, .bank)]
  | .bqpop x => [(x.a.isS, .bank), (x.c.isS, .bank)]
  | .bqstat a => [(a.isS, .bank)]
  | .cred x => [(x.a.isS, .bank), (x.b.isS, .bank)]
  | .cscan x => [(x.a.isS, .bank), (x.b.isS, .bank)]
  | .cbc x => [(x.a.isS, .bank), (x.b.isS, .bank)]
  | .cgath x => [(x.a.isS, .bank), (x.b.isS, .bank)]
  | .b x => [(x.cond.forInt, .cond), (x.tslot.toNat ≤ 4, .tslot), (x.a.isSI, .bank), (x.b.isSI, .bank)]
  | .j x => [(x.tslot.toNat ≤ 4, .tslot)]
  | .jl x => [(x.tslot.toNat ≤ 4, .tslot)]
  | .jr a => [(a.isS || a == 0x88#8, .bank)]
  | .jlr a => [(a.isS || a == 0x88#8, .bank)]
  | .lset x => [(x.sslot.toNat ≤ 4 && x.eslot.toNat ≤ 4, .value), (x.b.isSI, .bank)]
  | .lclr w => [(w != 3#2, .value)]
  | .send x => [(x.a.isS, .bank), (x.b.isS, .bank), (x.c.isS, .bank), (x.setm == 0#4 || x.d.isS, .bank)]
  | .tspawn x => [(x.a.isS, .bank), (x.b.isS, .bank)]
  | .tend _ => []
  | .tinfo x => [(x.sel.toNat ≤ 7, .value), (x.a.isS, .bank)]
  | .evsig x => [(x.sc != .cell && x.sc != .clus, .scope), (x.a.isS, .bank), (x.b.isSI, .bank), (x.c.isSI, .bank)]
  | .evset x => [(x.sc != .cell && x.sc != .clus, .scope), (x.a.isS, .bank), (x.b.isSI, .bank), (x.c.isSI, .bank)]
  | .evclr x => [(x.sc != .cell && x.sc != .clus, .scope), (x.a.isS, .bank), (x.c.isSI, .bank)]
  | .evread x => [(x.sc != .cell && x.sc != .clus, .scope), (x.a.isS, .bank), (x.c.isSI, .bank)]
  | .sfork x => [(1 ≤ x.n.toNat && x.n.toNat ≤ 8, .value), (x.a.isS, .bank), (x.b.isS, .bank)]
  | .sforkRoot x => [(1 ≤ x.n.toNat && x.n.toNat ≤ 8, .value), (x.a.isS, .bank), (x.c.isS, .bank), (x.d.isS, .bank)]
  | .sjoin x => [(x.red != 3#2 && x.keep.toNat ≤ 8, .value), (x.a.isS, .bank), (x.b.isS, .bank)]
  | .skill x => [(x.a.isS, .bank), (x.b.isS, .bank)]
  | .sstep x => [(x.a.isS, .bank), (x.b.isS, .bank)]
  | .sact x => [(x.a.isS, .bank), (x.b.isS, .bank), (x.c.isS, .bank)]
  | .spopa x => [(x.a.isS, .bank), (x.b.isS, .bank), (x.c.isS, .bank)]
  | .sret x => [(x.a.isS, .bank), (x.b.isS, .bank), (x.c.isS, .bank)]
  | .sgate x => [(x.a.isS, .bank), (x.b.isS, .bank)]
  | .smig x => [(x.a.isS, .bank), (x.b.isS, .bank)]
  | .sflat x => [(x.a.isS, .bank), (x.b.isS, .bank)]
  | .sinfo x => [(x.a.isS, .bank), (x.b.isS, .bank), (x.c.isS, .bank)]
  | .adecl x => [(x.sz.toNat ≤ 10, .value), (x.a.isS, .bank), (x.b.isS, .bank)]
  | .astat x => [(x.sel.toNat ≤ 11, .value), (x.a.isS, .bank)]
  | .csrrd x => [(csrAssigned x.csr, .value), (x.a.isS, .bank)]
  | .csrwr x => [(csrAssigned x.csr, .value), (x.a.isS, .bank), (x.b.isSI, .bank)]
  | .time a => [(a.isS, .bank)]
  | .timeUntil x => [(x.a.isS, .bank), (x.b.isS, .bank)]
  | .tlbi x => [(x.a.isS, .bank), (!x.byAddr || x.b.isS, .bank)]
  | .trace x => [(x.a.isS, .bank), (x.b.isS, .bank), (x.c.isS, .bank)]
  | .brk _ => []
  | .trap x => [(x.b.isS, .bank)]
  | .winrd x => [(x.a.isS, .bank), (x.b.isS, .bank), (x.c.isS, .bank), (x.d.isS, .bank)]
  | .winwr x => [(x.a.isS, .bank), (x.b.isS, .bank), (x.c.isS, .bank), (x.d.isS, .bank)]
  | .resumeRetry x => [(x.a.isS, .bank), (x.b.isS, .bank)]
  | .resumeSkip x => [(x.a.isS, .bank), (x.b.isS, .bank)]
  | .resumeDrop x => [(x.a.isS, .bank), (x.b.isS, .bank)]
  | .fault x => [(x.code == 0#16 || x.code.getLsbD 15, .value), (x.b.isS, .bank)]
  | .mlq _ => []
  | .mlk _ => []
  | .mldq _ => []
  | .mldk _ => []
  | .mla _ => []
  | .mlp _ imm => [(imm.toNat ≤ 7, .index)]
  | .mli _ _ => []
  | .madd _ => []
  | .msub _ => []
  | .mmin _ => []
  | .mmax _ => []
  | .mclt x => [(x.d.toNat ≤ 3, .index)]
  | .mcle x => [(x.d.toNat ≤ 3, .index)]
  | .mceq x => [(x.d.toNat ≤ 3, .index)]
  | .mband x => [(x.d.toNat ≤ 3 && x.a.toNat ≤ 3 && x.b.toNat ≤ 3, .index)]
  | .mbor x => [(x.d.toNat ≤ 3 && x.a.toNat ≤ 3 && x.b.toNat ≤ 3, .index)]
  | .mbnot d a => [(d.toNat ≤ 3 && a.toNat ≤ 3, .index)]
  | .mvis a => [(a.toNat ≤ 3, .index)]
  | .lineFetch _ _ => []
  | .lineRefetch _ _ => []
  | .resultWriteback _ => []
  | .homeSliceArrival _ => []
  | .homeSliceFill _ => []
  | .writeThroughAck _ => []
  | .loadReturn _ => []
  | .l1Eviction _ _ => []
  | .portArrival _ => []
  | .hearthSliceArrival _ => []
  | .hostWindowAccess _ => []
  | .traceRingDrain _ => []
  | .clusterTlbLookup _ => []
  | .tableWalk _ => []
  | .walkEntryRead _ => []
  | .walkInstall _ => []
  | .dirtyUpdate _ => []
  | .tlbiComplete _ => []
  | .hostInvalidate _ _ _ _ => []
  | .hearthSpill _ => []
  | .hearthFill _ _ => []
  | .tongsCommandStart _ => []
  | .tongsPieceLand _ _ => []
  | .tongsPieceAck _ => []
  | .tokenWrite _ => []
  | .barrierArrive _ => []
  | .pendingCopyReplay _ => []
  | .budgetPeriod => []
  | .lockRequest _ => []
  | .taskAbort _ _ => []
  | .setGrant _ => []
  | .commitDrain _ _ => []
  | .setRelease _ _ => []
  | .asetWaitLimit _ _ => []
  | .engineQueueHead _ _ => []
  | .ringWake _ _ => []
  | .ammaJoin _ => []
  | .ammaStepStart _ => []
  | .gangTimeout _ => []
  | .ammaFetch _ => []
  | .ammaFetchEnd _ => []
  | .ammaComputeEnd _ => []
  | .ardRowLand _ => []
  | .repIteration _ _ => []
  | .crucibleCommandArrival _ => []
  | .atqAccept _ => []
  | .atqTileFetch _ _ => []
  | .atqResult _ _ => []
  | .heldResultWrite _ _ => []
  | .kvSpill _ _ => []
  | .kvFill _ _ => []
  | .headCopy _ => []
  | .genCommandStart _ => []
  | .bloomQueueArrival _ => []
  | .collectiveJoin _ => []
  | .collectiveTimeout _ => []
  | .collectiveResult _ => []
  | .launchRecordCheck _ => []
  | .gridAdmission _ => []
  | .qtailWrite _ _ => []
  | .hostRegisterWrite _ => []
  | .contextEntrySignal _ _ => []
  | .messageArrival _ => []
  | .overflowReturn _ _ => []
  | .readyEntryFill _ _ => []
  | .taskStart _ _ => []
  | .depTableEntry _ => []
  | .spawnReady _ _ => []
  | .eventHomeArrival _ => []
  | .wdog _ _ => []
  | .gridTimeout _ => []
  | .gridEnd _ => []
  | .preemptRequest _ => []
  | .contextSave _ => []
  | .contextRestore _ _ => []
  | .gangSliceInstant _ => []
  | .gangDecision _ => []
  | .gateTimeout _ _ => []
  | .gateBatchForm _ _ => []
  | .gateBatchSend _ _ => []
  | .sjoinWaitComplete _ => []
  | .migreq _ => []
  | .migrationReceipt _ => []
  | .migack _ _ _ => []
  | .migrationTimeout _ => []
  | .gang _ => []
  | .tsync _ _ => []
  | .tsyncPeriod => []
  | .host _ _ => []
  | .link _ _ => []
  | .reservedPacketDrop _ _ => []
  | .linkFailure _ => []
  | .hwUe _ _ _ => []
  | .gridFaultEnd _ => []
  | .windowOpArrival _ => []
  | .contextRemoval _ => []
  | .removalTimeout _ => []
  | .packageReset _ => []
  | .replayDivergence _ _ => []
  | .quench => []
  | .quenchAbortTimeout => []
  | .firmwareVerify _ _ _ => []
  | .attestationRequest _ => []
  | .timeUntilDeadline _ _ => []
  | .tidReplicaUpdate _ => []
  | .powerLimit _ => []

/-- What is wrong with an instruction's operands (R47). -/
def Instr.problem (i : Instr) : Option Problem := firstProblem i.checks

/-- A well-formed instruction: the device decodes it. -/
def Instr.wf (i : Instr) : Bool := i.problem == none

end Sys2Proof
end

