-- ==== Sys2Proof/Decode.lean ====
section
/-!
DEFINITION. Decode.lean: from bits to an instruction or a named problem, and back. Bit positions are
those of 02 R20 and R30 to R37 and of each instruction's own table; the mask words are those of
13 R317.
-/

namespace Sys2Proof

/-- The code of a value (R38). -/
def Ty.code : Ty → BitVec 4
  | .i64 => 0#4
  | .i32 => 1#4
  | .n32 => 2#4
  | .i16 => 3#4
  | .n16 => 4#4
  | .i8 => 5#4
  | .n8 => 6#4
  | .f64 => 7#4
  | .f32 => 8#4
  | .f16 => 9#4
  | .bf16 => 10#4
  | .e4m3 => 11#4
  | .e5m2 => 12#4
  | .n64 => 13#4

/-- The value of a code; the other codes are unassigned (R38). -/
def Ty.ofCode (c : BitVec 4) : Except Problem Ty :=
  match c.toNat with
  | 0 => .ok .i64
  | 1 => .ok .i32
  | 2 => .ok .n32
  | 3 => .ok .i16
  | 4 => .ok .n16
  | 5 => .ok .i8
  | 6 => .ok .n8
  | 7 => .ok .f64
  | 8 => .ok .f32
  | 9 => .ok .f16
  | 10 => .ok .bf16
  | 11 => .ok .e4m3
  | 12 => .ok .e5m2
  | 13 => .ok .n64
  | _ => .error .type

/-- The code of a value (R39). -/
def Cond.code : Cond → BitVec 4
  | .eq => 0#4
  | .ne => 1#4
  | .lt => 2#4
  | .ge => 3#4
  | .ltn => 4#4
  | .gen => 5#4
  | .le => 6#4
  | .gt => 7#4
  | .len => 8#4
  | .gtn => 9#4
  | .always => 10#4
  | .ord => 12#4
  | .unord => 13#4

/-- The value of a code; the other codes are unassigned (R39). -/
def Cond.ofCode (c : BitVec 4) : Except Problem Cond :=
  match c.toNat with
  | 0 => .ok .eq
  | 1 => .ok .ne
  | 2 => .ok .lt
  | 3 => .ok .ge
  | 4 => .ok .ltn
  | 5 => .ok .gen
  | 6 => .ok .le
  | 7 => .ok .gt
  | 8 => .ok .len
  | 9 => .ok .gtn
  | 10 => .ok .always
  | 12 => .ok .ord
  | 13 => .ok .unord
  | _ => .error .cond

/-- The code of a value (R32). -/
def Rnd.code : Rnd → BitVec 2
  | .rne => 0#2
  | .rz => 1#2
  | .rd => 2#2
  | .ru => 3#2

/-- The value of a code (R32). -/
def Rnd.ofCode (c : BitVec 2) : Rnd :=
  match c.toNat with
  | 0 => .rne
  | 1 => .rz
  | 2 => .rd
  | _ => .ru

/-- The code of a value (R40). -/
def Space.code : Space → BitVec 4
  | .g => 0#4
  | .l => 1#4
  | .c => 2#4
  | .d => 3#4
  | .s => 4#4

/-- The value of a code; the other codes are unassigned (R40). -/
def Space.ofCode (c : BitVec 4) : Except Problem Space :=
  match c.toNat with
  | 0 => .ok .g
  | 1 => .ok .l
  | 2 => .ok .c
  | 3 => .ok .d
  | 4 => .ok .s
  | _ => .error .space

/-- The code of a value (R40). -/
def Scope.code : Scope → BitVec 4
  | .cell => 0#4
  | .clus => 1#4
  | .die => 2#4
  | .pkg => 3#4
  | .sys => 4#4

/-- The value of a code; the other codes are unassigned (R40). -/
def Scope.ofCode (c : BitVec 4) : Except Problem Scope :=
  match c.toNat with
  | 0 => .ok .cell
  | 1 => .ok .clus
  | 2 => .ok .die
  | 3 => .ok .pkg
  | 4 => .ok .sys
  | _ => .error .scope

/-- The code of a value (R158). -/
def AmoOp.code : AmoOp → BitVec 4
  | .add => 0#4
  | .min => 1#4
  | .max => 2#4
  | .minn => 3#4
  | .maxn => 4#4
  | .and => 5#4
  | .or => 6#4
  | .xor => 7#4
  | .swap => 8#4

/-- The value of a code; the other codes are unassigned (R158). -/
def AmoOp.ofCode (c : BitVec 4) : Except Problem AmoOp :=
  match c.toNat with
  | 0 => .ok .add
  | 1 => .ok .min
  | 2 => .ok .max
  | 3 => .ok .minn
  | 4 => .ok .maxn
  | 5 => .ok .and
  | 6 => .ok .or
  | 7 => .ok .xor
  | 8 => .ok .swap
  | _ => .error .value

/-- The code of a value (R158). -/
def Ord.code : Ord → BitVec 8
  | .relaxed => 0#8
  | .acq => 1#8
  | .rel => 2#8
  | .ar => 3#8

/-- The value of a code; the other codes are unassigned (R158). -/
def Ord.ofCode (c : BitVec 8) : Except Problem Ord :=
  match c.toNat with
  | 0 => .ok .relaxed
  | 1 => .ok .acq
  | 2 => .ok .rel
  | 3 => .ok .ar
  | _ => .error .value

/-- The code of a value (R156). -/
def FenceKind.code : FenceKind → BitVec 4
  | .acq => 0#4
  | .rel => 1#4
  | .ar => 2#4
  | .full => 3#4

/-- The value of a code; the other codes are unassigned (R156). -/
def FenceKind.ofCode (c : BitVec 4) : Except Problem FenceKind :=
  match c.toNat with
  | 0 => .ok .acq
  | 1 => .ok .rel
  | 2 => .ok .ar
  | 3 => .ok .full
  | _ => .error .value

/-- The code of a value (R254). -/
def RedOp.code : RedOp → BitVec 3
  | .add => 0#3
  | .min => 1#3
  | .max => 2#3
  | .and => 3#3
  | .or => 4#3
  | .xor => 5#3

/-- The value of a code; the other codes are unassigned (R254). -/
def RedOp.ofCode (c : BitVec 3) : Except Problem RedOp :=
  match c.toNat with
  | 0 => .ok .add
  | 1 => .ok .min
  | 2 => .ok .max
  | 3 => .ok .and
  | 4 => .ok .or
  | 5 => .ok .xor
  | _ => .error .subop

/-- The code of a hint (R40). -/
def Hint.code : Hint → BitVec 4
  | .normal => 0#4
  | .strm => 1#4
  | .keep => 2#4
  | .byp => 3#4

/-- The hint of a code; codes 4 to 15 act as code 0 (R40). -/
def Hint.ofCode (c : BitVec 4) : Hint :=
  match c.toNat with
  | 1 => .strm
  | 2 => .keep
  | 3 => .byp
  | _ => .normal

/-- The scope code in a field of three bits (R271, R386). -/
def Scope.code3 (s : Scope) : BitVec 3 := s.code.setWidth 3

/-- The scope of a three-bit code; 5 to 7 are unassigned (R271, R386). -/
def Scope.ofCode3 (c : BitVec 3) : Except Problem Scope := Scope.ofCode (c.setWidth 4)

/-- CHS and CH (R126): channel select, then the channel. -/
def chanCode : Option (BitVec 2) → BitVec 3
  | none => 0#3
  | some c => 1#1 ++ c

/-- The channel named, when CHS is set (R126). -/
def chanOf (c : BitVec 3) : Option (BitVec 2) :=
  if c.getLsbD 2 then some (c.setWidth 2) else none

/-- Bits `[lo+n-1:lo]` of an instruction word. -/
abbrev Word96.bits (w : Word96) (lo n : Nat) : BitVec n := w.extractLsb' lo n

/-- A field that must hold a value. -/
def need (b : Bool) (p : Problem) : Except Problem Unit := if b then .ok () else .error p

/-- The word of a A3-shaped instruction. -/
def A3.toWord (cls fn : BitVec 6) (x : A3) : Word96 :=
    cls ++ fn ++ 15#4 ++ x.a ++ x.b ++ x.c ++ 0#56

/-- The operands of a A3-shaped instruction. -/
def A3.ofWord (w : Word96) : Except Problem A3 := do
  .ok { a := w.bits 72 8, b := w.bits 64 8, c := w.bits 56 8 }

/-- The word of a A4-shaped instruction. -/
def A4.toWord (cls fn : BitVec 6) (x : A4) : Word96 :=
    cls ++ fn ++ 15#4 ++ x.a ++ x.b ++ x.c ++ x.d ++ 0#48

/-- The operands of a A4-shaped instruction. -/
def A4.ofWord (w : Word96) : Except Problem A4 := do
  .ok { a := w.bits 72 8, b := w.bits 64 8, c := w.bits 56 8, d := w.bits 48 8 }

/-- The word of a AcR-shaped instruction. -/
def AcR.toWord (cls fn : BitVec 6) (x : AcR) : Word96 :=
    cls ++ fn ++ 15#4 ++ x.a ++ 0#8 ++ x.c ++ 0#56

/-- The operands of a AcR-shaped instruction. -/
def AcR.ofWord (w : Word96) : Except Problem AcR := do
  .ok { a := w.bits 72 8, c := w.bits 56 8 }

/-- The word of a T2-shaped instruction. -/
def T2.toWord (cls fn : BitVec 6) (x : T2) : Word96 :=
    cls ++ fn ++ 15#4 ++ x.a ++ x.b ++ 0#16 ++ x.ty.code ++ 0#44

/-- The operands of a T2-shaped instruction. -/
def T2.ofWord (w : Word96) : Except Problem T2 := do
  let ty ← Ty.ofCode (w.bits 44 4)
  .ok { ty := ty, a := w.bits 72 8, b := w.bits 64 8 }

/-- The word of a T3-shaped instruction. -/
def T3.toWord (cls fn : BitVec 6) (x : T3) : Word96 :=
    cls ++ fn ++ 15#4 ++ x.a ++ x.b ++ x.c ++ 0#8 ++ x.ty.code ++ 0#44

/-- The operands of a T3-shaped instruction. -/
def T3.ofWord (w : Word96) : Except Problem T3 := do
  let ty ← Ty.ofCode (w.bits 44 4)
  .ok { ty := ty, a := w.bits 72 8, b := w.bits 64 8, c := w.bits 56 8 }

/-- The word of a MoviR-shaped instruction. -/
def MoviR.toWord (cls fn : BitVec 6) (x : MoviR) : Word96 :=
    cls ++ fn ++ 15#4 ++ x.a ++ 0#8 ++ x.imm

/-- The operands of a MoviR-shaped instruction. -/
def MoviR.ofWord (w : Word96) : Except Problem MoviR := do
  .ok { a := w.bits 72 8, imm := w.bits 0 64 }

/-- The word of a ImmR-shaped instruction. -/
def ImmR.toWord (cls fn : BitVec 6) (x : ImmR) : Word96 :=
    cls ++ fn ++ 15#4 ++ x.a ++ x.b ++ x.imm

/-- The operands of a ImmR-shaped instruction. -/
def ImmR.ofWord (w : Word96) : Except Problem ImmR := do
  .ok { a := w.bits 72 8, b := w.bits 64 8, imm := w.bits 0 64 }

/-- The word of a CmpR-shaped instruction. -/
def CmpR.toWord (cls fn : BitVec 6) (x : CmpR) : Word96 :=
    cls ++ fn ++ 15#4 ++ x.a ++ x.b ++ x.c ++ 0#8 ++ x.ty.code ++ 0#3 ++ x.cond.code ++ 0#37

/-- The operands of a CmpR-shaped instruction. -/
def CmpR.ofWord (w : Word96) : Except Problem CmpR := do
  let cond ← Cond.ofCode (w.bits 37 4)
  let ty ← Ty.ofCode (w.bits 44 4)
  .ok { cond := cond, ty := ty, a := w.bits 72 8, b := w.bits 64 8, c := w.bits 56 8 }

/-- The word of a SelR-shaped instruction. -/
def SelR.toWord (cls fn : BitVec 6) (x : SelR) : Word96 :=
    cls ++ fn ++ 15#4 ++ x.a ++ x.b ++ x.c ++ x.d ++ 0#48

/-- The operands of a SelR-shaped instruction. -/
def SelR.ofWord (w : Word96) : Except Problem SelR := do
  .ok { a := w.bits 72 8, b := w.bits 64 8, c := w.bits 56 8, d := w.bits 48 8 }

/-- The word of a MovR-shaped instruction. -/
def MovR.toWord (cls fn : BitVec 6) (k : BitVec 2) (x : MovR) : Word96 :=
    cls ++ fn ++ 15#4 ++ x.a ++ x.b ++ 0#62 ++ k

/-- The operands of a MovR-shaped instruction. -/
def MovR.ofWord (w : Word96) : Except Problem MovR := do
  .ok { a := w.bits 72 8, b := w.bits 64 8 }

/-- The word of a BfR-shaped instruction. -/
def BfR.toWord (cls fn : BitVec 6) (x : BfR) : Word96 :=
    cls ++ fn ++ 15#4 ++ x.a ++ x.b ++ 0#16 ++ x.ty.code ++ 0#31 ++ x.len ++ x.pos

/-- The operands of a BfR-shaped instruction. -/
def BfR.ofWord (w : Word96) : Except Problem BfR := do
  let ty ← Ty.ofCode (w.bits 44 4)
  .ok { ty := ty, a := w.bits 72 8, b := w.bits 64 8, pos := w.bits 0 6, len := w.bits 6 7 }

/-- The word of a BfiR-shaped instruction. -/
def BfiR.toWord (cls fn : BitVec 6) (x : BfiR) : Word96 :=
    cls ++ fn ++ 15#4 ++ x.a ++ x.b ++ x.c ++ 0#8 ++ x.ty.code ++ 0#31 ++ x.len ++ x.pos

/-- The operands of a BfiR-shaped instruction. -/
def BfiR.ofWord (w : Word96) : Except Problem BfiR := do
  let ty ← Ty.ofCode (w.bits 44 4)
  .ok { ty := ty, a := w.bits 72 8, b := w.bits 64 8, c := w.bits 56 8, pos := w.bits 0 6,
        len := w.bits 6 7 }

/-- The word of a FR3-shaped instruction. -/
def FR3.toWord (cls fn : BitVec 6) (x : FR3) : Word96 :=
    cls ++ fn ++ 15#4 ++ x.a ++ x.b ++ x.c ++ 0#8 ++ x.ty.code ++ x.rnd.code ++ (BitVec.ofBool x.sat) ++ 0#41

/-- The operands of a FR3-shaped instruction. -/
def FR3.ofWord (w : Word96) : Except Problem FR3 := do
  let ty ← Ty.ofCode (w.bits 44 4)
  .ok { ty := ty, rnd := Rnd.ofCode (w.bits 42 2), sat := w.getLsbD 41, a := w.bits 72 8,
        b := w.bits 64 8, c := w.bits 56 8 }

/-- The word of a FR4-shaped instruction. -/
def FR4.toWord (cls fn : BitVec 6) (x : FR4) : Word96 :=
    cls ++ fn ++ 15#4 ++ x.a ++ x.b ++ x.c ++ x.d ++ x.ty.code ++ x.rnd.code ++ (BitVec.ofBool x.sat) ++ 0#41

/-- The operands of a FR4-shaped instruction. -/
def FR4.ofWord (w : Word96) : Except Problem FR4 := do
  let ty ← Ty.ofCode (w.bits 44 4)
  .ok { ty := ty, rnd := Rnd.ofCode (w.bits 42 2), sat := w.getLsbD 41, a := w.bits 72 8,
        b := w.bits 64 8, c := w.bits 56 8, d := w.bits 48 8 }

/-- The word of a FR2-shaped instruction. -/
def FR2.toWord (cls fn : BitVec 6) (x : FR2) : Word96 :=
    cls ++ fn ++ 15#4 ++ x.a ++ x.b ++ 0#16 ++ x.ty.code ++ x.rnd.code ++ (BitVec.ofBool x.sat) ++ 0#41

/-- The operands of a FR2-shaped instruction. -/
def FR2.ofWord (w : Word96) : Except Problem FR2 := do
  let ty ← Ty.ofCode (w.bits 44 4)
  .ok { ty := ty, rnd := Rnd.ofCode (w.bits 42 2), sat := w.getLsbD 41, a := w.bits 72 8,
        b := w.bits 64 8 }

/-- The word of a CvtR-shaped instruction. -/
def CvtR.toWord (cls fn : BitVec 6) (x : CvtR) : Word96 :=
    cls ++ fn ++ 15#4 ++ x.a ++ x.b ++ 0#16 ++ x.dt.code ++ x.rnd.code ++ (BitVec.ofBool x.sat) ++ 0#5 ++
      x.st.code ++ 0#32

/-- The operands of a CvtR-shaped instruction. -/
def CvtR.ofWord (w : Word96) : Except Problem CvtR := do
  need (w.bits 36 1 == 0) .subop
  let dt ← Ty.ofCode (w.bits 44 4)
  let st ← Ty.ofCode (w.bits 32 4)
  .ok { dt := dt, st := st, rnd := Rnd.ofCode (w.bits 42 2), sat := w.getLsbD 41, a := w.bits 72 8,
        b := w.bits 64 8 }

/-- The word of a FrndR-shaped instruction. -/
def FrndR.toWord (cls fn : BitVec 6) (x : FrndR) : Word96 :=
    cls ++ fn ++ 15#4 ++ x.a ++ x.b ++ 0#16 ++ x.ty.code ++ x.rnd.code ++ 0#42

/-- The operands of a FrndR-shaped instruction. -/
def FrndR.ofWord (w : Word96) : Except Problem FrndR := do
  need (w.bits 36 1 == 0) .subop
  let ty ← Ty.ofCode (w.bits 44 4)
  .ok { ty := ty, rnd := Rnd.ofCode (w.bits 42 2), a := w.bits 72 8, b := w.bits 64 8 }

/-- The word of a MemR-shaped instruction. -/
def MemR.toWord (cls fn : BitVec 6) (x : MemR) : Word96 :=
    cls ++ fn ++ 15#4 ++ x.a ++ x.m.base ++ x.m.idx ++ x.ty.code ++ x.sp.code ++ x.sc.code ++ x.hint.code ++
      x.m.sh ++ x.m.off

/-- The operands of a MemR-shaped instruction. -/
def MemR.ofWord (w : Word96) : Except Problem MemR := do
  let ty ← Ty.ofCode (w.bits 52 4)
  let sp ← Space.ofCode (w.bits 48 4)
  let sc ← Scope.ofCode (w.bits 44 4)
  .ok { ty := ty, sp := sp, sc := sc, hint := Hint.ofCode (w.bits 40 4), a := w.bits 72 8,
        m := { base := w.bits 64 8, idx := w.bits 56 8, sh := w.bits 32 8, off := w.bits 0 32 } }

/-- The word of a LeaR-shaped instruction. -/
def LeaR.toWord (cls fn : BitVec 6) (x : LeaR) : Word96 :=
    cls ++ fn ++ 15#4 ++ x.a ++ x.m.base ++ x.m.idx ++ 0#16 ++ x.m.sh ++ x.m.off

/-- The operands of a LeaR-shaped instruction. -/
def LeaR.ofWord (w : Word96) : Except Problem LeaR := do
  .ok { a := w.bits 72 8,
        m := { base := w.bits 64 8, idx := w.bits 56 8, sh := w.bits 32 8, off := w.bits 0 32 } }

/-- The word of a PfR-shaped instruction. -/
def PfR.toWord (cls fn : BitVec 6) (x : PfR) : Word96 :=
    cls ++ fn ++ 15#4 ++ 0#8 ++ x.m.base ++ x.m.idx ++ 0#4 ++ x.sp.code ++ 0#4 ++ x.hint.code ++ x.m.sh ++
      x.m.off

/-- The operands of a PfR-shaped instruction. -/
def PfR.ofWord (w : Word96) : Except Problem PfR := do
  let sp ← Space.ofCode (w.bits 48 4)
  .ok { sp := sp, hint := Hint.ofCode (w.bits 40 4),
        m := { base := w.bits 64 8, idx := w.bits 56 8, sh := w.bits 32 8, off := w.bits 0 32 } }

/-- The word of a AmoR-shaped instruction. -/
def AmoR.toWord (cls fn : BitVec 6) (x : AmoR) : Word96 :=
    cls ++ fn ++ 15#4 ++ x.a ++ x.b ++ x.c ++ x.ty.code ++ x.sp.code ++ x.sc.code ++ x.op.code ++ x.ord.code
      ++ x.off

/-- The operands of a AmoR-shaped instruction. -/
def AmoR.ofWord (w : Word96) : Except Problem AmoR := do
  let op ← AmoOp.ofCode (w.bits 40 4)
  let ty ← Ty.ofCode (w.bits 52 4)
  let sp ← Space.ofCode (w.bits 48 4)
  let sc ← Scope.ofCode (w.bits 44 4)
  let ord ← Ord.ofCode (w.bits 32 8)
  .ok { op := op, ty := ty, sp := sp, sc := sc, ord := ord, a := w.bits 72 8, b := w.bits 64 8,
        c := w.bits 56 8, off := w.bits 0 32 }

/-- The word of a FenceR-shaped instruction. -/
def FenceR.toWord (cls fn : BitVec 6) (x : FenceR) : Word96 :=
    cls ++ fn ++ 15#4 ++ 0#24 ++ x.kind.code ++ 0#4 ++ x.sc.code ++ 0#44

/-- The operands of a FenceR-shaped instruction. -/
def FenceR.ofWord (w : Word96) : Except Problem FenceR := do
  let kind ← FenceKind.ofCode (w.bits 52 4)
  let sc ← Scope.ofCode (w.bits 44 4)
  .ok { kind := kind, sc := sc }

/-- The word of a CzeroR-shaped instruction. -/
def CzeroR.toWord (cls fn : BitVec 6) (x : CzeroR) : Word96 :=
    cls ++ fn ++ 15#4 ++ 0#8 ++ x.m.base ++ x.m.idx ++ 0#4 ++ x.sp.code ++ x.sc.code ++ 0#4 ++ x.m.sh ++
      x.m.off

/-- The operands of a CzeroR-shaped instruction. -/
def CzeroR.ofWord (w : Word96) : Except Problem CzeroR := do
  let sp ← Space.ofCode (w.bits 48 4)
  let sc ← Scope.ofCode (w.bits 44 4)
  .ok { sp := sp, sc := sc,
        m := { base := w.bits 64 8, idx := w.bits 56 8, sh := w.bits 32 8, off := w.bits 0 32 } }

/-- The word of a MemRef-shaped instruction. -/
def MemRef.toWord (cls fn : BitVec 6) (x : MemRef) : Word96 :=
    cls ++ fn ++ 15#4 ++ 0#8 ++ x.base ++ x.idx ++ 0#16 ++ x.sh ++ x.off

/-- The operands of a MemRef-shaped instruction. -/
def MemRef.ofWord (w : Word96) : Except Problem MemRef := do
  need (w.bits 48 4 == 0) .space
  .ok { base := w.bits 64 8, idx := w.bits 56 8, sh := w.bits 32 8, off := w.bits 0 32 }

/-- The word of a CpyR-shaped instruction. -/
def CpyR.toWord (cls fn : BitVec 6) (x : CpyR) : Word96 :=
    cls ++ fn ++ x.g ++ x.a ++ x.b ++ 0#16 ++ x.ta ++ x.tb ++ 0#12 ++ (BitVec.ofBool x.det) ++ (chanCode
      x.chan) ++ 0#8

/-- The operands of a CpyR-shaped instruction. -/
def CpyR.ofWord (w : Word96) : Except Problem CpyR := do
  .ok { g := w.bits 80 4, a := w.bits 72 8, b := w.bits 64 8, ta := w.bits 36 12, tb := w.bits 24 12,
        det := w.getLsbD 11, chan := chanOf (w.bits 8 3) }

/-- The word of a CpymR-shaped instruction. -/
def CpymR.toWord (cls fn : BitVec 6) (x : CpymR) : Word96 :=
    cls ++ fn ++ x.g ++ x.a ++ x.b ++ 0#16 ++ x.ta ++ x.tb ++ 0#12 ++ (BitVec.ofBool x.det) ++ (chanCode
      x.chan) ++ 0#2 ++ x.lw ++ x.lh

/-- The operands of a CpymR-shaped instruction. -/
def CpymR.ofWord (w : Word96) : Except Problem CpymR := do
  .ok { g := w.bits 80 4, a := w.bits 72 8, b := w.bits 64 8, ta := w.bits 36 12, tb := w.bits 24 12,
        det := w.getLsbD 11, chan := chanOf (w.bits 8 3), lw := w.bits 3 3, lh := w.bits 0 3 }

/-- The word of a CpygR-shaped instruction. -/
def CpygR.toWord (cls fn : BitVec 6) (x : CpygR) : Word96 :=
    cls ++ fn ++ x.g ++ x.a ++ x.b ++ 0#52 ++ (BitVec.ofBool x.det) ++ (chanCode x.chan) ++ 0#8

/-- The operands of a CpygR-shaped instruction. -/
def CpygR.ofWord (w : Word96) : Except Problem CpygR := do
  .ok { g := w.bits 80 4, a := w.bits 72 8, b := w.bits 64 8, det := w.getLsbD 11,
        chan := chanOf (w.bits 8 3) }

/-- The word of a ChanR-shaped instruction. -/
def ChanR.toWord (cls fn : BitVec 6) (k : BitVec 2) (x : ChanR) : Word96 :=
    cls ++ fn ++ 15#4 ++ x.a ++ 0#62 ++ x.ch ++ 0#6 ++ k

/-- The operands of a ChanR-shaped instruction. -/
def ChanR.ofWord (w : Word96) : Except Problem ChanR := do
  .ok { a := w.bits 72 8, ch := w.bits 8 2 }

/-- The word of a BarR-shaped instruction. -/
def BarR.toWord (cls fn : BitVec 6) (x : BarR) : Word96 :=
    cls ++ fn ++ 15#4 ++ 0#8 ++ x.b ++ 0#62 ++ x.sp

/-- The operands of a BarR-shaped instruction. -/
def BarR.ofWord (w : Word96) : Except Problem BarR := do
  .ok { sp := w.bits 0 2, b := w.bits 64 8 }

/-- The word of a BpostR-shaped instruction. -/
def BpostR.toWord (cls fn : BitVec 6) (x : BpostR) : Word96 :=
    cls ++ fn ++ 15#4 ++ 0#8 ++ x.b ++ x.c ++ 0#54 ++ x.sp

/-- The operands of a BpostR-shaped instruction. -/
def BpostR.ofWord (w : Word96) : Except Problem BpostR := do
  .ok { sp := w.bits 0 2, b := w.bits 64 8, c := w.bits 56 8 }

/-- The word of a BtestR-shaped instruction. -/
def BtestR.toWord (cls fn : BitVec 6) (x : BtestR) : Word96 :=
    cls ++ fn ++ 15#4 ++ x.a ++ x.b ++ 0#52 ++ (BitVec.ofBool x.det) ++ 0#9 ++ x.sp

/-- The operands of a BtestR-shaped instruction. -/
def BtestR.ofWord (w : Word96) : Except Problem BtestR := do
  .ok { sp := w.bits 0 2, a := w.bits 72 8, b := w.bits 64 8, det := w.getLsbD 11 }

/-- The word of a HbindR-shaped instruction. -/
def HbindR.toWord (cls fn : BitVec 6) (x : HbindR) : Word96 :=
    cls ++ fn ++ 15#4 ++ x.a ++ x.b ++ 0#59 ++ (BitVec.ofBool x.loc) ++ x.n

/-- The operands of a HbindR-shaped instruction. -/
def HbindR.ofWord (w : Word96) : Except Problem HbindR := do
  need (w.bits 5 1 == 0) .value
  .ok { a := w.bits 72 8, n := w.bits 0 4, loc := w.getLsbD 4, b := w.bits 64 8 }

/-- The word of a HndR-shaped instruction. -/
def HndR.toWord (cls fn : BitVec 6) (k : BitVec 1) (x : HndR) : Word96 :=
    cls ++ fn ++ 15#4 ++ x.a ++ 0#63 ++ k ++ 0#4 ++ x.n

/-- The operands of a HndR-shaped instruction. -/
def HndR.ofWord (w : Word96) : Except Problem HndR := do
  .ok { a := w.bits 72 8, n := w.bits 0 4 }

/-- The word of a HadvR-shaped instruction. -/
def HadvR.toWord (cls fn : BitVec 6) (x : HadvR) : Word96 :=
    cls ++ fn ++ 15#4 ++ x.a ++ 0#8 ++ x.c ++ 0#45 ++ x.sc.code3 ++ 0#4 ++ x.n

/-- The operands of a HadvR-shaped instruction. -/
def HadvR.ofWord (w : Word96) : Except Problem HadvR := do
  let sc ← Scope.ofCode3 (w.bits 8 3)
  .ok { a := w.bits 72 8, n := w.bits 0 4, c := w.bits 56 8, sc := sc }

/-- The word of a RepR-shaped instruction. -/
def RepR.toWord (cls fn : BitVec 6) (x : RepR) : Word96 :=
    cls ++ fn ++ 15#4 ++ 0#32 ++ x.mark ++ x.stag ++ x.cntm1 ++ 0#1 ++ x.n

/-- The operands of a RepR-shaped instruction. -/
def RepR.ofWord (w : Word96) : Except Problem RepR := do
  .ok { mark := w.bits 28 20, stag := w.bits 20 8, cntm1 := w.bits 4 16, n := w.bits 0 3 }

/-- The word of a GsetR-shaped instruction. -/
def GsetR.toWord (cls fn : BitVec 6) (x : GsetR) : Word96 :=
    cls ++ fn ++ 15#4 ++ 0#8 ++ x.b ++ 0#60 ++ x.n

/-- The operands of a GsetR-shaped instruction. -/
def GsetR.ofWord (w : Word96) : Except Problem GsetR := do
  .ok { n := w.bits 0 4, b := w.bits 64 8 }

/-- The word of a TidR-shaped instruction. -/
def TidR.toWord (cls fn : BitVec 6) (x : TidR) : Word96 :=
    cls ++ fn ++ 15#4 ++ x.a ++ x.b ++ 0#52 ++ x.id

/-- The operands of a TidR-shaped instruction. -/
def TidR.ofWord (w : Word96) : Except Problem TidR := do
  .ok { a := w.bits 72 8, b := w.bits 64 8, id := w.bits 0 12 }

/-- The word of a TidinvR-shaped instruction. -/
def TidinvR.toWord (cls fn : BitVec 6) (x : TidinvR) : Word96 :=
    cls ++ fn ++ 15#4 ++ x.a ++ 0#60 ++ x.id

/-- The operands of a TidinvR-shaped instruction. -/
def TidinvR.ofWord (w : Word96) : Except Problem TidinvR := do
  .ok { a := w.bits 72 8, id := w.bits 0 12 }

/-- The word of a V3-shaped instruction. -/
def V3.toWord (cls fn : BitVec 6) (x : V3) : Word96 :=
    cls ++ fn ++ 15#4 ++ x.a ++ x.b ++ x.c ++ 0#8 ++ x.ty.code ++ 0#41 ++ x.msk

/-- The operands of a V3-shaped instruction. -/
def V3.ofWord (w : Word96) : Except Problem V3 := do
  let ty ← Ty.ofCode (w.bits 44 4)
  .ok { ty := ty, a := w.bits 72 8, b := w.bits 64 8, c := w.bits 56 8, msk := w.bits 0 3 }

/-- The word of a V2-shaped instruction. -/
def V2.toWord (cls fn : BitVec 6) (x : V2) : Word96 :=
    cls ++ fn ++ 15#4 ++ x.a ++ x.b ++ 0#16 ++ x.ty.code ++ 0#41 ++ x.msk

/-- The operands of a V2-shaped instruction. -/
def V2.ofWord (w : Word96) : Except Problem V2 := do
  let ty ← Ty.ofCode (w.bits 44 4)
  .ok { ty := ty, a := w.bits 72 8, b := w.bits 64 8, msk := w.bits 0 3 }

/-- The word of a VabsR-shaped instruction. -/
def VabsR.toWord (cls fn : BitVec 6) (x : VabsR) : Word96 :=
    cls ++ fn ++ 15#4 ++ x.a ++ x.b ++ 0#16 ++ x.ty.code ++ 0#2 ++ (BitVec.ofBool x.sat) ++ 0#38 ++ x.msk

/-- The operands of a VabsR-shaped instruction. -/
def VabsR.ofWord (w : Word96) : Except Problem VabsR := do
  let ty ← Ty.ofCode (w.bits 44 4)
  .ok { ty := ty, sat := w.getLsbD 41, a := w.bits 72 8, b := w.bits 64 8, msk := w.bits 0 3 }

/-- The word of a VF3-shaped instruction. -/
def VF3.toWord (cls fn : BitVec 6) (x : VF3) : Word96 :=
    cls ++ fn ++ 15#4 ++ x.a ++ x.b ++ x.c ++ 0#8 ++ x.ty.code ++ x.rnd.code ++ (BitVec.ofBool x.sat) ++ 0#38
      ++ x.msk

/-- The operands of a VF3-shaped instruction. -/
def VF3.ofWord (w : Word96) : Except Problem VF3 := do
  let ty ← Ty.ofCode (w.bits 44 4)
  .ok { ty := ty, rnd := Rnd.ofCode (w.bits 42 2), sat := w.getLsbD 41, a := w.bits 72 8,
        b := w.bits 64 8, c := w.bits 56 8, msk := w.bits 0 3 }

/-- The word of a VF4-shaped instruction. -/
def VF4.toWord (cls fn : BitVec 6) (x : VF4) : Word96 :=
    cls ++ fn ++ 15#4 ++ x.a ++ x.b ++ x.c ++ x.d ++ x.ty.code ++ x.rnd.code ++ (BitVec.ofBool x.sat) ++ 0#38
      ++ x.msk

/-- The operands of a VF4-shaped instruction. -/
def VF4.ofWord (w : Word96) : Except Problem VF4 := do
  let ty ← Ty.ofCode (w.bits 44 4)
  .ok { ty := ty, rnd := Rnd.ofCode (w.bits 42 2), sat := w.getLsbD 41, a := w.bits 72 8,
        b := w.bits 64 8, c := w.bits 56 8, d := w.bits 48 8, msk := w.bits 0 3 }

/-- The word of a VF2-shaped instruction. -/
def VF2.toWord (cls fn : BitVec 6) (x : VF2) : Word96 :=
    cls ++ fn ++ 15#4 ++ x.a ++ x.b ++ 0#16 ++ x.ty.code ++ x.rnd.code ++ (BitVec.ofBool x.sat) ++ 0#38 ++
      x.msk

/-- The operands of a VF2-shaped instruction. -/
def VF2.ofWord (w : Word96) : Except Problem VF2 := do
  let ty ← Ty.ofCode (w.bits 44 4)
  .ok { ty := ty, rnd := Rnd.ofCode (w.bits 42 2), sat := w.getLsbD 41, a := w.bits 72 8,
        b := w.bits 64 8, msk := w.bits 0 3 }

/-- The word of a VfcvtR-shaped instruction. -/
def VfcvtR.toWord (cls fn : BitVec 6) (x : VfcvtR) : Word96 :=
    cls ++ fn ++ 15#4 ++ x.a ++ x.b ++ 0#16 ++ x.dt.code ++ x.rnd.code ++ (BitVec.ofBool x.sat) ++ 0#5 ++
      x.st.code ++ 0#25 ++ x.part ++ 0#1 ++ x.msk

/-- The operands of a VfcvtR-shaped instruction. -/
def VfcvtR.ofWord (w : Word96) : Except Problem VfcvtR := do
  need (w.bits 36 1 == 0) .subop
  let dt ← Ty.ofCode (w.bits 44 4)
  let st ← Ty.ofCode (w.bits 32 4)
  .ok { dt := dt, st := st, rnd := Rnd.ofCode (w.bits 42 2), sat := w.getLsbD 41, a := w.bits 72 8,
        b := w.bits 64 8, part := w.bits 4 3, msk := w.bits 0 3 }

/-- The word of a VcmpR-shaped instruction. -/
def VcmpR.toWord (cls fn : BitVec 6) (x : VcmpR) : Word96 :=
    cls ++ fn ++ 15#4 ++ x.a ++ x.b ++ x.c ++ 0#8 ++ x.ty.code ++ 0#3 ++ x.cond.code ++ 0#34 ++ x.msk

/-- The operands of a VcmpR-shaped instruction. -/
def VcmpR.ofWord (w : Word96) : Except Problem VcmpR := do
  let cond ← Cond.ofCode (w.bits 37 4)
  let ty ← Ty.ofCode (w.bits 44 4)
  .ok { cond := cond, ty := ty, a := w.bits 72 8, b := w.bits 64 8, c := w.bits 56 8,
        msk := w.bits 0 3 }

/-- The word of a VbcastR-shaped instruction. -/
def VbcastR.toWord (cls fn : BitVec 6) (x : VbcastR) : Word96 :=
    cls ++ fn ++ 15#4 ++ x.a ++ x.b ++ 0#16 ++ x.ty.code ++ 0#30 ++ x.lane ++ 0#5 ++ x.msk

/-- The operands of a VbcastR-shaped instruction. -/
def VbcastR.ofWord (w : Word96) : Except Problem VbcastR := do
  let ty ← Ty.ofCode (w.bits 44 4)
  .ok { ty := ty, a := w.bits 72 8, b := w.bits 64 8, lane := w.bits 8 6, msk := w.bits 0 3 }

/-- The word of a VslideR-shaped instruction. -/
def VslideR.toWord (cls fn : BitVec 6) (x : VslideR) : Word96 :=
    cls ++ fn ++ 15#4 ++ x.a ++ x.b ++ x.c ++ x.d ++ x.ty.code ++ 0#11 ++ (BitVec.ofBool x.up) ++ 0#29 ++
      x.msk

/-- The operands of a VslideR-shaped instruction. -/
def VslideR.ofWord (w : Word96) : Except Problem VslideR := do
  need (w.bits 33 4 == 0) .subop
  let ty ← Ty.ofCode (w.bits 44 4)
  .ok { ty := ty, up := w.getLsbD 32, a := w.bits 72 8, b := w.bits 64 8, c := w.bits 56 8,
        d := w.bits 48 8, msk := w.bits 0 3 }

/-- The word of a ViotaR-shaped instruction. -/
def ViotaR.toWord (cls fn : BitVec 6) (x : ViotaR) : Word96 :=
    cls ++ fn ++ 15#4 ++ x.a ++ 0#24 ++ x.ty.code ++ 0#41 ++ x.msk

/-- The operands of a ViotaR-shaped instruction. -/
def ViotaR.ofWord (w : Word96) : Except Problem ViotaR := do
  let ty ← Ty.ofCode (w.bits 44 4)
  .ok { ty := ty, a := w.bits 72 8, msk := w.bits 0 3 }

/-- The word of a VredR-shaped instruction. -/
def VredR.toWord (cls fn : BitVec 6) (x : VredR) : Word96 :=
    cls ++ fn ++ 15#4 ++ x.a ++ x.b ++ 0#16 ++ x.ty.code ++ 0#9 ++ x.op.code ++ 0#29 ++ x.msk

/-- The operands of a VredR-shaped instruction. -/
def VredR.ofWord (w : Word96) : Except Problem VredR := do
  need (w.bits 35 2 == 0) .subop
  let op ← RedOp.ofCode (w.bits 32 3)
  let ty ← Ty.ofCode (w.bits 44 4)
  .ok { op := op, ty := ty, a := w.bits 72 8, b := w.bits 64 8, msk := w.bits 0 3 }

/-- The word of a VfredR-shaped instruction. -/
def VfredR.toWord (cls fn : BitVec 6) (x : VfredR) : Word96 :=
    cls ++ fn ++ 15#4 ++ x.a ++ x.b ++ 0#16 ++ x.ty.code ++ x.rnd.code ++ (BitVec.ofBool x.sat) ++ 0#6 ++
      x.op.code ++ 0#29 ++ x.msk

/-- The operands of a VfredR-shaped instruction. -/
def VfredR.ofWord (w : Word96) : Except Problem VfredR := do
  need (w.bits 35 2 == 0) .subop
  let op ← RedOp.ofCode (w.bits 32 3)
  let ty ← Ty.ofCode (w.bits 44 4)
  .ok { op := op, ty := ty, rnd := Rnd.ofCode (w.bits 42 2), sat := w.getLsbD 41, a := w.bits 72 8,
        b := w.bits 64 8, msk := w.bits 0 3 }

/-- The word of a VscanR-shaped instruction. -/
def VscanR.toWord (cls fn : BitVec 6) (x : VscanR) : Word96 :=
    cls ++ fn ++ 15#4 ++ x.a ++ x.b ++ 0#16 ++ x.ty.code ++ 0#8 ++ (BitVec.ofBool x.ex) ++ x.op.code ++ 0#29
      ++ x.msk

/-- The operands of a VscanR-shaped instruction. -/
def VscanR.ofWord (w : Word96) : Except Problem VscanR := do
  need (w.bits 36 1 == 0) .subop
  let op ← RedOp.ofCode (w.bits 32 3)
  let ty ← Ty.ofCode (w.bits 44 4)
  .ok { op := op, ex := w.getLsbD 35, ty := ty, a := w.bits 72 8, b := w.bits 64 8, msk := w.bits 0 3 }

/-- The word of a VfscanR-shaped instruction. -/
def VfscanR.toWord (cls fn : BitVec 6) (x : VfscanR) : Word96 :=
    cls ++ fn ++ 15#4 ++ x.a ++ x.b ++ 0#16 ++ x.ty.code ++ x.rnd.code ++ (BitVec.ofBool x.sat) ++ 0#5 ++
      (BitVec.ofBool x.ex) ++ x.op.code ++ 0#29 ++ x.msk

/-- The operands of a VfscanR-shaped instruction. -/
def VfscanR.ofWord (w : Word96) : Except Problem VfscanR := do
  need (w.bits 36 1 == 0) .subop
  let op ← RedOp.ofCode (w.bits 32 3)
  let ty ← Ty.ofCode (w.bits 44 4)
  .ok { op := op, ex := w.getLsbD 35, ty := ty, rnd := Rnd.ofCode (w.bits 42 2), sat := w.getLsbD 41,
        a := w.bits 72 8, b := w.bits 64 8, msk := w.bits 0 3 }

/-- The word of a AcfgR-shaped instruction. -/
def AcfgR.toWord (cls fn : BitVec 6) (x : AcfgR) : Word96 :=
    cls ++ fn ++ x.g ++ x.a ++ 0#60 ++ (BitVec.ofBool x.det) ++ 0#9 ++ x.size

/-- The operands of a AcfgR-shaped instruction. -/
def AcfgR.ofWord (w : Word96) : Except Problem AcfgR := do
  .ok { g := w.bits 80 4, a := w.bits 72 8, det := w.getLsbD 11, size := w.bits 0 2 }

/-- The word of a AmmaR-shaped instruction. -/
def AmmaR.toWord (cls fn : BitVec 6) (x : AmmaR) : Word96 :=
    cls ++ fn ++ x.g ++ x.a ++ x.b ++ x.c ++ x.d ++ x.ta ++ x.tb ++ 0#12 ++ (BitVec.ofBool x.det) ++
      (BitVec.ofBool x.adva) ++ (BitVec.ofBool x.advb) ++ x.ska ++ x.skb ++ 0#1

/-- The operands of a AmmaR-shaped instruction. -/
def AmmaR.ofWord (w : Word96) : Except Problem AmmaR := do
  .ok { g := w.bits 80 4, a := w.bits 72 8, b := w.bits 64 8, c := w.bits 56 8, d := w.bits 48 8,
        ta := w.bits 36 12, tb := w.bits 24 12, det := w.getLsbD 11, adva := w.getLsbD 10,
        advb := w.getLsbD 9, ska := w.bits 5 4, skb := w.bits 1 4 }

/-- The word of a AzeroR-shaped instruction. -/
def AzeroR.toWord (cls fn : BitVec 6) (x : AzeroR) : Word96 :=
    cls ++ fn ++ x.g ++ x.a ++ 0#60 ++ (BitVec.ofBool x.det) ++ 0#7 ++ x.mask

/-- The operands of a AzeroR-shaped instruction. -/
def AzeroR.ofWord (w : Word96) : Except Problem AzeroR := do
  .ok { g := w.bits 80 4, a := w.bits 72 8, det := w.getLsbD 11, mask := w.bits 0 4 }

/-- The word of a ArdR-shaped instruction. -/
def ArdR.toWord (cls fn : BitVec 6) (x : ArdR) : Word96 :=
    cls ++ fn ++ x.g ++ x.a ++ x.b ++ 0#8 ++ x.d ++ 0#36 ++ (BitVec.ofBool x.det) ++ 0#8 ++ (BitVec.ofBool
      x.sat) ++ x.rnd.code

/-- The operands of a ArdR-shaped instruction. -/
def ArdR.ofWord (w : Word96) : Except Problem ArdR := do
  .ok { g := w.bits 80 4, a := w.bits 72 8, b := w.bits 64 8, d := w.bits 48 8, det := w.getLsbD 11,
        rnd := Rnd.ofCode (w.bits 0 2), sat := w.getLsbD 2 }

/-- The word of a AtqR-shaped instruction. -/
def AtqR.toWord (cls fn : BitVec 6) (x : AtqR) : Word96 :=
    cls ++ fn ++ x.g ++ x.a ++ x.b ++ 0#8 ++ x.d ++ 0#36 ++ (BitVec.ofBool x.det) ++ 0#11

/-- The operands of a AtqR-shaped instruction. -/
def AtqR.ofWord (w : Word96) : Except Problem AtqR := do
  .ok { g := w.bits 80 4, a := w.bits 72 8, b := w.bits 64 8, d := w.bits 48 8, det := w.getLsbD 11 }

/-- The word of a EngR-shaped instruction. -/
def EngR.toWord (cls fn : BitVec 6) (k : BitVec 3) (x : EngR) : Word96 :=
    cls ++ fn ++ x.g ++ x.a ++ x.b ++ 0#52 ++ (BitVec.ofBool x.det) ++ 0#8 ++ k

/-- The operands of a EngR-shaped instruction. -/
def EngR.ofWord (w : Word96) : Except Problem EngR := do
  .ok { g := w.bits 80 4, a := w.bits 72 8, b := w.bits 64 8, det := w.getLsbD 11 }

/-- The word of a AtcntR-shaped instruction. -/
def AtcntR.toWord (cls fn : BitVec 6) (x : AtcntR) : Word96 :=
    cls ++ fn ++ x.g ++ x.a ++ x.b ++ 0#52 ++ (BitVec.ofBool x.det) ++ 0#6 ++ x.sel

/-- The operands of a AtcntR-shaped instruction. -/
def AtcntR.ofWord (w : Word96) : Except Problem AtcntR := do
  .ok { g := w.bits 80 4, a := w.bits 72 8, b := w.bits 64 8, det := w.getLsbD 11, sel := w.bits 0 5 }

/-- The word of a SmplR-shaped instruction. -/
def SmplR.toWord (cls fn : BitVec 6) (x : SmplR) : Word96 :=
    cls ++ fn ++ 15#4 ++ x.a ++ x.b ++ 0#16 ++ x.tid ++ 0#24 ++ (BitVec.ofBool x.det) ++ 0#11

/-- The operands of a SmplR-shaped instruction. -/
def SmplR.ofWord (w : Word96) : Except Problem SmplR := do
  .ok { a := w.bits 72 8, b := w.bits 64 8, det := w.getLsbD 11, tid := w.bits 36 12 }

/-- The word of a GenR-shaped instruction. -/
def GenR.toWord (cls fn : BitVec 6) (x : GenR) : Word96 :=
    cls ++ fn ++ 15#4 ++ x.a ++ x.b ++ 0#52 ++ (BitVec.ofBool x.det) ++ 0#11

/-- The operands of a GenR-shaped instruction. -/
def GenR.ofWord (w : Word96) : Except Problem GenR := do
  .ok { a := w.bits 72 8, b := w.bits 64 8, det := w.getLsbD 11 }

/-- The word of a BrR-shaped instruction. -/
def BrR.toWord (cls fn : BitVec 6) (k : BitVec 1) (x : BrR) : Word96 :=
    cls ++ fn ++ 15#4 ++ x.a ++ x.b ++ x.cond.code ++ x.tslot ++ k ++ x.loff ++ 0#24

/-- The operands of a BrR-shaped instruction. -/
def BrR.ofWord (w : Word96) : Except Problem BrR := do
  let cond ← Cond.ofCode (w.bits 60 4)
  .ok { cond := cond, a := w.bits 72 8, b := w.bits 64 8, tslot := w.bits 57 3, loff := w.bits 24 32 }

/-- The word of a JmpR-shaped instruction. -/
def JmpR.toWord (cls fn : BitVec 6) (k : BitVec 1) (x : JmpR) : Word96 :=
    cls ++ fn ++ 15#4 ++ 0#20 ++ x.tslot ++ k ++ x.loff ++ 0#24

/-- The operands of a JmpR-shaped instruction. -/
def JmpR.ofWord (w : Word96) : Except Problem JmpR := do
  .ok { tslot := w.bits 57 3, loff := w.bits 24 32 }

/-- The word of a LsetR-shaped instruction. -/
def LsetR.toWord (cls fn : BitVec 6) (x : LsetR) : Word96 :=
    cls ++ fn ++ 15#4 ++ 0#8 ++ x.b ++ 0#16 ++ x.sloff ++ x.sslot ++ x.eloff ++ x.eslot ++ 0#1 ++
      (BitVec.ofBool x.k)

/-- The operands of a LsetR-shaped instruction. -/
def LsetR.ofWord (w : Word96) : Except Problem LsetR := do
  .ok { k := w.getLsbD 0, sloff := w.bits 28 20, sslot := w.bits 25 3, eloff := w.bits 5 20,
        eslot := w.bits 2 3, b := w.bits 64 8 }

/-- The word of a SendR-shaped instruction. -/
def SendR.toWord (cls fn : BitVec 6) (x : SendR) : Word96 :=
    cls ++ fn ++ 15#4 ++ x.a ++ x.b ++ x.c ++ x.d ++ 0#27 ++ x.setm ++ (BitVec.ofBool x.pri) ++ x.len ++ x.hnd

/-- The operands of a SendR-shaped instruction. -/
def SendR.ofWord (w : Word96) : Except Problem SendR := do
  .ok { a := w.bits 72 8, b := w.bits 64 8, c := w.bits 56 8, d := w.bits 48 8, hnd := w.bits 0 8,
        len := w.bits 8 8, pri := w.getLsbD 16, setm := w.bits 17 4 }

/-- The word of a TinfoR-shaped instruction. -/
def TinfoR.toWord (cls fn : BitVec 6) (x : TinfoR) : Word96 :=
    cls ++ fn ++ 15#4 ++ x.a ++ 0#68 ++ x.sel

/-- The operands of a TinfoR-shaped instruction. -/
def TinfoR.ofWord (w : Word96) : Except Problem TinfoR := do
  .ok { a := w.bits 72 8, sel := w.bits 0 4 }

/-- The word of a EvR-shaped instruction. -/
def EvR.toWord (cls fn : BitVec 6) (x : EvR) : Word96 :=
    cls ++ fn ++ 15#4 ++ x.a ++ x.b ++ x.c ++ 0#37 ++ x.sc.code3 ++ x.name

/-- The operands of a EvR-shaped instruction. -/
def EvR.ofWord (w : Word96) : Except Problem EvR := do
  let sc ← Scope.ofCode3 (w.bits 16 3)
  .ok { a := w.bits 72 8, b := w.bits 64 8, c := w.bits 56 8, name := w.bits 0 16, sc := sc }

/-- The word of a EvcR-shaped instruction. -/
def EvcR.toWord (cls fn : BitVec 6) (x : EvcR) : Word96 :=
    cls ++ fn ++ 15#4 ++ x.a ++ 0#8 ++ x.c ++ 0#37 ++ x.sc.code3 ++ x.name

/-- The operands of a EvcR-shaped instruction. -/
def EvcR.ofWord (w : Word96) : Except Problem EvcR := do
  let sc ← Scope.ofCode3 (w.bits 16 3)
  .ok { a := w.bits 72 8, c := w.bits 56 8, name := w.bits 0 16, sc := sc }

/-- The word of a SforkR-shaped instruction. -/
def SforkR.toWord (cls fn : BitVec 6) (x : SforkR) : Word96 :=
    cls ++ fn ++ 15#4 ++ x.a ++ x.b ++ 0#24 ++ x.loff ++ (BitVec.ofBool x.pers) ++ 0#1 ++ x.hor ++ x.n

/-- The operands of a SforkR-shaped instruction. -/
def SforkR.ofWord (w : Word96) : Except Problem SforkR := do
  .ok { a := w.bits 72 8, b := w.bits 64 8, n := w.bits 0 4, hor := w.bits 4 16, pers := w.getLsbD 21,
        loff := w.bits 22 18 }

/-- The word of a SforkRootR-shaped instruction. -/
def SforkRootR.toWord (cls fn : BitVec 6) (k : BitVec 1) (x : SforkRootR) : Word96 :=
    cls ++ fn ++ 15#4 ++ x.a ++ 0#8 ++ x.c ++ x.d ++ 0#8 ++ x.loff ++ (BitVec.ofBool x.pers) ++ k ++ x.hor ++
      x.n

/-- The operands of a SforkRootR-shaped instruction. -/
def SforkRootR.ofWord (w : Word96) : Except Problem SforkRootR := do
  .ok { a := w.bits 72 8, c := w.bits 56 8, d := w.bits 48 8, n := w.bits 0 4, hor := w.bits 4 16,
        pers := w.getLsbD 21, loff := w.bits 22 18 }

/-- The word of a SjoinR-shaped instruction. -/
def SjoinR.toWord (cls fn : BitVec 6) (x : SjoinR) : Word96 :=
    cls ++ fn ++ 15#4 ++ x.a ++ x.b ++ 0#38 ++ x.ooff ++ (BitVec.ofBool x.wait) ++ (BitVec.ofBool x.adopt) ++
      x.keep ++ x.red

/-- The operands of a SjoinR-shaped instruction. -/
def SjoinR.ofWord (w : Word96) : Except Problem SjoinR := do
  .ok { a := w.bits 72 8, b := w.bits 64 8, red := w.bits 0 2, keep := w.bits 2 4,
        adopt := w.getLsbD 6, wait := w.getLsbD 7, ooff := w.bits 8 18 }

/-- The word of a SgateR-shaped instruction. -/
def SgateR.toWord (cls fn : BitVec 6) (x : SgateR) : Word96 :=
    cls ++ fn ++ 15#4 ++ x.a ++ x.b ++ 0#54 ++ x.layer

/-- The operands of a SgateR-shaped instruction. -/
def SgateR.ofWord (w : Word96) : Except Problem SgateR := do
  .ok { a := w.bits 72 8, b := w.bits 64 8, layer := w.bits 0 10 }

/-- The word of a SmigR-shaped instruction. -/
def SmigR.toWord (cls fn : BitVec 6) (x : SmigR) : Word96 :=
    cls ++ fn ++ 15#4 ++ x.a ++ x.b ++ 0#40 ++ (BitVec.ofBool x.unlink) ++ x.die ++ x.x3 ++ x.x2 ++ x.x1 ++
      x.x0

/-- The operands of a SmigR-shaped instruction. -/
def SmigR.ofWord (w : Word96) : Except Problem SmigR := do
  .ok { a := w.bits 72 8, b := w.bits 64 8, x0 := w.bits 0 5, x1 := w.bits 5 5, x2 := w.bits 10 5,
        x3 := w.bits 15 5, die := w.bits 20 3, unlink := w.getLsbD 23 }

/-- The word of a AdeclR-shaped instruction. -/
def AdeclR.toWord (cls fn : BitVec 6) (x : AdeclR) : Word96 :=
    cls ++ fn ++ 15#4 ++ x.a ++ x.b ++ 0#55 ++ (BitVec.ofBool x.dsp) ++ 0#2 ++ x.slot ++ x.sz

/-- The operands of a AdeclR-shaped instruction. -/
def AdeclR.ofWord (w : Word96) : Except Problem AdeclR := do
  need (w.bits 9 1 == 0) .value
  .ok { a := w.bits 72 8, b := w.bits 64 8, sz := w.bits 0 4, slot := w.bits 4 2, dsp := w.getLsbD 8 }

/-- The word of a CsrR-shaped instruction. -/
def CsrR.toWord (cls fn : BitVec 6) (x : CsrR) : Word96 :=
    cls ++ fn ++ 15#4 ++ x.a ++ 0#56 ++ x.csr

/-- The operands of a CsrR-shaped instruction. -/
def CsrR.ofWord (w : Word96) : Except Problem CsrR := do
  .ok { a := w.bits 72 8, csr := w.bits 0 16 }

/-- The word of a CsrwR-shaped instruction. -/
def CsrwR.toWord (cls fn : BitVec 6) (x : CsrwR) : Word96 :=
    cls ++ fn ++ 15#4 ++ x.a ++ x.b ++ 0#48 ++ x.csr

/-- The operands of a CsrwR-shaped instruction. -/
def CsrwR.ofWord (w : Word96) : Except Problem CsrwR := do
  .ok { a := w.bits 72 8, b := w.bits 64 8, csr := w.bits 0 16 }

/-- The word of a TlbiR-shaped instruction. -/
def TlbiR.toWord (cls fn : BitVec 6) (x : TlbiR) : Word96 :=
    cls ++ fn ++ 15#4 ++ x.a ++ x.b ++ 0#59 ++ 1#2 ++ (BitVec.ofBool x.pkg) ++ 0#1 ++ (BitVec.ofBool x.byAddr)

/-- The operands of a TlbiR-shaped instruction. -/
def TlbiR.ofWord (w : Word96) : Except Problem TlbiR := do
  need (w.bits 1 1 == 0) .value
  need (w.bits 3 2 == 1) .scope
  .ok { a := w.bits 72 8, b := w.bits 64 8, byAddr := w.getLsbD 0, pkg := w.getLsbD 2 }

/-- The word of a TrapR-shaped instruction. -/
def TrapR.toWord (cls fn : BitVec 6) (x : TrapR) : Word96 :=
    cls ++ fn ++ 15#4 ++ 0#8 ++ x.b ++ 0#32 ++ x.code

/-- The operands of a TrapR-shaped instruction. -/
def TrapR.ofWord (w : Word96) : Except Problem TrapR := do
  .ok { b := w.bits 64 8, code := w.bits 0 32 }

/-- The word of a FaultR-shaped instruction. -/
def FaultR.toWord (cls fn : BitVec 6) (x : FaultR) : Word96 :=
    cls ++ fn ++ 15#4 ++ 0#8 ++ x.b ++ 0#48 ++ x.code

/-- The operands of a FaultR-shaped instruction. -/
def FaultR.ofWord (w : Word96) : Except Problem FaultR := do
  .ok { b := w.bits 64 8, code := w.bits 0 16 }

/-- A machine code word: an instruction of a fetch line, or a word of a mask program. -/
inductive Code
  | cell (w : Word96)
  | mask (w : BitVec 32)
deriving DecidableEq, Repr

/-- A mask word (R317). -/
def maskWord (op : BitVec 6) (d a b : BitVec 3) (imm : BitVec 17) : BitVec 32 :=
  op ++ d ++ a ++ b ++ imm

/-- The word of an instruction; the steps of other agents have none. -/
def encode (i : Instr) : Option Code :=
  match i with
  | .nop => some (.cell (0x00#6 ++ 0x00#6 ++ 15#4 ++ 0#80))
  | .hint n => some (.cell (0x00#6 ++ n ++ 15#4 ++ 0#80))
  | .add x => some (.cell (x.toWord 0x01#6 0x00#6))
  | .sub x => some (.cell (x.toWord 0x01#6 0x01#6))
  | .mul x => some (.cell (x.toWord 0x01#6 0x02#6))
  | .mulh x => some (.cell (x.toWord 0x01#6 0x03#6))
  | .mulhn x => some (.cell (x.toWord 0x01#6 0x04#6))
  | .div x => some (.cell (x.toWord 0x01#6 0x05#6))
  | .divn x => some (.cell (x.toWord 0x01#6 0x06#6))
  | .rem x => some (.cell (x.toWord 0x01#6 0x07#6))
  | .remn x => some (.cell (x.toWord 0x01#6 0x08#6))
  | .and x => some (.cell (x.toWord 0x01#6 0x09#6))
  | .or x => some (.cell (x.toWord 0x01#6 0x0A#6))
  | .xor x => some (.cell (x.toWord 0x01#6 0x0B#6))
  | .andn x => some (.cell (x.toWord 0x01#6 0x0C#6))
  | .shl x => some (.cell (x.toWord 0x01#6 0x0D#6))
  | .shr x => some (.cell (x.toWord 0x01#6 0x0E#6))
  | .sar x => some (.cell (x.toWord 0x01#6 0x0F#6))
  | .rol x => some (.cell (x.toWord 0x01#6 0x10#6))
  | .min x => some (.cell (x.toWord 0x01#6 0x11#6))
  | .max x => some (.cell (x.toWord 0x01#6 0x12#6))
  | .minn x => some (.cell (x.toWord 0x01#6 0x13#6))
  | .maxn x => some (.cell (x.toWord 0x01#6 0x14#6))
  | .sadd x => some (.cell (x.toWord 0x01#6 0x15#6))
  | .ssub x => some (.cell (x.toWord 0x01#6 0x16#6))
  | .movi x => some (.cell (x.toWord 0x02#6 0x00#6))
  | .addi x => some (.cell (x.toWord 0x02#6 0x01#6))
  | .andi x => some (.cell (x.toWord 0x02#6 0x02#6))
  | .ori x => some (.cell (x.toWord 0x02#6 0x03#6))
  | .xori x => some (.cell (x.toWord 0x02#6 0x04#6))
  | .shli x => some (.cell (x.toWord 0x02#6 0x05#6))
  | .shri x => some (.cell (x.toWord 0x02#6 0x06#6))
  | .sari x => some (.cell (x.toWord 0x02#6 0x07#6))
  | .cmp x => some (.cell (x.toWord 0x03#6 0x00#6))
  | .sel x => some (.cell (x.toWord 0x03#6 0x01#6))
  | .mov x => some (.cell (x.toWord 0x03#6 0x02#6 0#2))
  | .clz x => some (.cell (x.toWord 0x03#6 0x03#6))
  | .ctz x => some (.cell (x.toWord 0x03#6 0x04#6))
  | .popc x => some (.cell (x.toWord 0x03#6 0x05#6))
  | .brev x => some (.cell (x.toWord 0x03#6 0x06#6))
  | .bswap x => some (.cell (x.toWord 0x03#6 0x07#6))
  | .bfx x => some (.cell (x.toWord 0x03#6 0x08#6))
  | .bfxs x => some (.cell (x.toWord 0x03#6 0x09#6))
  | .bfi x => some (.cell (x.toWord 0x03#6 0x0A#6))
  | .sext x => some (.cell (x.toWord 0x03#6 0x0B#6))
  | .zext x => some (.cell (x.toWord 0x03#6 0x0C#6))
  | .fadd x => some (.cell (x.toWord 0x04#6 0x00#6))
  | .fsub x => some (.cell (x.toWord 0x04#6 0x01#6))
  | .fmul x => some (.cell (x.toWord 0x04#6 0x02#6))
  | .ffma x => some (.cell (x.toWord 0x04#6 0x03#6))
  | .fdiv x => some (.cell (x.toWord 0x04#6 0x04#6))
  | .fsqrt x => some (.cell (x.toWord 0x04#6 0x05#6))
  | .fmin x => some (.cell (x.toWord 0x04#6 0x06#6))
  | .fmax x => some (.cell (x.toWord 0x04#6 0x07#6))
  | .fcmp x => some (.cell (x.toWord 0x04#6 0x08#6))
  | .fclass x => some (.cell (x.toWord 0x04#6 0x09#6))
  | .fabs x => some (.cell (x.toWord 0x04#6 0x0A#6))
  | .fneg x => some (.cell (x.toWord 0x04#6 0x0B#6))
  | .fcvt x => some (.cell (x.toWord 0x05#6 0x00#6))
  | .fcvti x => some (.cell (x.toWord 0x05#6 0x01#6))
  | .icvtf x => some (.cell (x.toWord 0x05#6 0x02#6))
  | .frnd x => some (.cell (x.toWord 0x05#6 0x03#6))
  | .ld x => some (.cell (x.toWord 0x06#6 0x00#6))
  | .lda x => some (.cell (x.toWord 0x06#6 0x01#6))
  | .lea x => some (.cell (x.toWord 0x06#6 0x02#6))
  | .pf x => some (.cell (x.toWord 0x06#6 0x03#6))
  | .st x => some (.cell (x.toWord 0x07#6 0x00#6))
  | .stl x => some (.cell (x.toWord 0x07#6 0x01#6))
  | .amo x => some (.cell (x.toWord 0x08#6 0x00#6))
  | .cas x => some (.cell (x.toWord 0x08#6 0x01#6))
  | .amof x => some (.cell (x.toWord 0x08#6 0x02#6))
  | .fence x => some (.cell (x.toWord 0x09#6 0x00#6))
  | .swf clus => some (.cell (0x09#6 ++ 0x01#6 ++ 15#4 ++ 0#35 ++ (BitVec.ofBool clus) ++ 0#44))
  | .cflush x => some (.cell (x.toWord 0x09#6 0x02#6))
  | .cinv x => some (.cell (x.toWord 0x09#6 0x03#6))
  | .czero x => some (.cell (x.toWord 0x09#6 0x04#6))
  | .cpy x => some (.cell (x.toWord 0x0A#6 0x00#6))
  | .cpym x => some (.cell (x.toWord 0x0A#6 0x01#6))
  | .cpyr x => some (.cell (x.toWord 0x0A#6 0x02#6))
  | .cpyg x => some (.cell (x.toWord 0x0A#6 0x03#6))
  | .cpys x => some (.cell (x.toWord 0x0A#6 0x04#6))
  | .chanRead x => some (.cell (x.toWord 0x0A#6 0x05#6 0#2))
  | .chanAddr x => some (.cell (x.toWord 0x0A#6 0x05#6 1#2))
  | .chanAbort x => some (.cell (x.toWord 0x0A#6 0x05#6 2#2))
  | .binit x => some (.cell (x.toWord 0x0B#6 0x00#6))
  | .bpost x => some (.cell (x.toWord 0x0B#6 0x01#6))
  | .btest x => some (.cell (x.toWord 0x0B#6 0x02#6))
  | .hbind x => some (.cell (x.toWord 0x0C#6 0x00#6))
  | .hbindNone x => some (.cell (x.toWord 0x0C#6 0x00#6 1#1))
  | .hadvp x => some (.cell (x.toWord 0x0C#6 0x01#6))
  | .hadvc x => some (.cell (x.toWord 0x0C#6 0x02#6))
  | .hstat x => some (.cell (x.toWord 0x0C#6 0x03#6 0#1))
  | .rep x => some (.cell (x.toWord 0x0C#6 0x04#6))
  | .gset x => some (.cell (x.toWord 0x0C#6 0x05#6))
  | .gclr n => some (.cell (0x0C#6 ++ 0x06#6 ++ 15#4 ++ 0#76 ++ n))
  | .tidset x => some (.cell (x.toWord 0x0D#6 0x00#6))
  | .tidget x => some (.cell (x.toWord 0x0D#6 0x01#6))
  | .tidinv x => some (.cell (x.toWord 0x0D#6 0x02#6))
  | .vadd x => some (.cell (x.toWord 0x10#6 0x00#6))
  | .vsub x => some (.cell (x.toWord 0x10#6 0x01#6))
  | .vmul x => some (.cell (x.toWord 0x10#6 0x02#6))
  | .vmulh x => some (.cell (x.toWord 0x10#6 0x03#6))
  | .vmin x => some (.cell (x.toWord 0x10#6 0x04#6))
  | .vmax x => some (.cell (x.toWord 0x10#6 0x05#6))
  | .vabs x => some (.cell (x.toWord 0x10#6 0x06#6))
  | .vsadd x => some (.cell (x.toWord 0x10#6 0x07#6))
  | .vssub x => some (.cell (x.toWord 0x10#6 0x08#6))
  | .vshl x => some (.cell (x.toWord 0x10#6 0x09#6))
  | .vshr x => some (.cell (x.toWord 0x10#6 0x0A#6))
  | .vsar x => some (.cell (x.toWord 0x10#6 0x0B#6))
  | .vand x => some (.cell (x.toWord 0x10#6 0x0C#6))
  | .vor x => some (.cell (x.toWord 0x10#6 0x0D#6))
  | .vxor x => some (.cell (x.toWord 0x10#6 0x0E#6))
  | .vnot x => some (.cell (x.toWord 0x10#6 0x0F#6))
  | .vfadd x => some (.cell (x.toWord 0x11#6 0x00#6))
  | .vfsub x => some (.cell (x.toWord 0x11#6 0x01#6))
  | .vfmul x => some (.cell (x.toWord 0x11#6 0x02#6))
  | .vfma x => some (.cell (x.toWord 0x11#6 0x03#6))
  | .vfmin x => some (.cell (x.toWord 0x11#6 0x04#6))
  | .vfmax x => some (.cell (x.toWord 0x11#6 0x05#6))
  | .vfabs x => some (.cell (x.toWord 0x11#6 0x06#6))
  | .vfneg x => some (.cell (x.toWord 0x11#6 0x07#6))
  | .vfcvt x => some (.cell (x.toWord 0x11#6 0x08#6))
  | .vrcp x => some (.cell (x.toWord 0x11#6 0x09#6))
  | .vrsq x => some (.cell (x.toWord 0x11#6 0x0A#6))
  | .vexp x => some (.cell (x.toWord 0x11#6 0x0B#6))
  | .vlog2 x => some (.cell (x.toWord 0x11#6 0x0C#6))
  | .vcmp x => some (.cell (x.toWord 0x12#6 0x00#6))
  | .vfcmp x => some (.cell (x.toWord 0x12#6 0x01#6))
  | .vsel x => some (.cell (x.toWord 0x12#6 0x02#6))
  | .vperm x => some (.cell (x.toWord 0x12#6 0x03#6))
  | .vbcast x => some (.cell (x.toWord 0x12#6 0x04#6))
  | .vextr x => some (.cell (x.toWord 0x12#6 0x05#6))
  | .vins x => some (.cell (x.toWord 0x12#6 0x06#6))
  | .vslide x => some (.cell (x.toWord 0x12#6 0x07#6))
  | .vcomp x => some (.cell (x.toWord 0x12#6 0x08#6))
  | .viota x => some (.cell (x.toWord 0x12#6 0x09#6))
  | .vred x => some (.cell (x.toWord 0x13#6 0x00#6))
  | .vfred x => some (.cell (x.toWord 0x13#6 0x01#6))
  | .vscan x => some (.cell (x.toWord 0x13#6 0x02#6))
  | .vfscan x => some (.cell (x.toWord 0x13#6 0x03#6))
  | .vargmax x => some (.cell (x.toWord 0x13#6 0x04#6))
  | .vld x => some (.cell (x.toWord 0x14#6 0x00#6))
  | .vst x => some (.cell (x.toWord 0x14#6 0x01#6))
  | .vlds x => some (.cell (x.toWord 0x14#6 0x02#6))
  | .vsts x => some (.cell (x.toWord 0x14#6 0x03#6))
  | .vgath x => some (.cell (x.toWord 0x14#6 0x04#6))
  | .vscat x => some (.cell (x.toWord 0x14#6 0x05#6))
  | .mand x => some (.cell (x.toWord 0x15#6 0x00#6))
  | .mor x => some (.cell (x.toWord 0x15#6 0x01#6))
  | .mxor x => some (.cell (x.toWord 0x15#6 0x02#6))
  | .mnot x => some (.cell (x.toWord 0x15#6 0x03#6))
  | .mpopc x => some (.cell (x.toWord 0x15#6 0x04#6))
  | .mfirst x => some (.cell (x.toWord 0x15#6 0x05#6))
  | .mset x => some (.cell (x.toWord 0x15#6 0x06#6))
  | .mget x => some (.cell (x.toWord 0x15#6 0x07#6))
  | .acfg x => some (.cell (x.toWord 0x18#6 0x00#6))
  | .amma x => some (.cell (x.toWord 0x18#6 0x01#6))
  | .azero x => some (.cell (x.toWord 0x18#6 0x02#6))
  | .ard x => some (.cell (x.toWord 0x18#6 0x03#6))
  | .atq x => some (.cell (x.toWord 0x1A#6 0x00#6))
  | .atapp x => some (.cell (x.toWord 0x1A#6 0x01#6 0#3))
  | .atseqCreate x => some (.cell (x.toWord 0x1A#6 0x02#6 0#3))
  | .atseqFork x => some (.cell (x.toWord 0x1A#6 0x02#6 1#3))
  | .atseqCommit x => some (.cell (x.toWord 0x1A#6 0x02#6 2#3))
  | .atseqTrim x => some (.cell (x.toWord 0x1A#6 0x02#6 3#3))
  | .atseqFree x => some (.cell (x.toWord 0x1A#6 0x02#6 4#3))
  | .atseqReport x => some (.cell (x.toWord 0x1A#6 0x02#6 5#3))
  | .atmsk x => some (.cell (x.toWord 0x1A#6 0x03#6 0#3))
  | .atcnt x => some (.cell (x.toWord 0x1A#6 0x04#6))
  | .smpl x => some (.cell (x.toWord 0x1B#6 0x00#6))
  | .topk x => some (.cell (x.toWord 0x1B#6 0x01#6))
  | .gmask x => some (.cell (x.toWord 0x1B#6 0x02#6))
  | .gstep x => some (.cell (x.toWord 0x1B#6 0x03#6))
  | .bqcfg x => some (.cell (x.toWord 0x1B#6 0x04#6 0#2))
  | .bqpush x => some (.cell (x.toWord 0x1B#6 0x05#6))
  | .bqpop x => some (.cell (x.toWord 0x1B#6 0x06#6))
  | .bqstat a => some (.cell (0x1B#6 ++ 0x07#6 ++ 15#4 ++ a ++ 0#72))
  | .cred x => some (.cell (x.toWord 0x1C#6 0x00#6 0#3))
  | .cscan x => some (.cell (x.toWord 0x1C#6 0x01#6 0#3))
  | .cbc x => some (.cell (x.toWord 0x1C#6 0x02#6 0#3))
  | .cgath x => some (.cell (x.toWord 0x1C#6 0x03#6 0#3))
  | .b x => some (.cell (x.toWord 0x20#6 0x00#6 0#1))
  | .j x => some (.cell (x.toWord 0x20#6 0x01#6 0#1))
  | .jl x => some (.cell (x.toWord 0x20#6 0x02#6 1#1))
  | .jr a => some (.cell (0x20#6 ++ 0x03#6 ++ 15#4 ++ a ++ 0#15 ++ 0#1 ++ 0#56))
  | .jlr a => some (.cell (0x20#6 ++ 0x04#6 ++ 15#4 ++ a ++ 0#15 ++ 1#1 ++ 0#56))
  | .lset x => some (.cell (x.toWord 0x21#6 0x00#6))
  | .lclr w => some (.cell (0x21#6 ++ 0x01#6 ++ 15#4 ++ 0#78 ++ w))
  | .send x => some (.cell (x.toWord 0x22#6 0x00#6))
  | .tspawn x => some (.cell (x.toWord 0x22#6 0x01#6 0#2))
  | .tend sc => some (.cell (0x22#6 ++ 0x02#6 ++ 15#4 ++ 0#77 ++ sc.code3))
  | .tinfo x => some (.cell (x.toWord 0x22#6 0x03#6))
  | .evsig x => some (.cell (x.toWord 0x23#6 0x00#6))
  | .evset x => some (.cell (x.toWord 0x23#6 0x01#6))
  | .evclr x => some (.cell (x.toWord 0x23#6 0x02#6))
  | .evread x => some (.cell (x.toWord 0x23#6 0x03#6))
  | .sfork x => some (.cell (x.toWord 0x24#6 0x00#6))
  | .sforkRoot x => some (.cell (x.toWord 0x24#6 0x00#6 1#1))
  | .sjoin x => some (.cell (x.toWord 0x24#6 0x01#6))
  | .skill x => some (.cell (x.toWord 0x24#6 0x02#6 0#2))
  | .sstep x => some (.cell (x.toWord 0x24#6 0x03#6 0#2))
  | .sact x => some (.cell (x.toWord 0x24#6 0x04#6))
  | .spopa x => some (.cell (x.toWord 0x24#6 0x05#6))
  | .sret x => some (.cell (x.toWord 0x24#6 0x06#6))
  | .sgate x => some (.cell (x.toWord 0x24#6 0x07#6))
  | .smig x => some (.cell (x.toWord 0x24#6 0x08#6))
  | .sflat x => some (.cell (x.toWord 0x24#6 0x09#6 0#2))
  | .sinfo x => some (.cell (x.toWord 0x24#6 0x0A#6))
  | .adecl x => some (.cell (x.toWord 0x25#6 0x00#6))
  | .astat x => some (.cell (x.toWord 0x25#6 0x01#6))
  | .csrrd x => some (.cell (x.toWord 0x30#6 0x00#6))
  | .csrwr x => some (.cell (x.toWord 0x30#6 0x01#6))
  | .time a => some (.cell (0x30#6 ++ 0x02#6 ++ 15#4 ++ a ++ 0#72))
  | .timeUntil x => some (.cell (x.toWord 0x30#6 0x02#6 1#2))
  | .tlbi x => some (.cell (x.toWord 0x30#6 0x03#6))
  | .trace x => some (.cell (x.toWord 0x30#6 0x04#6))
  | .brk code => some (.cell (0x31#6 ++ 0x00#6 ++ 15#4 ++ 0#48 ++ code))
  | .trap x => some (.cell (x.toWord 0x31#6 0x01#6))
  | .winrd x => some (.cell (x.toWord 0x31#6 0x02#6))
  | .winwr x => some (.cell (x.toWord 0x31#6 0x03#6))
  | .resumeRetry x => some (.cell (x.toWord 0x31#6 0x04#6 0#2))
  | .resumeSkip x => some (.cell (x.toWord 0x31#6 0x04#6 1#2))
  | .resumeDrop x => some (.cell (x.toWord 0x31#6 0x04#6 2#2))
  | .fault x => some (.cell (x.toWord 0x31#6 0x05#6))
  | .mlq d => some (.mask (maskWord 0x01#6 d 0#3 0#3 0#17))
  | .mlk d => some (.mask (maskWord 0x02#6 d 0#3 0#3 0#17))
  | .mldq d => some (.mask (maskWord 0x03#6 d 0#3 0#3 0#17))
  | .mldk d => some (.mask (maskWord 0x04#6 d 0#3 0#3 0#17))
  | .mla d => some (.mask (maskWord 0x05#6 d 0#3 0#3 0#17))
  | .mlp d imm => some (.mask (maskWord 0x06#6 d 0#3 0#3 imm))
  | .mli d imm => some (.mask (maskWord 0x07#6 d 0#3 0#3 imm))
  | .madd x => some (.mask (maskWord 0x08#6 x.d x.a x.b x.imm))
  | .msub x => some (.mask (maskWord 0x09#6 x.d x.a x.b x.imm))
  | .mmin x => some (.mask (maskWord 0x0A#6 x.d x.a x.b 0#17))
  | .mmax x => some (.mask (maskWord 0x0B#6 x.d x.a x.b 0#17))
  | .mclt x => some (.mask (maskWord 0x0C#6 x.d x.a x.b 0#17))
  | .mcle x => some (.mask (maskWord 0x0D#6 x.d x.a x.b 0#17))
  | .mceq x => some (.mask (maskWord 0x0E#6 x.d x.a x.b 0#17))
  | .mband x => some (.mask (maskWord 0x0F#6 x.d x.a x.b 0#17))
  | .mbor x => some (.mask (maskWord 0x10#6 x.d x.a x.b 0#17))
  | .mbnot d a => some (.mask (maskWord 0x11#6 d a 0#3 0#17))
  | .mvis a => some (.mask (maskWord 0x12#6 0#3 a 0#3 0#17))
  | .lineFetch _ _ => none
  | .lineRefetch _ _ => none
  | .resultWriteback _ => none
  | .homeSliceArrival _ => none
  | .homeSliceFill _ => none
  | .writeThroughAck _ => none
  | .loadReturn _ => none
  | .l1Eviction _ _ => none
  | .portArrival _ => none
  | .hearthSliceArrival _ => none
  | .hostWindowAccess _ => none
  | .traceRingDrain _ => none
  | .clusterTlbLookup _ => none
  | .tableWalk _ => none
  | .walkEntryRead _ => none
  | .walkInstall _ => none
  | .dirtyUpdate _ => none
  | .tlbiComplete _ => none
  | .hostInvalidate _ _ _ _ => none
  | .hearthSpill _ => none
  | .hearthFill _ _ => none
  | .tongsCommandStart _ => none
  | .tongsPieceLand _ _ => none
  | .tongsPieceAck _ => none
  | .tokenWrite _ => none
  | .barrierArrive _ => none
  | .pendingCopyReplay _ => none
  | .budgetPeriod => none
  | .lockRequest _ => none
  | .taskAbort _ _ => none
  | .setGrant _ => none
  | .commitDrain _ _ => none
  | .setRelease _ _ => none
  | .asetWaitLimit _ _ => none
  | .engineQueueHead _ _ => none
  | .ringWake _ _ => none
  | .ammaJoin _ => none
  | .ammaStepStart _ => none
  | .gangTimeout _ => none
  | .ammaFetch _ => none
  | .ammaFetchEnd _ => none
  | .ammaComputeEnd _ => none
  | .ardRowLand _ => none
  | .repIteration _ _ => none
  | .crucibleCommandArrival _ => none
  | .atqAccept _ => none
  | .atqTileFetch _ _ => none
  | .atqResult _ _ => none
  | .heldResultWrite _ _ => none
  | .kvSpill _ _ => none
  | .kvFill _ _ => none
  | .headCopy _ => none
  | .genCommandStart _ => none
  | .bloomQueueArrival _ => none
  | .collectiveJoin _ => none
  | .collectiveTimeout _ => none
  | .collectiveResult _ => none
  | .launchRecordCheck _ => none
  | .gridAdmission _ => none
  | .qtailWrite _ _ => none
  | .hostRegisterWrite _ => none
  | .contextEntrySignal _ _ => none
  | .messageArrival _ => none
  | .overflowReturn _ _ => none
  | .readyEntryFill _ _ => none
  | .taskStart _ _ => none
  | .depTableEntry _ => none
  | .spawnReady _ _ => none
  | .eventHomeArrival _ => none
  | .wdog _ _ => none
  | .gridTimeout _ => none
  | .gridEnd _ => none
  | .preemptRequest _ => none
  | .contextSave _ => none
  | .contextRestore _ _ => none
  | .gangSliceInstant _ => none
  | .gangDecision _ => none
  | .gateTimeout _ _ => none
  | .gateBatchForm _ _ => none
  | .gateBatchSend _ _ => none
  | .sjoinWaitComplete _ => none
  | .migreq _ => none
  | .migrationReceipt _ => none
  | .migack _ _ _ => none
  | .migrationTimeout _ => none
  | .gang _ => none
  | .tsync _ _ => none
  | .tsyncPeriod => none
  | .host _ _ => none
  | .link _ _ => none
  | .reservedPacketDrop _ _ => none
  | .linkFailure _ => none
  | .hwUe _ _ _ => none
  | .gridFaultEnd _ => none
  | .windowOpArrival _ => none
  | .contextRemoval _ => none
  | .removalTimeout _ => none
  | .packageReset _ => none
  | .replayDivergence _ _ => none
  | .quench => none
  | .quenchAbortTimeout => none
  | .firmwareVerify _ _ _ => none
  | .attestationRequest _ => none
  | .timeUntilDeadline _ _ => none
  | .tidReplicaUpdate _ => none
  | .powerLimit _ => none

/-- The functions of class 0x01. -/
def decode01 (w : Word96) : Except Problem Instr :=
  match (w.bits 84 6).toNat with
  | 0x00 => .add <$> T3.ofWord w
  | 0x01 => .sub <$> T3.ofWord w
  | 0x02 => .mul <$> T3.ofWord w
  | 0x03 => .mulh <$> T3.ofWord w
  | 0x04 => .mulhn <$> T3.ofWord w
  | 0x05 => .div <$> T3.ofWord w
  | 0x06 => .divn <$> T3.ofWord w
  | 0x07 => .rem <$> T3.ofWord w
  | 0x08 => .remn <$> T3.ofWord w
  | 0x09 => .and <$> T3.ofWord w
  | 0x0A => .or <$> T3.ofWord w
  | 0x0B => .xor <$> T3.ofWord w
  | 0x0C => .andn <$> T3.ofWord w
  | 0x0D => .shl <$> T3.ofWord w
  | 0x0E => .shr <$> T3.ofWord w
  | 0x0F => .sar <$> T3.ofWord w
  | 0x10 => .rol <$> T3.ofWord w
  | 0x11 => .min <$> T3.ofWord w
  | 0x12 => .max <$> T3.ofWord w
  | 0x13 => .minn <$> T3.ofWord w
  | 0x14 => .maxn <$> T3.ofWord w
  | 0x15 => .sadd <$> T3.ofWord w
  | 0x16 => .ssub <$> T3.ofWord w
  | _ => .error .func

/-- The functions of class 0x02. -/
def decode02 (w : Word96) : Except Problem Instr :=
  match (w.bits 84 6).toNat with
  | 0x00 => .movi <$> MoviR.ofWord w
  | 0x01 => .addi <$> ImmR.ofWord w
  | 0x02 => .andi <$> ImmR.ofWord w
  | 0x03 => .ori <$> ImmR.ofWord w
  | 0x04 => .xori <$> ImmR.ofWord w
  | 0x05 => .shli <$> ImmR.ofWord w
  | 0x06 => .shri <$> ImmR.ofWord w
  | 0x07 => .sari <$> ImmR.ofWord w
  | _ => .error .func

/-- The functions of class 0x03. -/
def decode03 (w : Word96) : Except Problem Instr :=
  match (w.bits 84 6).toNat with
  | 0x00 => .cmp <$> CmpR.ofWord w
  | 0x01 => .sel <$> SelR.ofWord w
  | 0x02 => .mov <$> MovR.ofWord w
  | 0x03 => .clz <$> T2.ofWord w
  | 0x04 => .ctz <$> T2.ofWord w
  | 0x05 => .popc <$> T2.ofWord w
  | 0x06 => .brev <$> T2.ofWord w
  | 0x07 => .bswap <$> T2.ofWord w
  | 0x08 => .bfx <$> BfR.ofWord w
  | 0x09 => .bfxs <$> BfR.ofWord w
  | 0x0A => .bfi <$> BfiR.ofWord w
  | 0x0B => .sext <$> T2.ofWord w
  | 0x0C => .zext <$> T2.ofWord w
  | _ => .error .func

/-- The functions of class 0x04. -/
def decode04 (w : Word96) : Except Problem Instr :=
  match (w.bits 84 6).toNat with
  | 0x00 => .fadd <$> FR3.ofWord w
  | 0x01 => .fsub <$> FR3.ofWord w
  | 0x02 => .fmul <$> FR3.ofWord w
  | 0x03 => .ffma <$> FR4.ofWord w
  | 0x04 => .fdiv <$> FR3.ofWord w
  | 0x05 => .fsqrt <$> FR2.ofWord w
  | 0x06 => .fmin <$> T3.ofWord w
  | 0x07 => .fmax <$> T3.ofWord w
  | 0x08 => .fcmp <$> CmpR.ofWord w
  | 0x09 => .fclass <$> T2.ofWord w
  | 0x0A => .fabs <$> T2.ofWord w
  | 0x0B => .fneg <$> T2.ofWord w
  | _ => .error .func

/-- The functions of class 0x05. -/
def decode05 (w : Word96) : Except Problem Instr :=
  match (w.bits 84 6).toNat with
  | 0x00 => .fcvt <$> CvtR.ofWord w
  | 0x01 => .fcvti <$> CvtR.ofWord w
  | 0x02 => .icvtf <$> CvtR.ofWord w
  | 0x03 => .frnd <$> FrndR.ofWord w
  | _ => .error .func

/-- The functions of class 0x06. -/
def decode06 (w : Word96) : Except Problem Instr :=
  match (w.bits 84 6).toNat with
  | 0x00 => .ld <$> MemR.ofWord w
  | 0x01 => .lda <$> MemR.ofWord w
  | 0x02 => .lea <$> LeaR.ofWord w
  | 0x03 => .pf <$> PfR.ofWord w
  | _ => .error .func

/-- The functions of class 0x07. -/
def decode07 (w : Word96) : Except Problem Instr :=
  match (w.bits 84 6).toNat with
  | 0x00 => .st <$> MemR.ofWord w
  | 0x01 => .stl <$> MemR.ofWord w
  | _ => .error .func

/-- The functions of class 0x08. -/
def decode08 (w : Word96) : Except Problem Instr :=
  match (w.bits 84 6).toNat with
  | 0x00 => .amo <$> AmoR.ofWord w
  | 0x01 => do need (w.bits 40 4 == 0) .value; .cas <$> AmoR.ofWord w
  | 0x02 => .amof <$> AmoR.ofWord w
  | _ => .error .func

/-- The functions of class 0x09. -/
def decode09 (w : Word96) : Except Problem Instr :=
  match (w.bits 84 6).toNat with
  | 0x00 => .fence <$> FenceR.ofWord w
  | 0x01 => do need (w.bits 45 3 == 0) .scope; .ok (.swf (w.getLsbD 44))
  | 0x02 => .cflush <$> MemRef.ofWord w
  | 0x03 => .cinv <$> MemRef.ofWord w
  | 0x04 => .czero <$> CzeroR.ofWord w
  | _ => .error .func

/-- The functions of class 0x0A. -/
def decode0A (w : Word96) : Except Problem Instr :=
  match (w.bits 84 6).toNat with
  | 0x00 => .cpy <$> CpyR.ofWord w
  | 0x01 => .cpym <$> CpymR.ofWord w
  | 0x02 => .cpyr <$> CpyR.ofWord w
  | 0x03 => .cpyg <$> CpygR.ofWord w
  | 0x04 => .cpys <$> CpygR.ofWord w
  | 0x05 => match (w.bits 0 2).toNat with
    | 0 => .chanRead <$> ChanR.ofWord w
    | 1 => .chanAddr <$> ChanR.ofWord w
    | 2 => .chanAbort <$> ChanR.ofWord w
    | _ => .error .value
  | _ => .error .func

/-- The functions of class 0x0B. -/
def decode0B (w : Word96) : Except Problem Instr :=
  match (w.bits 84 6).toNat with
  | 0x00 => .binit <$> BarR.ofWord w
  | 0x01 => .bpost <$> BpostR.ofWord w
  | 0x02 => .btest <$> BtestR.ofWord w
  | _ => .error .func

/-- The functions of class 0x0C. -/
def decode0C (w : Word96) : Except Problem Instr :=
  match (w.bits 84 6).toNat with
  | 0x00 => if w.getLsbD 8 then .hbindNone <$> HndR.ofWord w else .hbind <$> HbindR.ofWord w
  | 0x01 => .hadvp <$> HadvR.ofWord w
  | 0x02 => .hadvc <$> HadvR.ofWord w
  | 0x03 => .hstat <$> HndR.ofWord w
  | 0x04 => .rep <$> RepR.ofWord w
  | 0x05 => .gset <$> GsetR.ofWord w
  | 0x06 => .ok (.gclr (w.bits 0 4))
  | _ => .error .func

/-- The functions of class 0x0D. -/
def decode0D (w : Word96) : Except Problem Instr :=
  match (w.bits 84 6).toNat with
  | 0x00 => .tidset <$> TidR.ofWord w
  | 0x01 => .tidget <$> TidR.ofWord w
  | 0x02 => .tidinv <$> TidinvR.ofWord w
  | _ => .error .func

/-- The functions of class 0x10. -/
def decode10 (w : Word96) : Except Problem Instr :=
  match (w.bits 84 6).toNat with
  | 0x00 => .vadd <$> V3.ofWord w
  | 0x01 => .vsub <$> V3.ofWord w
  | 0x02 => .vmul <$> V3.ofWord w
  | 0x03 => .vmulh <$> V3.ofWord w
  | 0x04 => .vmin <$> V3.ofWord w
  | 0x05 => .vmax <$> V3.ofWord w
  | 0x06 => .vabs <$> VabsR.ofWord w
  | 0x07 => .vsadd <$> V3.ofWord w
  | 0x08 => .vssub <$> V3.ofWord w
  | 0x09 => .vshl <$> V3.ofWord w
  | 0x0A => .vshr <$> V3.ofWord w
  | 0x0B => .vsar <$> V3.ofWord w
  | 0x0C => .vand <$> V3.ofWord w
  | 0x0D => .vor <$> V3.ofWord w
  | 0x0E => .vxor <$> V3.ofWord w
  | 0x0F => .vnot <$> V2.ofWord w
  | _ => .error .func

/-- The functions of class 0x11. -/
def decode11 (w : Word96) : Except Problem Instr :=
  match (w.bits 84 6).toNat with
  | 0x00 => .vfadd <$> VF3.ofWord w
  | 0x01 => .vfsub <$> VF3.ofWord w
  | 0x02 => .vfmul <$> VF3.ofWord w
  | 0x03 => .vfma <$> VF4.ofWord w
  | 0x04 => .vfmin <$> V3.ofWord w
  | 0x05 => .vfmax <$> V3.ofWord w
  | 0x06 => .vfabs <$> V2.ofWord w
  | 0x07 => .vfneg <$> V2.ofWord w
  | 0x08 => .vfcvt <$> VfcvtR.ofWord w
  | 0x09 => .vrcp <$> VF2.ofWord w
  | 0x0A => .vrsq <$> VF2.ofWord w
  | 0x0B => .vexp <$> VabsR.ofWord w
  | 0x0C => .vlog2 <$> VabsR.ofWord w
  | _ => .error .func

/-- The functions of class 0x12. -/
def decode12 (w : Word96) : Except Problem Instr :=
  match (w.bits 84 6).toNat with
  | 0x00 => .vcmp <$> VcmpR.ofWord w
  | 0x01 => .vfcmp <$> VcmpR.ofWord w
  | 0x02 => .vsel <$> V3.ofWord w
  | 0x03 => .vperm <$> V3.ofWord w
  | 0x04 => .vbcast <$> VbcastR.ofWord w
  | 0x05 => .vextr <$> T3.ofWord w
  | 0x06 => .vins <$> T3.ofWord w
  | 0x07 => .vslide <$> VslideR.ofWord w
  | 0x08 => .vcomp <$> V2.ofWord w
  | 0x09 => .viota <$> ViotaR.ofWord w
  | _ => .error .func

/-- The functions of class 0x13. -/
def decode13 (w : Word96) : Except Problem Instr :=
  match (w.bits 84 6).toNat with
  | 0x00 => .vred <$> VredR.ofWord w
  | 0x01 => .vfred <$> VfredR.ofWord w
  | 0x02 => .vscan <$> VscanR.ofWord w
  | 0x03 => .vfscan <$> VfscanR.ofWord w
  | 0x04 => do need (w.bits 32 5 == 0) .subop; .vargmax <$> V3.ofWord w
  | _ => .error .func

/-- The functions of class 0x14. -/
def decode14 (w : Word96) : Except Problem Instr :=
  match (w.bits 84 6).toNat with
  | 0x00 => .vld <$> MemR.ofWord w
  | 0x01 => .vst <$> MemR.ofWord w
  | 0x02 => .vlds <$> MemR.ofWord w
  | 0x03 => .vsts <$> MemR.ofWord w
  | 0x04 => .vgath <$> MemR.ofWord w
  | 0x05 => .vscat <$> MemR.ofWord w
  | _ => .error .func

/-- The functions of class 0x15. -/
def decode15 (w : Word96) : Except Problem Instr :=
  match (w.bits 84 6).toNat with
  | 0x00 => .mand <$> T3.ofWord w
  | 0x01 => .mor <$> T3.ofWord w
  | 0x02 => .mxor <$> T3.ofWord w
  | 0x03 => .mnot <$> T2.ofWord w
  | 0x04 => .mpopc <$> T2.ofWord w
  | 0x05 => .mfirst <$> T2.ofWord w
  | 0x06 => .mset <$> T2.ofWord w
  | 0x07 => .mget <$> T2.ofWord w
  | _ => .error .func

/-- The functions of class 0x18. -/
def decode18 (w : Word96) : Except Problem Instr :=
  match (w.bits 84 6).toNat with
  | 0x00 => .acfg <$> AcfgR.ofWord w
  | 0x01 => .amma <$> AmmaR.ofWord w
  | 0x02 => .azero <$> AzeroR.ofWord w
  | 0x03 => .ard <$> ArdR.ofWord w
  | _ => .error .func

/-- The functions of class 0x1A. -/
def decode1A (w : Word96) : Except Problem Instr :=
  match (w.bits 84 6).toNat with
  | 0x00 => .atq <$> AtqR.ofWord w
  | 0x01 => .atapp <$> EngR.ofWord w
  | 0x02 => match (w.bits 0 3).toNat with
    | 0 => .atseqCreate <$> EngR.ofWord w
    | 1 => .atseqFork <$> EngR.ofWord w
    | 2 => .atseqCommit <$> EngR.ofWord w
    | 3 => .atseqTrim <$> EngR.ofWord w
    | 4 => .atseqFree <$> EngR.ofWord w
    | 5 => .atseqReport <$> EngR.ofWord w
    | _ => .error .value
  | 0x03 => .atmsk <$> EngR.ofWord w
  | 0x04 => .atcnt <$> AtcntR.ofWord w
  | _ => .error .func

/-- The functions of class 0x1B. -/
def decode1B (w : Word96) : Except Problem Instr :=
  match (w.bits 84 6).toNat with
  | 0x00 => .smpl <$> SmplR.ofWord w
  | 0x01 => .topk <$> GenR.ofWord w
  | 0x02 => .gmask <$> GenR.ofWord w
  | 0x03 => .gstep <$> GenR.ofWord w
  | 0x04 => .bqcfg <$> MovR.ofWord w
  | 0x05 => .bqpush <$> A3.ofWord w
  | 0x06 => .bqpop <$> AcR.ofWord w
  | 0x07 => .ok (.bqstat (w.bits 72 8))
  | _ => .error .func

/-- The functions of class 0x1C. -/
def decode1C (w : Word96) : Except Problem Instr :=
  match (w.bits 84 6).toNat with
  | 0x00 => .cred <$> EngR.ofWord w
  | 0x01 => .cscan <$> EngR.ofWord w
  | 0x02 => .cbc <$> EngR.ofWord w
  | 0x03 => .cgath <$> EngR.ofWord w
  | _ => .error .func

/-- The functions of class 0x20. -/
def decode20 (w : Word96) : Except Problem Instr :=
  match (w.bits 84 6).toNat with
  | 0x00 => do need (w.bits 56 1 == 0) .link; .b <$> BrR.ofWord w
  | 0x01 => do need (w.bits 56 1 == 0) .link; .j <$> JmpR.ofWord w
  | 0x02 => do need (w.bits 56 1 == 1) .link; .jl <$> JmpR.ofWord w
  | 0x03 => do need (w.bits 56 1 == 0) .link; .ok (.jr (w.bits 72 8))
  | 0x04 => do need (w.bits 56 1 == 1) .link; .ok (.jlr (w.bits 72 8))
  | _ => .error .func

/-- The functions of class 0x21. -/
def decode21 (w : Word96) : Except Problem Instr :=
  match (w.bits 84 6).toNat with
  | 0x00 => .lset <$> LsetR.ofWord w
  | 0x01 => .ok (.lclr (w.bits 0 2))
  | _ => .error .func

/-- The functions of class 0x22. -/
def decode22 (w : Word96) : Except Problem Instr :=
  match (w.bits 84 6).toNat with
  | 0x00 => .send <$> SendR.ofWord w
  | 0x01 => .tspawn <$> MovR.ofWord w
  | 0x02 => do let sc ← Scope.ofCode3 (w.bits 0 3); .ok (.tend sc)
  | 0x03 => .tinfo <$> TinfoR.ofWord w
  | _ => .error .func

/-- The functions of class 0x23. -/
def decode23 (w : Word96) : Except Problem Instr :=
  match (w.bits 84 6).toNat with
  | 0x00 => .evsig <$> EvR.ofWord w
  | 0x01 => .evset <$> EvR.ofWord w
  | 0x02 => .evclr <$> EvcR.ofWord w
  | 0x03 => .evread <$> EvcR.ofWord w
  | _ => .error .func

/-- The functions of class 0x24. -/
def decode24 (w : Word96) : Except Problem Instr :=
  match (w.bits 84 6).toNat with
  | 0x00 => if w.getLsbD 20 then .sforkRoot <$> SforkRootR.ofWord w else .sfork <$> SforkR.ofWord w
  | 0x01 => .sjoin <$> SjoinR.ofWord w
  | 0x02 => .skill <$> MovR.ofWord w
  | 0x03 => .sstep <$> MovR.ofWord w
  | 0x04 => .sact <$> A3.ofWord w
  | 0x05 => .spopa <$> A3.ofWord w
  | 0x06 => .sret <$> A3.ofWord w
  | 0x07 => .sgate <$> SgateR.ofWord w
  | 0x08 => .smig <$> SmigR.ofWord w
  | 0x09 => .sflat <$> MovR.ofWord w
  | 0x0A => .sinfo <$> A3.ofWord w
  | _ => .error .func

/-- The functions of class 0x25. -/
def decode25 (w : Word96) : Except Problem Instr :=
  match (w.bits 84 6).toNat with
  | 0x00 => .adecl <$> AdeclR.ofWord w
  | 0x01 => .astat <$> TinfoR.ofWord w
  | _ => .error .func

/-- The functions of class 0x30. -/
def decode30 (w : Word96) : Except Problem Instr :=
  match (w.bits 84 6).toNat with
  | 0x00 => .csrrd <$> CsrR.ofWord w
  | 0x01 => .csrwr <$> CsrwR.ofWord w
  | 0x02 => if w.getLsbD 0 then .timeUntil <$> MovR.ofWord w else .ok (.time (w.bits 72 8))
  | 0x03 => .tlbi <$> TlbiR.ofWord w
  | 0x04 => .trace <$> A3.ofWord w
  | _ => .error .func

/-- The functions of class 0x31. -/
def decode31 (w : Word96) : Except Problem Instr :=
  match (w.bits 84 6).toNat with
  | 0x00 => .ok (.brk (w.bits 0 32))
  | 0x01 => .trap <$> TrapR.ofWord w
  | 0x02 => .winrd <$> A4.ofWord w
  | 0x03 => .winwr <$> A4.ofWord w
  | 0x04 => match (w.bits 0 2).toNat with
    | 0 => .resumeRetry <$> MovR.ofWord w
    | 1 => .resumeSkip <$> MovR.ofWord w
    | 2 => .resumeDrop <$> MovR.ofWord w
    | _ => .error .value
  | 0x05 => .fault <$> FaultR.ofWord w
  | _ => .error .func

/-- The instruction a word holds, before its operands are checked (R47). -/
def decodeRaw (w : Word96) : Except Problem Instr :=
  match (w.bits 90 6).toNat with
  | 0x00 => if w.bits 84 6 == 0#6 then .ok .nop else .ok (.hint (w.bits 84 6))
  | 0x01 => decode01 w
  | 0x02 => decode02 w
  | 0x03 => decode03 w
  | 0x04 => decode04 w
  | 0x05 => decode05 w
  | 0x06 => decode06 w
  | 0x07 => decode07 w
  | 0x08 => decode08 w
  | 0x09 => decode09 w
  | 0x0A => decode0A w
  | 0x0B => decode0B w
  | 0x0C => decode0C w
  | 0x0D => decode0D w
  | 0x10 => decode10 w
  | 0x11 => decode11 w
  | 0x12 => decode12 w
  | 0x13 => decode13 w
  | 0x14 => decode14 w
  | 0x15 => decode15 w
  | 0x18 => decode18 w
  | 0x1A => decode1A w
  | 0x1B => decode1B w
  | 0x1C => decode1C w
  | 0x20 => decode20 w
  | 0x21 => decode21 w
  | 0x22 => decode22 w
  | 0x23 => decode23 w
  | 0x24 => decode24 w
  | 0x25 => decode25 w
  | 0x30 => decode30 w
  | 0x31 => decode31 w
  | _ => .error .cls

/-- The check that decoding ends with: a well-formed instruction, or its problem (R47). -/
def checked (i : Instr) : Except Problem Instr :=
  match i.problem with
  | none => .ok i
  | some p => .error p

/-- Every 96-bit pattern is an instruction or is undefined for a named reason (R47). -/
def decodeCell (w : Word96) : Except Problem Instr := decodeRaw w >>= checked

/-- The instruction of a mask word, before its registers are checked (R317, R318). -/
def decodeMaskRaw (w : BitVec 32) : Except Problem Instr :=
  let d := w.extractLsb' 23 3
  let a := w.extractLsb' 20 3
  let b := w.extractLsb' 17 3
  let imm := w.extractLsb' 0 17
  match (w.extractLsb' 26 6).toNat with
  | 0x01 => .ok (.mlq d)
  | 0x02 => .ok (.mlk d)
  | 0x03 => .ok (.mldq d)
  | 0x04 => .ok (.mldk d)
  | 0x05 => .ok (.mla d)
  | 0x06 => .ok (.mlp d imm)
  | 0x07 => .ok (.mli d imm)
  | 0x08 => .ok (.madd { d := d, a := a, b := b, imm := imm })
  | 0x09 => .ok (.msub { d := d, a := a, b := b, imm := imm })
  | 0x0A => .ok (.mmin { d := d, a := a, b := b })
  | 0x0B => .ok (.mmax { d := d, a := a, b := b })
  | 0x0C => .ok (.mclt { d := d, a := a, b := b })
  | 0x0D => .ok (.mcle { d := d, a := a, b := b })
  | 0x0E => .ok (.mceq { d := d, a := a, b := b })
  | 0x0F => .ok (.mband { d := d, a := a, b := b })
  | 0x10 => .ok (.mbor { d := d, a := a, b := b })
  | 0x11 => .ok (.mbnot d a)
  | 0x12 => .ok (.mvis a)
  | _ => .error .func

/-- Every 32-bit pattern is a mask instruction or has a problem: an unknown operation or a register
out of range (R313, R318). -/
def decodeMask (w : BitVec 32) : Except Problem Instr := decodeMaskRaw w >>= checked

/-- The instruction in the bytes of one slot, lowest address first (R20). -/
def decodeSlot (bs : List Byte) : Except Problem Instr :=
  if bs.length = 12 then decodeCell (BitVec.ofNat 96 (ofBytes bs)) else .error .length

/-- The mask instruction in the four bytes of a word of a mask program (R317). -/
def decodeMaskBytes (bs : List Byte) : Except Problem Instr :=
  if bs.length = 4 then decodeMask (BitVec.ofNat 32 (ofBytes bs)) else .error .length

/-- The instruction of a row of spec/opcode_table.json: a mask word where the row has 32 bits, and
otherwise an instruction of a slot, its bits above `nbits` zero. -/
def decodeTableWord (nbits w : Nat) : Option Instr :=
  match (if nbits ≤ 32 then decodeMaskBytes (bytesOf 4 (w % 2 ^ nbits))
         else decodeSlot (bytesOf 12 (w % 2 ^ nbits))) with
  | .ok i => some i
  | .error _ => none

end Sys2Proof
end

