-- ==== Sys2Proof/Machine/State.lean ====
section
/-!
DEFINITION. Machine/State.lean: everything the specification gives the package, as plain data. Each
field names the rule that gives it; INVENTORY.md lists the reset values. Sparse things (registers,
cells, tables) are lists of a number and a value in rising order; a number that is not listed holds
the reset value of its kind.
-/

namespace Sys2Proof.Machine

/-- A table: rising keys, each with its value. -/
abbrev Map (α : Type) := List (Nat × α)

/-! ### Causes, messages and traps -/

/-- The causes of R409. -/
inductive Cause
  | undef | brk | trap | fetchPar | btm | falloff | loopRange | loopNest | repClass | repRange
  | xltCanon | xltInvalid | xltRsvd | xltPhys | xltPerm
  | memUe | memAlign | addrRange | addrGrid | stateDead | ovlFrozen | ovlNopage
  | arithNv | arithDz | arithOf | arithUf | arithNx
  | wdog | asetWait | asetIrrev | asetOvf
  | anvMismatch | maskIll | collMismatch | genNolegal
  | hwUe | replayDiv | trapNest | holdFull | recFull
  | soft (code : BitVec 16)
deriving DecidableEq, Repr

/-- A cause with the values its report carries (R409, R412). -/
structure Trap where
  cause : Cause
  pc : Nat
  addr : Nat := 0
  detail : Nat := 0
  spc : Nat := 0
  insn : Nat := 0
deriving DecidableEq, Repr

/-- A message: its 64-byte header as one number and its payload (R372). -/
structure Msg where
  hdr : Nat
  pay : List Byte
deriving DecidableEq, Repr

/-- A spawn: its 256-byte descriptor, with the stamp and the message id made at TSPAWN (R376). -/
structure Spawn where
  desc : Nat
  age : Word
  msgid : Nat
  gts : Nat
  gid : Nat
  die : Nat
  parent : Nat
deriving DecidableEq, Repr

/-- What a task's send buffer holds (R387, R388). -/
inductive Send
  | msg (m : Msg)
  | spawn (p : Spawn)
deriving DecidableEq, Repr

/-! ### Engine commands -/

/-- The functions of the queued engine classes. -/
inductive CmdOp
  | cpy | cpym | cpyr | cpyg | cpys
  | acfg | amma | azero | ard
  | atq | atapp | atseq (op : Nat) | atmsk | atcnt
  | smpl | topk | gmask | gstep
  | cred | cscan | cbc | cgath
deriving DecidableEq, Repr

/-- A bound ring handle: its 256-bit descriptor and the .d address of its control word (R269). -/
structure Ring where
  desc : Nat
  ctl : Nat
deriving DecidableEq, Repr

/-- A command as captured at issue (R118, R269, R287, R304). -/
structure Cmd where
  op : CmdOp
  /-- guard slot, 15 for none -/
  guard : Nat
  cell : Nat
  hi : Bool
  gid : Nat
  msgid : Nat
  /-- the activation that issued it -/
  act : Nat
  pc : Nat
  /-- the token register, none when detached (R124) -/
  tok : Option RegSpec
  sc : Scope
  /-- the value of register B, or the descriptor it names -/
  arg : Nat
  /-- the captured entries of TIDA and TIDB -/
  ea : Nat := 0
  eb : Nat := 0
  ta : Nat := 0
  tb : Nat := 0
  /-- the captured handles of fields C and D -/
  ringC : Option Ring := none
  ringD : Option Ring := none
  /-- CNT[10:0] -/
  cnt : Nat := 0
  chan : Option Nat := none
  started : Bool := false
  /-- its own serial number -/
  id : Nat := 0
  /-- the 96 bits of the instruction, for a report (R412) -/
  insn : Nat := 0
  /-- its task has ended with the guard slot unresolved or false: it is discarded at the head (R287) -/
  void : Bool := false
deriving DecidableEq, Repr

/-- A cached leaf (R72): `glob` for GLOBAL, `size` the bits of its page offset. -/
structure TlbEnt where
  asid : Nat
  glob : Bool
  size : Nat
  vpn : Nat
  frame : Nat
  read : Bool
  write : Bool
  exec : Bool
  mtype : Nat
  ue : Bool
  dirty : Bool
  /-- physical address of the leaf entry (R66) -/
  leaf : Nat
deriving DecidableEq, Repr

/-- A repetition in progress (R289, R290): captured words, program counter, counts and marks. -/
structure Rep where
  body : List (Nat × Nat)
  iter : Nat
  count : Nat
  stag : Int
  mark : Nat
  at_ : Nat
  /-- the release, translation and fault of the instruction about to issue, as for the task's own -/
  rel : Option Nat := none
  xwait : Option Nat := none
  xfault : Option Trap := none
  xheld : List TlbEnt := []
deriving DecidableEq, Repr

/-! ### Tasks and banks -/

/-- A declared set (R161): whether .d, its base, SZ, and whether it is held or requested. -/
structure SetSlot where
  dsp : Bool
  base : Nat
  sz : Nat
  held : Bool := false
  asked : Bool := false
  /-- where the lock entry stands: 0 none yet, else 1 + the physical address or .d package place -/
  place : Option Nat := none
deriving DecidableEq, Repr

/-- A line of a commit buffer (R174): whether scratchpad, its key, where it goes, mask and data. -/
structure CommitLine where
  dsp : Bool
  key : Nat
  dst : Nat
  mask : Nat
  data : Nat
  n : Nat := 0
  /-- its poisoned 64-bit words, as a mask (R422) -/
  bad : Nat := 0
deriving DecidableEq, Repr

/-- How far TEND or an abort has come (R178, R389). -/
inductive Ending
  | none
  | draining
  | drained
  | releasing
deriving DecidableEq, Repr

/-- The task that runs in a bank. -/
structure Task where
  gid : Nat
  /-- a number of its own for each activation, by which late results of an earlier one are known -/
  act : Nat
  msg : Msg
  slots : Map SetSlot := []
  sends : List Send := []
  /-- GT of the first issue, once it has issued (R381) -/
  first : Option Nat := none
  /-- cycles not counted against the budget, and since when the present exclusion lasts (R381) -/
  excl : Nat := 0
  exclFrom : Option Nat := none
  /-- cycles of waiting for sets, and since when (R173) -/
  waited : Nat := 0
  waitFrom : Option Nat := none
  /-- the halting trap that holds the task (R410) -/
  halted : Option Trap := none
  wounded : Bool := false
  /-- an aborting trap to be raised at the next instruction boundary (R280, R307, R336, R345) -/
  pendTrap : Option Trap := none
  ending : Ending := .none
  /-- release in progress: waits for accesses older than this serial number (R90, R146) -/
  rel : Option Nat := none
  /-- the translation the instruction at pc waits for, or its fault (R73, R70) -/
  xwait : Option Nat := none
  xfault : Option Trap := none
  /-- the translations received for the instruction at pc, which it uses although its cell's TLB lose them (R73) -/
  xheld : List TlbEnt := []
  /-- entry of the dependence table it was spawned from (R376) -/
  dep : Option (Nat × Nat) := none
  /-- list slot of the batch that started it: die, gate, slot (R399) -/
  batch : Option (Nat × Nat × Nat) := none
  /-- TIME with UNTIL waits for this GT, to write this register (R434) -/
  until_ : Option (Nat × RegSpec) := none
  /-- buffers assigned to the tensors it declared (R378) -/
  bufs : Map Nat := []
  /-- scope of the acquire at its start -/
  sc : Scope := .cell
  /-- TEND waits for room in the dependence table (R376) -/
  depWait : Bool := false
deriving DecidableEq, Repr

/-- The fetch line a bank issues from (R20): its virtual address and its 512 bits. -/
structure Line where
  addr : Nat
  data : Nat
deriving DecidableEq, Repr

/-- One register bank of a cell (R191). -/
structure Bank where
  s : Map Word := []
  v : Map Vec := []
  m : Map Word := []
  lk : Word := 0
  pc : Word := 0
  st : Word := 0
  age : Word := 0
  msg : Word := 0
  lc0 : Word := 0
  lc1 : Word := 0
  ls0 : Word := 0
  ls1 : Word := 0
  le0 : Word := 0
  le1 : Word := 0
  hnd : Map Ring := []
  guards : Map Bool := []
  /-- the scoreboard: specifiers of registers whose result is not yet written (R189) -/
  pend : List RegSpec := []
  /-- specifiers of registers that hold poisoned data (R422) -/
  poison : List RegSpec := []
  /-- the poisoned 64-bit words of each vector register, as a mask (R422) -/
  vbad : Map Nat := []
  commit : List CommitLine := []
  line : Option Line := none
  /-- the fetch of the line is to be made once more, past the L1 (R25) -/
  refetch : Bool := false
  /-- the source of the transfer that led to pc, whose target mask is to be checked (R354) -/
  entered : Option Nat := none
  /-- sequential flow has passed slot 4 of a line whose END bit is set (R23) -/
  fell : Bool := false
  /-- the line whose END bit a zero-count skip is still to examine (R359) -/
  past : Option Nat := none
  /-- the instruction at pc is the second of a requested pair, and whether of a joint one (R28) -/
  second : Bool := false
  joint : Bool := false
  /-- the token registers that nothing has written since, with the scope of the acquire of each read (R145) -/
  tokens : Map Scope := []
  rep : Option Rep := none
  task : Option Task := none
  /-- tag of the last task that started here (R375) -/
  lastTag : Option Nat := none
deriving DecidableEq, Repr

/-! ### Caches and translation -/

/-- A translation held for a 4 KiB piece of a copy (R77): the page, the leaf, and the serial number at which
it was made. -/
structure PieceXl where
  page : Nat
  e : TlbEnt
  n : Nat
deriving DecidableEq, Repr

/-- A piece read and not yet landed (R117): its elements, their bytes as a number, whether any of them was
poisoned, and the destination. -/
structure Got where
  els : Nat
  data : Nat
  bad : Bool
  dst : Nat
deriving DecidableEq, Repr

/-- The progress of a copy: elements passed, bytes landed, the index of the row in progress (R130), the
translations held for the present 4 KiB pieces of source and destination (R77), and the piece in hand. -/
structure Work where
  pos : Nat := 0
  landed : Nat := 0
  row : Option (Nat × Nat) := none
  src : Option PieceXl := none
  dst : Option PieceXl := none
  got : Option Got := none
deriving DecidableEq, Repr

/-- A copy channel (R115, R125, R131). -/
structure Chan where
  cmd : Option Cmd := none
  w : Work := {}
  out : Nat := 0
  poisoned : Bool := false
  stop : Option (Nat × Nat) := none
  /-- the token of its command is on the way -/
  done : Bool := false
  status : Nat := 0
  bytes : Nat := 0
  addr : Nat := 0
  /-- members of a CPYM whose remainder is saved (R128, R137) -/
  away : List Nat := []
  /-- registers that CHAN abort is to write when the command completes (R131): cell bank, activation, register -/
  waits : List (Bool × Nat × RegSpec) := []
deriving DecidableEq, Repr

/-- A walk-cache entry (R72): ASID, virtual-address bits of its level, and the table entry. -/
structure WalkEnt where
  asid : Nat
  key : Nat
  pte : Nat
  at_ : Nat := 0
deriving DecidableEq, Repr

/-- A line of an L1 (R87): line address, valid and dirty byte masks, tag (clus when set), data. -/
structure L1Line where
  pa : Nat
  valid : Nat
  dirty : Nat
  clus : Bool
  data : Nat
  /-- placed with hint keep, and so favoured in replacement (R105, R108) -/
  keep : Bool := false
  /-- message of the task that wrote the dirty bytes last, for the race trace (R99) -/
  msgid : Nat := 0
  /-- its poisoned 64-bit words, as a mask (R422) -/
  bad : Nat := 0
deriving DecidableEq, Repr

/-- A lock entry (R166): key, holder, and waiters oldest first. A claim names ASID, space, base and
size; a party names cell, bank, age and message id. -/
structure Party where
  cell : Nat
  hi : Bool
  act : Nat
  age : Word
  msgid : Nat
  gid : Nat
  slot : Nat
deriving DecidableEq, Repr

/-- A lock entry (R166). -/
structure Lock where
  asid : Nat
  dsp : Bool
  base : Nat
  sz : Nat
  place : Nat
  spill : Bool
  holder : Option Party
  waiters : List Party
deriving DecidableEq, Repr

/-- Where an access is serialised (R141). -/
inductive Loc
  | home (pa : Nat)
  | port (cell off : Nat)
  | hearth (sid off : Nat)
  | host (pa : Nat)
deriving DecidableEq, Repr

/-- What becomes of the data an access returns. -/
inductive Ret
  | reg (dst : RegSpec) (ty : Ty)
  | vec (dst : RegSpec)
  | lane (dst : RegSpec) (i w : Nat)
  | prefetch
  | none
deriving DecidableEq, Repr

/-- The stream instructions as they act at the hearth slice (R395 to R406). -/
inductive StreamOp
  | fork (n hor : Nat) (pers : Bool) (loff : Nat)
  | root (n hor : Nat) (pers : Bool) (loff seq disc : Nat)
  | join (red keep : Nat) (adopt wait : Bool) (ooff : Nat)
  | kill
  | step
  | act (data : Nat)
  | popa (off : Nat)
  | ret (r : Nat)
  | gate (layer : Nat)
  | mig (x : List Nat) (die : Nat) (unlink : Bool)
  | flat
  | info (off : Nat)
deriving DecidableEq, Repr

/-- What becomes of the line of a load in the L1 (R88, R105, R108): nothing, a merge into the line when it is
still there, a line placed, or a line placed and favoured in replacement. -/
inductive Fill
  | none
  | merge
  | line
  | keep
deriving DecidableEq, Repr

/-- What an access does at its serialisation point. `hbind` carries the handle and the key of its bytes past
the first line. -/
inductive AOp
  | load (ret : Ret) (fill : Fill)
  | store (data mask : Nat) (kind : Nat)
  | atomic (op : AmoOp) (ty : Ty) (c : Nat) (ret : RegSpec)
  | cas (ty : Ty) (c new : Nat) (ret : RegSpec)
  | amof (op : AmoOp) (ty : Ty) (c : Nat) (ret : RegSpec)
  | binit
  | bpost (n : Nat)
  | btest (ret : RegSpec)
  | advance (consumer : Bool) (n : Nat) (nslot : Nat) (ret : RegSpec)
  | hstat (ret : RegSpec)
  | hbind (n key2 : Nat) (ret : RegSpec)
  | stream (op : StreamOp) (ret : RegSpec) (gt : Nat)
deriving DecidableEq, Repr

/-- An access on its way: who made it, from which instruction, where to, and what it does. -/
structure Access where
  cell : Nat
  hi : Bool
  /-- made by a task of the bank, rather than by an engine or the cell itself -/
  task : Bool := true
  gid : Nat
  asid : Nat
  msgid : Nat
  /-- the activation, zero for the device's own accesses -/
  act : Nat
  pc : Nat
  ea : Nat
  loc : Loc
  n : Nat
  op : AOp
  /-- bytes that the cell itself supplies in place of those read: dirty or buffered ones (R88, R105, R174) -/
  ovMask : Nat := 0
  ovData : Nat := 0
  /-- to a page of type 1 or 2, whose accesses by one task arrive in program order (R94) -/
  unc : Bool := false
  /-- a write whose bytes the L1 of its cell shows already: its line was there (R89) -/
  carry : Bool := false
  /-- the poisoned 64-bit words of the line among those that it writes, as a mask (R422) -/
  bad : Nat := 0
  /-- the 96 bits of the instruction, for a report (R412) -/
  insn : Nat := 0
  /-- a handle register that is pending until the answer (R191) -/
  also : Option RegSpec := Option.none
  /-- an acquire follows (R106, R159, R273) -/
  acq : Option Scope := Option.none
deriving DecidableEq, Repr

/-- A translation asked for (R73): ASID, address, KIND of R71 and the bank that waits. -/
structure Xlat where
  asid : Nat
  va : Nat
  kind : Nat
  cell : Nat
  hi : Bool
  act : Nat
  /-- asked for by the repetition hardware of the bank (R290) -/
  rep : Bool := false
  /-- asked for by an engine of the cell, for the command whose number `act` is: no bank waits (R70) -/
  eng : Bool := false
  /-- asked for by a PF: the fill to be started under it (R108) -/
  pf : Option Access := none
  gid : Nat := 0
deriving DecidableEq, Repr

/-- A walk (R69): its request, the others it serves, level and table. -/
structure Walk where
  x : Xlat
  joined : List Xlat
  lvl : Nat
  table : Nat
  /-- restarted by an invalidation (R77) -/
  pte : Nat := 0
  /-- its place in the queue of misses that found all 64 walks busy (R74) -/
  ticket : Option Nat := none
deriving DecidableEq, Repr

/-! ### What is under way between agents -/

/-- A multi-cycle result (R189): destination, value, flags NV DZ OF UF NX from bit 4 down. -/
structure Wb where
  cell : Nat
  hi : Bool
  act : Nat
  pc : Nat
  insn : Nat
  dst : RegSpec
  val : Nat
  flags : Nat
  float : Bool
deriving DecidableEq, Repr

/-- A token on its way (R124): the command, status and value. -/
structure Tok where
  cmd : Cmd
  status : Nat
  val : Nat
  /-- the copy channel whose command it completes -/
  chan : Option Nat := none
  /-- what a crucible command writes into its cell's scratchpad first: offset, bytes, data (R307, R310) -/
  out : Option (Nat × Nat × Nat) := none
deriving DecidableEq, Repr

/-- A set request, grant or release (R165 to R170). -/
structure LockMsg where
  asid : Nat
  dsp : Bool
  base : Nat
  sz : Nat
  place : Nat
  who : Party
  release : Bool
deriving DecidableEq, Repr

/-- A bloom-queue operation (R349). -/
inductive BloomOp
  | cfg (budget : Nat)
  | push (key node seq : Nat)
  | pop (c : RegSpec)
  | stat
deriving DecidableEq, Repr

/-- An event operation (R391): 0 EVSIG, 1 EVSET, 2 EVCLR, 3 EVREAD. -/
structure EvOp where
  kind : Nat
  name : Nat
  val : Nat
  acq : Option Scope
deriving DecidableEq, Repr

/-- A window operation or RESUME (R415 to R417). -/
inductive WinOp
  | rd (spec : Nat) (d : RegSpec)
  | wr (spec : Nat) (val : Word)
  | resume (mode : Nat)
deriving DecidableEq, Repr

/-- A tensor-identifier operation on its way to the serialisation point, or, made there, the version
that goes to the replicas of other dies and the status it reports (R234, R235). -/
inductive TidOp
  | set (img : Nat)
  | inv
  | copy (img : Nat) (status : Nat) (left : List Nat)
deriving DecidableEq, Repr

/-- A bank and its task, for answers. -/
structure Who where
  cell : Nat
  hi : Bool
  act : Nat
  msgid : Nat
  gid : Nat
deriving DecidableEq, Repr

/-- A message in a queue, with what the task it starts must know. -/
structure QMsg where
  msg : Msg
  dep : Option (Nat × Nat) := none
  batch : Option (Nat × Nat × Nat) := none
  bufs : Map Nat := []
  /-- scope of the acquire at the task's start (R145) -/
  sc : Scope := .cell
  /-- the activation that sent it, by which messages of one task keep their order (R373) -/
  src : Option Nat := none
  /-- flits that it has had of the sending die (R383) -/
  paid : Nat := 0
deriving DecidableEq, Repr

/-- What is on its way from one agent to another; the steps of the agents name it by its place. -/
inductive Flight
  | result (w : Wb)
  | access (a : Access)
  | fill (a : Access)
  | reply (a : Access) (data : Nat) (ue : Option Trap)
  | ack (a : Access)
  | look (x : Xlat)
  | walk (x : Walk)
  | wread (x : Walk)
  | winst (x : Walk) (e : TlbEnt)
  | dirty (x : Xlat) (e : TlbEnt)
  | xfail (x : Xlat) (t : Trap)
  | tlbi (w : Who) (dst : Option RegSpec) (kind asid va : Nat) (die : Option Nat) (mark : Nat)
  | pieceAck (cell ch n from_ : Nat)
  | token (t : Tok)
  | count (cell off n gid msgid : Nat)
  | lock (q : LockMsg)
  | grant (q : LockMsg)
  | cruc (c : Cmd)
  | accept (c : Cmd)
  | bloom (w : Who) (o : BloomOp) (dst : RegSpec)
  | msg (gid : Nat) (q : QMsg)
  | dep (p : Spawn) (sc : Scope)
  | event (w : Who) (e : EvOp) (dst : RegSpec)
  | sjoin (w : Who) (a : Access) (op : StreamOp) (ret : RegSpec)
  | window (w : Who) (target : Nat) (o : WinOp) (dst : RegSpec)
  | tid (w : Who) (id : Nat) (o : TidOp) (dst : RegSpec)
  | mig (w : Who) (sid : Nat) (dst : RegSpec) (xfer : Nat)
deriving DecidableEq, Repr

/-- A flight with its serial number, by which releases wait for older ones, and its cell. -/
structure Fly where
  n : Nat
  cell : Nat
  f : Flight
deriving DecidableEq, Repr

/-! ### The cell -/

/-- Accumulator kinds (R281). -/
inductive AccKind
  | none | fp32 | int32 | fp64
deriving DecidableEq, Repr

/-- An accumulator buffer (R281): element `32·row + column` as its pattern. -/
structure Acc where
  kind : AccKind := .none
  el : Map Nat := []
  nan : Bool := false
  of : Bool := false
  wrap : Bool := false
deriving DecidableEq, Repr

/-- An ARD whose rows are landing (R293): bytes of a row, its rows as numbers, how many have landed, the
place of the first byte, and the flags of the buffer. -/
structure Ard where
  cmd : Cmd
  size : Nat
  rows : List Nat
  row : Nat := 0
  loc : Option Loc
  flags : Nat
deriving DecidableEq, Repr

/-- An operand-cache entry (R283): control word, generation, role (B when set), its 4 KiB as a number. -/
structure OpEnt where
  ctl : Nat
  gen : Nat
  roleB : Bool
  data : Nat
deriving DecidableEq, Repr

/-- A ready-table entry (R374); a re-run keeps its message. -/
structure Ready where
  hi : Bool
  msg : Msg
  pass : Nat
  dep : Option (Nat × Nat) := none
  batch : Option (Nat × Nat × Nat) := none
  bufs : Map Nat := []
  sc : Scope := .cell
  /-- its start counts in ASET_RESTART (R184) -/
  rerun : Bool := false
deriving DecidableEq, Repr

/-- A held message of the hold area (R414): the aborted task's start and its trap. -/
structure Held where
  r : Ready
  trap : Trap
deriving DecidableEq, Repr

/-- A release of an activation whose instruction has gone on (R145, R146, R156): of a command's issue, or of a FENCE when
none is named. Until its write-backs are sent it waits for the loads older than `mark`, and then for the writes. -/
structure Rel where
  act : Nat
  cmd : Option Nat
  sc : Scope
  mark : Nat
  sent : Bool
deriving DecidableEq, Repr

/-- A waiting BTEST (R136). -/
structure Watch where
  off : Nat
  who : Who
  dst : RegSpec
deriving DecidableEq, Repr

/-- 64 bytes that a generation unit has read for the command at the head of its queue: the space and the address, the
data, and the 64-bit words of them that are poisoned (R330, R343). -/
structure GLine where
  space : Nat
  addr : Nat
  data : Nat
  bad : Nat
deriving DecidableEq, Repr

/-- A cell (R13, R188). -/
structure Cell where
  lo : Bank := {}
  hi : Bank := {}
  /-- the grid that holds the cell, and whether it is switched in (R367) -/
  grid : Option Nat := none
  /-- message sequence (R372) and the stamps made in the present cycle (R169) -/
  seq : Nat := 0
  stampGt : Nat := 0
  stampN : Nat := 0
  tongs : List Cmd := []
  anvil : List Cmd := []
  cruc : List Cmd := []
  coll : List Cmd := []
  /-- collectives that failed before this member came to them (R345) -/
  missed : Nat := 0
  /-- commands completed without joining, DESC or GRID, for which no member has opened a collective yet (R346, log 89) -/
  passed : Nat := 0
  gen : List Cmd := []
  /-- what the generation unit has read for the command at the head of its queue -/
  gbuf : List GLine := []
  chans : Map Chan := []
  gang : Nat := 0
  acc : Map Acc := []
  opc : List OpEnt := []
  ard : Option Ard := none
  l1 : List L1Line := []
  tlb : List TlbEnt := []
  qlo : List QMsg := []
  qhi : List QMsg := []
  ready : List Ready := []
  /-- tasks to enter the ready table again, before any queued message (R374) -/
  again : List Ready := []
  hold : List Held := []
  csr : Map Nat := []
  watch : List Watch := []
  locks : List Lock := []
  rels : List Rel := []
deriving DecidableEq, Repr

/-- A bloom-queue entry (R349). -/
structure BloomEnt where
  key : Nat
  node : Nat
  seq : Nat
deriving DecidableEq, Repr

/-- A cluster (R72, R98, R349). -/
structure Cluster where
  tlb : Map (List TlbEnt) := []
  bloom : List BloomEnt := []
  budget : Nat := 0
  drops : Nat := 0
  ring : List Nat := []
  fused : Bool := false
  /-- operand mode of its grid: B broadcast bus when set (R282) -/
  bus : Bool := false
deriving DecidableEq, Repr

/-! ### The die -/

/-- An overlay map (R78). -/
structure OMap where
  parent : Option Nat
  depth : Nat
  count : Nat
  owned : Bool
  ents : Map Nat
deriving DecidableEq, Repr

/-- A pool of overlay maps and their pages: maps by id, page counts, and the limits of R78 and R81. -/
structure Pool where
  maps : Map OMap := []
  pages : Map Nat := []
deriving DecidableEq, Repr

/-- The statuses of R393. -/
inductive SStat
  | free | live | atGate | waitJoin | done | pruned
deriving DecidableEq, Repr

/-- A stream entry (R393) with its queue, grid and map. -/
structure Stream where
  status : SStat
  gid : Nat
  asid : Nat
  map : Nat
  ret : Nat := 0
  disc : Nat := 0
  jval : Nat := 0
  jwin : Nat := 0
  parent : Nat := 0
  pv : Bool := false
  horizon : Nat := 0
  steps : Nat := 0
  layer : Nat := 0
  queue : List Nat := []
  owner : Nat := 0
  seq : Nat := 0
  lnk : Bool := false
  pers : Bool := false
  disp : Bool := false
  mig : Bool := false
  /-- the transfer under way, while `mig` is set (R403) -/
  xfer : Nat := 0
  age : Word := 0
  /-- cycle of arrival at its gate, and whether its pages are pinned (R398, R103) -/
  arrived : Nat := 0
  pinned : Bool := false
deriving DecidableEq, Repr

/-- A formed batch (R399): ids oldest first, number, list writes still under way, slot. -/
structure Batch where
  ids : List Nat
  /-- the streams among them that have not left the gate since (R401) -/
  mine : List Nat
  num : Nat
  slot : Nat
  age : Word
  gid : Nat
  mark : Nat
deriving DecidableEq, Repr

/-- A gate of a die (R398, R399). -/
structure Gate where
  parked : List Nat := []
  next : Nat := 0
  busy : List Nat := []
  batches : List Batch := []
deriving DecidableEq, Repr

/-- A spawn in the dependence table (R376 to R379): waits of events, and whether it has started. -/
structure Dep where
  p : Spawn
  /-- spawns it waits for, by message id -/
  after : List Nat
  ev0 : Bool
  ev1 : Bool
  started : Bool
  bufs : Map Nat
  /-- scope of the acquire at the start of its task, widened by each end waited for (R377) -/
  sc : Scope := .cell
deriving DecidableEq, Repr

/-- A forge die. -/
structure Die where
  hs : Map (List Nat) := []
  hsRing : Map (List Nat) := []
  locks : Map (List Lock) := []
  wc4 : List WalkEnt := []
  wc3 : List WalkEnt := []
  wc2 : List WalkEnt := []
  pool : Pool := {}
  /-- pages out of their frames, and the others, the most recently used first (R103) -/
  spilled : List Nat := []
  recent : List Nat := []
  streams : Map Stream := []
  gates : Map Gate := []
  dep : List Dep := []
  /-- the message overflow area: grid, queue and message (R373) -/
  spillQ : List (Nat × Nat × QMsg) := []
  csr : Map Nat := []
  /-- the period, and the slots spent in it, by grid and kind (R383) -/
  period : Nat := 0
  spent : Map (Map Nat) := []
deriving DecidableEq, Repr

/-! ### The crucible -/

/-- A sequence (R295, R315). -/
structure Seq where
  asid : Nat
  gid : Nat
  map : Nat
  parent : Option Nat
  children : List Nat
  nl : Nat
  nkvh : Nat
  len : Nat
  floor : Nat
  pers : Bool
  stream : Option Nat
  ctr : Map Nat
deriving DecidableEq, Repr

/-- A KV page's header and tags (R298); its bytes stand in memory. -/
structure KvPage where
  fill : Nat := 0
  kexp : Int := 0
  vexp : Int := 0
  dmin : Int := 0
  dmax : Int := 0
  amin : Int := 0
  amax : Int := 0
  tags : Map (Int × Int) := []
  /-- the header or the tags are poisoned (R422) -/
  poison : Bool := false
  sram : Bool := true
  /-- the ASID whose append made it (R315) -/
  asid : Nat := 0
deriving DecidableEq, Repr

/-- The record of an ASID on a crucible (R300, R314). -/
structure AsidEnt where
  head : Nat := 1
  ctr : Map Nat := []
  spill : Nat := 0
  fill : Nat := 0
deriving DecidableEq, Repr

/-- Tri-state values (R316). -/
inductive Tri
  | t | f | m
deriving DecidableEq, Repr

/-- An interval with its saturation marks (R316). -/
structure Ival where
  lo : Int := 0
  hi : Int := 0
  slo : Bool := false
  shi : Bool := false
deriving DecidableEq, Repr

/-- What the mask unit's loads yield (R319). -/
structure MaskIn where
  tile : Bool := true
  q : Ival := {}
  k : Ival := {}
  dq : Ival := {}
  dk : Ival := {}
  at_ : Ival := {}
  par : List Int := []
deriving DecidableEq, Repr

/-- The mask unit of a crucible (R316): program, place, inputs, registers, result. -/
structure MaskU where
  prog : List (BitVec 32) := []
  at_ : Nat := 0
  inp : MaskIn := {}
  x : Map Ival := []
  b : Map Tri := []
  res : Option Tri := none
deriving DecidableEq, Repr

/-- A row of a query in progress (R303). -/
structure QRow where
  pos : Int
  doc : Int
  q : List Nat
  m : Nat
  l : Nat
  o : List Nat
  seen : Bool
deriving DecidableEq, Repr

/-- A query in progress (R302 to R307). -/
structure Query where
  cmd : Cmd
  /-- handle and FLOOR of its sequence at acceptance -/
  seq : Nat
  floor : Nat
  prog : List (BitVec 32)
  /-- the pages still to be classed, by logical index, and the pages that its sequence's map named at acceptance, which
  are pinned until it completes (R299, R304) -/
  pages : List (Nat × Nat)
  pinned : List Nat
  rows : List QRow
  full : Nat
  part : Nat
  empty : Nat
  poisoned : Bool
deriving DecidableEq, Repr

/-- A crucible (R295 to R328). -/
structure Crucible where
  seqs : Map Seq := []
  gens : Map Nat := []
  pool : Pool := {}
  kv : Map KvPage := []
  /-- pages that stand in a frame, the most recently used first (R299) -/
  recent : List Nat := []
  asids : Map AsidEnt := []
  slots : Map (Nat × List (BitVec 32)) := []
  queries : List Query := []
  held : List Query := []
  mu : MaskU := {}
deriving DecidableEq, Repr

/-! ### Steps and collectives in progress -/

/-- Phases of a gang step (R279, R284). -/
inductive Phase
  | joining | ready | fetching | fetched
deriving DecidableEq, Repr

/-- A gang step (R279 to R286). -/
structure GangStep where
  cluster : Nat
  ox : Nat
  oy : Nat
  side : Nat
  joined : List (Nat × Cmd)
  since : Nat
  phase : Phase
  genA : Nat := 0
  genB : Nat := 0
  /-- the broadcast that the step is part of, on the broadcast bus (R285) -/
  wave : Nat := 0
  scA : Map Nat := []
  scB : Map Nat := []
  /-- the operand bytes of each member cell -/
  opA : Map Nat := []
  opB : Map Nat := []
deriving DecidableEq, Repr

/-- A collective (R345): members joined with their input. -/
structure Coll where
  joined : List (Nat × Cmd)
  since : Nat
  complete : Bool := false
  /-- members whose command completed without joining (R346) -/
  past : List Nat := []
  /-- commands that its first member had completed without joining and that no collective has answered for (log 89) -/
  base : Nat := 0
  /-- flits that its traffic is still to take, by the sending die (R383, log 92) -/
  owes : List (Nat × Nat) := []
deriving DecidableEq, Repr

/-! ### Grids and the platform -/

/-- How a grid ends (R370, R420): status, cause, FPC, DETAIL, FDETAIL. -/
structure EndInfo where
  status : Nat
  cause : Nat := 0
  fpc : Nat := 0
  detail : Nat := 0
  fdetail : Nat := 0
deriving DecidableEq, Repr

/-- Whether a grid runs, is being switched out, or is saved (R367, R382, R424). -/
inductive Resid
  | running | preempting | saved
deriving DecidableEq, Repr

/-- A pending copy (R137): the command and the progress it had made. -/
structure PendCopy where
  cmd : Cmd
  w : Work := {}
  /-- the one member of a CPYM that is to receive it -/
  only : Option Nat := none
deriving DecidableEq, Repr

/-- What of a cell is saved with its grid (R425). -/
structure SavedCell where
  cell : Nat
  pad : List Host.Cell
  poison : List Nat
  qlo : List QMsg
  qhi : List QMsg
  ready : List Ready
  again : List Ready
  hold : List Held
  csr : Map Nat
  missed : Nat
  passed : Nat := 0
deriving DecidableEq, Repr

/-- What of a cluster is saved with its grid (R349, R425). -/
structure SavedClu where
  clu : Nat
  bloom : List BloomEnt
  budget : Nat
  drops : Nat
deriving DecidableEq, Repr

/-- A grid (R364 to R371). -/
structure Grid where
  /-- the launch record, 2,048 bits; `tid` holds the replica of each die, 4,096 keys to a die -/
  lr : Nat
  queue : Nat
  gtStart : Nat
  tasks : Nat := 0
  gates : Map Nat := []
  fuse : List Nat := []
  tid : Map Nat := []
  events : Map Nat := []
  resid : Resid := .running
  ending : Option EndInfo := none
  /-- a failed link has lost something of the grid (R421) -/
  cut : Bool := false
  aset : Map Nat := []
  pend : List PendCopy := []
  /-- bytes of the recording area used, and the records (R429) -/
  recPos : Nat := 0
  saved : List SavedCell := []
  savedClus : List SavedClu := []
  savedDep : List (Nat × Dep) := []
  savedStreams : Map Stream := []
  /-- gates saved with the grid: die, key and gate (R404, R425) -/
  savedGates : List (Nat × Nat × Gate) := []
  /-- the save key under which the grid was saved, by its number, where its part of the save area stands, and the
  bytes of that part as the save left them (R426) -/
  sealKey : Nat := 0
  sealAt : Nat := 0
  image : List Host.Cell := []
  /-- active events that stand in the event area (R380) -/
  evSpill : List Nat := []
  /-- records still to occur, when the grid replays a recording (R430): index, kind and content; how many have
  occurred, and when the last one did -/
  replay : Option (List (Nat × Nat × Nat)) := none
  met : Nat := 0
  metAt : Nat := 0
  /-- TRCTL[0] (R433) -/
  trctl : Bool := true
deriving DecidableEq, Repr

/-- A record checked at the head of its queue, with the copies kept (R366). -/
structure Launch where
  lr : Nat
  gates : Map Nat
  fuse : List Nat
  tid : Map Nat
deriving DecidableEq, Repr

/-- A launch queue (R440) and the record that waits for admission. -/
structure LQueue where
  base : Nat := 0
  log : Nat := 0
  head : Nat := 0
  tail : Nat := 0
  pending : Option Launch := none
  /-- the grid admitted last, and whether it has ended -/
  last : Option Nat := none
deriving DecidableEq, Repr

/-- Interrupts to the host (R370, R447). -/
inductive Irq
  | completion (launchid asid status : Nat)
  | timeOff
deriving DecidableEq, Repr

/-- A migration in (R403, R446). -/
structure MigIn where
  src : Nat
  xfer : Nat
  gangid : Nat
  die : Nat
  since : Nat
  entry : Option Nat
  queue : List Nat
  pages : List (Nat × Nat × List Byte)
  last : Bool
  /-- refused already: its packets that are still to come are dropped -/
  refused : Bool := false
deriving DecidableEq, Repr

/-- A packet sent to the torus (R444). -/
inductive Packet
  | migreq (x : List Nat) (p : MigPacket)
  | migack (dst xfer : Nat) (status newId : Nat)
  | host (dst : List Nat) (flits : List (BitVec 512))
  | gang (dst : Nat) (p : GangPacket)
  | tsync (port gt : Nat)
deriving DecidableEq, Repr

/-- A gang slice between its instant and its decision (R384): the job that comes in, its members, the report
window, and whether this package has sent READY. -/
structure GangTry where
  slice : Nat
  at_ : Nat
  gangid : Nat
  gwin : Nat
  members : List Nat
  sent : Bool := false
deriving DecidableEq, Repr

/-- A context removal in progress (R428). -/
structure Removal where
  asid : Nat
  step : Nat
  since : Nat
deriving DecidableEq, Repr

/-- The host die's side and the platform (R438 to R450). -/
structure Plat where
  queues : Map LQueue := []
  msgArea : Map (Nat × Nat) := []
  evArea : Map (Nat × Nat) := []
  lockArea : Map (Nat × Nat) := []
  hearthArea : Map (Nat × Nat) := []
  gangArea : Option (Nat × Nat) := none
  coords : Option (Nat × Nat × Nat × Nat) := none
  irqs : List Irq := []
  /-- READY and LATE packets received, and slices decided (R384) -/
  gang : List GangPacket := []
  slices : List Nat := []
  /-- the schedule that the host gives, the slice being decided, the job that runs, the job to be tried
  again, and slices abandoned by job (R384) -/
  gangSched : List GangSlice := []
  gangTry : Option GangTry := none
  gangNow : Option Nat := none
  gangRetry : Option Nat := none
  abandons : Map Nat := []
  migIn : List MigIn := []
  /-- what has been handed to the ports; on a failed one it is lost (R421) -/
  sent : List Packet := []
  down : List LinkId := []
  rsvd : Map Nat := []
  /-- correction of GT still to be slewed (R447) -/
  slew : Int := 0
  /-- cycles since a count of it was last made or refused -/
  slewAt : Nat := 0
  /-- periods of 2^20 cycles whose samples have been sent (R447) -/
  tsyncs : Nat := 0
  quench : Option Nat := none
  /-- the header of the quench image that the device has written (R443) -/
  header : Option QuenchHeader := none
  /-- HEADs that the host has signalled and that have not reached the crucibles, by ASID (R439) -/
  headDue : Map Nat := []
  removals : List Removal := []
  keyEpoch : Nat := 0
  /-- firmware measurement registers and error codes by die (R448) -/
  pcr : List (BitVec 384) := []
  booted : List Nat := []
  bootErr : Map Nat := []
  reports : List (List Byte) := []
  throttle : Nat := 0
  hostIn : List (Nat × List (BitVec 512)) := []
  xfers : Nat := 0
  /-- recordings named as replay sources, by launch identifier (R430) -/
  replays : Map (List (Nat × Nat)) := []
deriving DecidableEq, Repr

/-! ### The schedule -/

/-- Where an error of the memory or of an SRAM strikes (R58, R422): a global line; a 64-bit word of a
scratchpad, of an L1 line, of a home slice's line, of a state page, of a KV page, of a commit buffer's line, or
of a register; a crucible's metadata; or an entry of a TLB or walk cache, which is dropped. -/
inductive Site
  | line (pa : Nat)
  | pad (cell off : Nat)
  | l1 (cell pa : Nat)
  | slice (pa : Nat)
  | page (die page off : Nat)
  | kv (cb page off : Nat)
  | commit (cell : Nat) (hi : Bool) (place off : Nat)
  | reg (cell : Nat) (hi : Bool) (r : RegSpec) (word : Nat)
  /-- the tags and the header of a KV page, in the metadata SRAM of its crucible (R298) -/
  | header (cb page : Nat)
  /-- a table of a crucible (R423) -/
  | table (cb : Nat)
  | tlb (cell place : Nat)
  | ctlb (gclu set place : Nat)
  | wc (die lvl place : Nat)
deriving DecidableEq, Repr

/-- What a turn does: the next instruction of a bank, or a step of another agent, or the next word
of a crucible's mask program, or an error that strikes stored bits, correctable or not (log 75). -/
inductive What
  | issue (cell : Nat) (hi : Bool)
  | ev (i : Instr)
  | mask (cb : Nat)
  | upset (site : Site) (double : Bool)
deriving DecidableEq, Repr

/-- A turn: cycles that pass before it, and what it does (log 3). -/
structure Turn where
  dt : Nat
  what : What
deriving DecidableEq, Repr

/-- The bank whose instruction is issuing. -/
structure Cur where
  cell : Nat := 0
  hi : Bool := false
  /-- how the instruction pairs with its successor: 0 not, 1 requested, 2 together (R28) -/
  pair : Nat := 0
  /-- the crucible whose mask word is executing -/
  cb : Nat := 0
  /-- the instruction is issued by the repetition hardware (R290) -/
  rep : Bool := false
deriving DecidableEq, Repr

/-- The package (R1, R11). -/
structure State where
  /-- GT (R2) -/
  gt : Word := 0
  cur : Cur := {}
  sched : List Turn := []
  /-- the counter of free values (log 7) -/
  fresh : Nat := 0
  serial : Nat := 0
  /-- every byte store: global memory and the host window at their physical addresses, scratchpads,
  hearth pages and KV frames above them (log 2) -/
  mem : List Host.Cell := []
  /-- poisoned 64-bit words, by address div 8 (R59, R422) -/
  poison : List Nat := []
  /-- global lines with a single-bit error, by address div 64 (R58) -/
  weak : List Nat := []
  cells : Map Cell := []
  clusters : Map Cluster := []
  dies : Map Die := []
  crucs : Map Crucible := []
  grids : Map Grid := []
  /-- context entries, 512 bits (R439) -/
  ctx : Map Nat := []
  steps : List GangStep := []
  colls : List Coll := []
  /-- what is on its way between agents, in the order of departure -/
  fly : List Fly := []
  plat : Plat := {}
deriving DecidableEq, Repr

/-- The machine after package reset: every register at the value that the specification states, and
otherwise at the value that log 1 and log 2 name; no grid, no task, nothing under way. -/
def State.reset : State := {}

/-- Why the machine stops. -/
inductive Fault
  /-- An access of the device itself to a physical address outside the map of R56; raised only
  through a context entry or a host area that names one (R61, R441). Safe: nothing is claimed. -/
  | physicalHole
deriving DecidableEq, Repr

/-- Why an instruction has no meaning here. -/
inductive Refusal
  /-- The instruction is not modelled yet: raised by its arm of the dispatch. Safe. -/
  | notModelled (mnemonic : String)
deriving DecidableEq, Repr

end Sys2Proof.Machine
end

