-- ==== Sys2Proof/Machine/Ops.lean ====
section
/-!
DEFINITION. Machine/Ops.lean: the named operations over tables, memory, registers and flights, the
completion of an instruction with its loop tests, taking a trap, aborting a task, and the fault that
ends a grid.
-/

namespace Sys2Proof.Machine

/-! ### Tables -/

/-- The value at a key. -/
def look {α : Type} (m : Map α) (k : Nat) : Option α :=
  match m with
  | [] => none
  | (j, x) :: r => if j = k then some x else look r k

/-- The value at a key, or the reset value of its kind. -/
def lookD {α : Type} (m : Map α) (k : Nat) (d : α) : α := (look m k).getD d

/-- The table with a key's value replaced or added, keys rising. -/
def put {α : Type} (m : Map α) (k : Nat) (x : α) : Map α :=
  match m with
  | [] => [(k, x)]
  | (j, y) :: r => if j = k then (k, x) :: r else if k < j then (k, x) :: (j, y) :: r else (j, y) :: put r k x

/-- The table without a key. -/
def del {α : Type} (m : Map α) (k : Nat) : Map α := m.filter (fun p => p.1 != k)

/-- A counter of a table advanced by `n`, wrapping at 64 bits (R433). -/
def bump (m : Map Nat) (k n : Nat) : Map Nat := put m k ((lookD m k 0 + n) % 2 ^ 64)

/-- A list with its element at a place replaced. -/
def setAt {α : Type} (l : List α) (k : Nat) (x : α) : List α := l.set k x

/-- The least number of `n` numbers from `i` that a test does not hold of. -/
def firstFree (used : Nat → Bool) : Nat → Nat → Option Nat
  | 0, _ => none
  | n + 1, i => if used i then firstFree used n (i + 1) else some i

/-! ### Memory: one canonical list of bytes -/

/-- The byte at a key; one that is not listed reads zero (log 2). -/
def memGet (m : List Host.Cell) (a : Nat) : Byte :=
  match m with
  | [] => 0#8
  | (j, x) :: r => if j = a then x else if a < j then 0#8 else memGet r a

/-- A byte put in front of higher addresses, unless it is what an unlisted address reads as. -/
def memCons (a : Nat) (x : Byte) (m : List Host.Cell) : List Host.Cell :=
  if x = 0#8 then m else (a, x) :: m

/-- The memory with a byte written, canonical form kept. -/
def memSet (m : List Host.Cell) (a : Nat) (x : Byte) : List Host.Cell :=
  match m with
  | [] => memCons a x []
  | (j, y) :: r =>
    if j = a then memCons a x r else if a < j then memCons a x ((j, y) :: r) else (j, y) :: memSet r a x

/-- The canonical form: addresses strictly rising, and no entry equal to what an unlisted address
reads as. -/
def Memory.wf : List Host.Cell → Bool
  | [] => true
  | [(_, x)] => x != 0#8
  | (a, x) :: (b, y) :: r => x != 0#8 && a < b && Memory.wf ((b, y) :: r)

/-- `n` bytes from a key, as a little-endian number (R4). -/
def memRead (m : List Host.Cell) (a n : Nat) : Nat :=
  match n with
  | 0 => 0
  | n + 1 => (memGet m a).toNat + 256 * memRead m (a + 1) n

/-- Bytes written from a key upward. -/
def memPut (m : List Host.Cell) (a : Nat) (bs : List Byte) : List Host.Cell :=
  match bs with
  | [] => m
  | b :: r => memPut (memSet m a b) (a + 1) r

/-- The low `n` bytes of `data` written from a key where the mask has a bit (R86). -/
def memMask (m : List Host.Cell) (a n data mask : Nat) : List Host.Cell :=
  match n with
  | 0 => m
  | n + 1 =>
    memMask (if bit mask 0 then memSet m a (BitVec.ofNat 8 data) else m) (a + 1) n (data / 256) (mask / 2)

/-! ### Places (R11, R56, R95, R100) -/

/-- Die of a package cell index `y·128 + x`. -/
def dieOf (p : Nat) : Nat := p / 128 / 32 * 4 + p % 128 / 32
/-- Cell index within its die. -/
def idxOf (p : Nat) : Nat := 32 * (p / 128 % 32) + p % 128 % 32
/-- Cluster within its die. -/
def cluOf (p : Nat) : Nat := 8 * (p / 128 % 32 / 4) + p % 128 % 32 / 4
/-- Cell-in-cluster number. -/
def cicOf (p : Nat) : Nat := 4 * (p / 128 % 4) + p % 128 % 4
/-- Cluster of the package: 64 for each die. -/
def gcluOf (p : Nat) : Nat := 64 * dieOf p + cluOf p
/-- The package cell index of a cell index of a die. -/
def cellAt (die idx : Nat) : Nat := (32 * (die / 4) + idx / 32 % 32) * 128 + (32 * (die % 4) + idx % 32)
/-- The package cell index of a cell-in-cluster number of a cluster of the package. -/
def cellIn (gclu cic : Nat) : Nat :=
  let c := gclu % 64
  cellAt (gclu / 64) (32 * (4 * (c / 8) + cic / 4 % 4) + (4 * (c % 8) + cic % 4))
/-- The 13-bit cell name of stamps and message ids: die, then cell index (R169, R372). -/
def cellName (p : Nat) : Nat := 1024 * dieOf p + idxOf p

/-- Key of a scratchpad byte. -/
def padKey (cell off : Nat) : Nat := 2 ^ 41 + cell * 2 ^ 18 + off
/-- Key of a byte of a hearth page. -/
def hearthKey (die page off : Nat) : Nat := 2 ^ 43 + die * 2 ^ 40 + page * 2 ^ 15 + off
/-- Key of a byte of a KV page. -/
def kvKey (cb page off : Nat) : Nat := 2 ^ 47 + cb * 2 ^ 40 + page * 2 ^ 14 + off

/-- Whether a physical address is in global memory (R56). -/
def inGlobal (pa : Nat) : Bool := decide (pa < 2 ^ 40)
/-- Whether a physical address is in the host window (R56). -/
def inWindow (pa : Nat) : Bool := decide (2 ^ 40 ≤ pa) && decide (pa < 2 ^ 41)
/-- The die that holds a global address (R57). -/
def homeDie (pa : Nat) : Nat := fld pa 39 37
/-- The home slice of a global address on its die (R57). -/
def homeSlice (pa : Nat) : Nat := Nat.xor (fld pa 17 12) (fld pa 23 18)

/-! ### Parts of the state -/

/-- A cell. -/
def State.cell (s : State) (c : Nat) : Cell := lookD s.cells c {}
/-- A cell replaced. -/
def State.setCell (s : State) (c : Nat) (x : Cell) : State := { s with cells := put s.cells c x }
/-- A cell changed. -/
def State.mapCell (s : State) (c : Nat) (f : Cell → Cell) : State := s.setCell c (f (s.cell c))
/-- A bank of a cell. -/
def Cell.bank (x : Cell) (hi : Bool) : Bank := if hi then x.hi else x.lo
/-- A bank of a cell replaced. -/
def Cell.setBank (x : Cell) (hi : Bool) (b : Bank) : Cell := if hi then { x with hi := b } else { x with lo := b }
/-- A bank. -/
def State.bank (s : State) (c : Nat) (hi : Bool) : Bank := (s.cell c).bank hi
/-- A bank changed. -/
def State.mapBank (s : State) (c : Nat) (hi : Bool) (f : Bank → Bank) : State :=
  s.mapCell c (fun x => x.setBank hi (f (x.bank hi)))
/-- The bank whose instruction is executing. -/
def State.b (s : State) : Bank := s.bank s.cur.cell s.cur.hi
/-- The bank whose instruction is executing, changed. -/
def State.mapB (s : State) (f : Bank → Bank) : State := s.mapBank s.cur.cell s.cur.hi f
/-- The task of a bank changed. -/
def Bank.mapTask (b : Bank) (f : Task → Task) : Bank := { b with task := b.task.map f }
/-- The executing task changed. -/
def State.mapT (s : State) (f : Task → Task) : State := s.mapB (fun b => b.mapTask f)
/-- A cluster of the package. -/
def State.cluster (s : State) (c : Nat) : Cluster := lookD s.clusters c {}
/-- A cluster changed. -/
def State.mapCluster (s : State) (c : Nat) (f : Cluster → Cluster) : State :=
  { s with clusters := put s.clusters c (f (s.cluster c)) }
/-- A forge die. -/
def State.die (s : State) (d : Nat) : Die := lookD s.dies d {}
/-- A forge die changed. -/
def State.mapDie (s : State) (d : Nat) (f : Die → Die) : State := { s with dies := put s.dies d (f (s.die d)) }
/-- A crucible. -/
def State.cruc (s : State) (k : Nat) : Crucible := lookD s.crucs k {}
/-- A crucible changed. -/
def State.mapCruc (s : State) (k : Nat) (f : Crucible → Crucible) : State :=
  { s with crucs := put s.crucs k (f (s.cruc k)) }
/-- A grid changed, when there is one. -/
def State.mapGrid (s : State) (g : Nat) (f : Grid → Grid) : State :=
  match look s.grids g with
  | some x => { s with grids := put s.grids g (f x) }
  | none => s
/-- The platform changed. -/
def State.mapPlat (s : State) (f : Plat → Plat) : State := { s with plat := f s.plat }
/-- Memory changed. -/
def State.mapMem (s : State) (f : List Host.Cell → List Host.Cell) : State := { s with mem := f s.mem }

/-- A counter of a cell advanced (R433). -/
def State.countCell (s : State) (c csr : Nat) : State := s.mapCell c (fun x => { x with csr := bump x.csr csr 1 })
/-- A counter of a grid on a cell advanced: on the cell while it runs the grid, and in the grid's saved context while that
is out; what comes after the grid's end counts nowhere (R433). -/
def State.countFor (s : State) (g c csr : Nat) : State :=
  if (s.cell c).grid = some g then s.countCell c csr
  else s.mapGrid g (fun x => { x with saved := x.saved.map (fun e => if e.cell = c then { e with csr := bump e.csr csr 1 } else e) })
/-- The key of a grid's counter on a die: the counters of a die are counted for each grid (R433). -/
def dieCsr (g csr : Nat) : Nat := g * 2 ^ 16 + csr
/-- A counter of a die advanced for a grid (R433). -/
def State.countDie (s : State) (d g csr : Nat) : State := s.mapDie d (fun x => { x with csr := bump x.csr (dieCsr g csr) 1 })
/-- An atomic-set counter of a grid advanced (R184). -/
def State.countAset (s : State) (g sel n : Nat) : State :=
  s.mapGrid g (fun x => { x with aset := bump x.aset sel n })

/-- A grid's launch record. -/
def State.lr (s : State) (g : Nat) : Nat := ((look s.grids g).map (·.lr)).getD 0

/-! ### Links (R12, R15, R421) -/

/-- The queue of an operation. -/
def CmdOp.queue : CmdOp → QueueId
  | .cpy | .cpym | .cpyr | .cpyg | .cpys => .tongs
  | .acfg | .amma | .azero | .ard => .anvil
  | .atq | .atapp | .atseq _ | .atmsk | .atcnt => .crucible
  | .smpl | .topk | .gmask | .gstep => .gen
  | .cred | .cscan | .cbc | .cgath => .coll

/-- The crucible that a handle names (R295). -/
def hCruc (h : Nat) : Nat := fld h 17 16

/-- The handle or crucible number by which a command finds its crucible (R295, R306, R309, R310, R313,
R314). -/
def Cmd.crucible (k : Cmd) : Nat :=
  match k.op with
  | .atq => hCruc (fld k.arg 223 192)
  | .atapp => hCruc (fld k.arg 255 224)
  | .atseq 0 => fld k.arg 193 192
  | .atseq _ => hCruc (fld k.arg 255 224)
  | .atmsk => fld k.arg 63 62
  | _ => fld k.arg 17 16

/-- The die of a place; a wait there counts in its TRACE_STALL. -/
def Loc.die : Loc → Nat
  | .home pa => homeDie pa
  | .port c _ => dieOf c
  | .hearth sid _ => fld sid 16 14
  | .host _ => 0

/-- Interposer hops between two dies (R18). -/
def dieDist (x y : Nat) : Nat := (x % 4 - y % 4) + (y % 4 - x % 4) + (x / 4 - y / 4) + (y / 4 - x / 4)

/-- Whether a path from die `x` to die `y` uses the bridge between `a` and `b`: certainly when those are its
ends, and as the device routes it when the bridge lies on a shortest path (R18, R421, log 21). -/
def usesBridge (a b x y : Nat) : Bool :=
  (x == a && y == b) || (x == b && y == a) ||
    (x != y && (dieDist x a + 1 + dieDist b y == dieDist x y || dieDist x b + 1 + dieDist a y == dieDist x y) &&
      Config.bridgeUsed a b x y)

/-- The die of a crucible's pair that is nearer to a die (R12, R18). -/
def crucDie (cb x : Nat) : Nat := if dieDist x (2 * cb + 1) < dieDist x (2 * cb) then 2 * cb + 1 else 2 * cb

/-- The die where a place of a lock stands. -/
def placeDie (p : Nat) : Nat := if p < 2 ^ 41 then fld p 39 37 else dieOf ((p - 2 ^ 41) / 2 ^ 18)

/-- The port by which a packet leaves this package for another: dimension order, the shorter way, plus when
both are equally long (R15, R445). -/
def portTo (own dst : List Nat) : Option Nat :=
  ((List.range 4).find? (fun d => own.getD d 0 != dst.getD d 0)).map (fun d =>
    if (dst.getD d 0 + 32 - own.getD d 0) % 32 ≤ 16 then 2 * d + 1 else 2 * d)

/-- The port by which a packet from another package comes in: that of the last dimension in which the two
differ, on the side from which the shorter way comes (R15, R445). -/
def portFrom (own src : List Nat) : Option Nat :=
  ((List.range 4).reverse.find? (fun d => own.getD d 0 != src.getD d 0)).map (fun d =>
    if (own.getD d 0 + 32 - src.getD d 0) % 32 ≤ 16 then 2 * d else 2 * d + 1)

/-- The package's coordinates as a list. -/
def Plat.at_ (p : Plat) : List Nat := match p.coords with | some (a, b, c, d) => [a, b, c, d] | none => [0, 0, 0, 0]

/-- The number of the package at a point of the torus. -/
def pkgAt (x : List Nat) : Nat := x.foldr (fun x n => x + 32 * n) 0
/-- The point of the torus where a package stands. -/
def coordsOf (n : Nat) : List Nat := (List.range 4).map (fun i => n / 32 ^ i % 32)
/-- This package's number among the packages of the torus. -/
def Plat.here (p : Plat) : Nat := pkgAt p.at_

/-- Whether a packet from a package does not come in: its port's link has failed (R421, R445). -/
def Plat.deaf (p : Plat) (src : Nat) : Bool :=
  (portFrom p.at_ (coordsOf src)).any (fun k => p.down.contains (.port k))

/-- Whether a packet from a package does not arrive at a die: its port has failed, or a bridge between the die that
carries that port and the die it goes to (R15, R421, R445). -/
def Plat.lost (p : Plat) (src die : Nat) (cut : Nat → Nat → Bool) : Bool :=
  p.deaf src || (portFrom p.at_ (coordsOf src)).any (fun k => cut k die)

/-- The package to which a transfer goes. -/
def Plat.migTo (p : Plat) (xfer : Nat) : Option (List Nat) :=
  p.sent.findSome? (fun q => match q with | .migreq x m => if m.xfer = xfer then some x else none | _ => none)

/-- The crucible whose link a flight crosses. -/
def Flight.crucLink : Flight → Option Nat
  | .cruc c => some c.crucible
  | .accept c => some c.crucible
  | .token t => if t.cmd.op.queue == .crucible then some t.cmd.crucible else none
  | _ => none

/-- The die to which a flight of a cell of die `x` goes, or from which its answer comes. -/
def State.farDie (s : State) (x : Nat) (f : Flight) : Nat :=
  let home (g : Nat) : Nat := dieOf (fld (s.lr g) 236 231 * 128 + fld (s.lr g) 230 224)
  let at_ (l : Loc) : Nat := match l with | .host _ => x | l => l.die
  match f with
  | .access a => at_ a.loc
  | .fill a => at_ a.loc
  | .reply a _ _ => at_ a.loc
  | .ack a => at_ a.loc
  | .wread w => fld w.table 39 37
  | .dirty _ e => homeDie e.leaf
  | .lock q => placeDie q.place
  | .grant q => placeDie q.place
  | .msg _ q => dieOf (fld q.msg.hdr 95 83)
  | .dep p _ => p.die
  | .event w _ _ => home w.gid
  | .sjoin _ a _ _ => a.loc.die
  | .window _ c _ _ => dieOf (c % 2 ^ 13)
  | .pieceAck _ _ _ d => d
  | .mig _ sid _ _ => fld sid 16 14
  | .tid w _ _ _ => home w.gid
  | .count c _ _ _ _ => dieOf c
  | .cruc c => crucDie c.crucible x
  | .accept c => crucDie c.crucible x
  | .token t => if t.cmd.op.queue == .crucible then crucDie t.cmd.crucible x else x
  | _ => x

/-- The dies to which a flight of a cell of die `x` goes: an invalidation of the whole package goes to every
die. -/
def State.farDies (s : State) (x : Nat) (f : Flight) : List Nat :=
  match f with
  | .tlbi w _ _ _ _ d _ => if w.act = 0 then [] else match d with | some d => [d] | none => List.range 8
  | f => [s.farDie x f]

/-- Whether a failed bridge cuts two dies off from each other (R421). -/
def State.cut (s : State) (x y : Nat) : Bool :=
  s.plat.down.any (fun l => match l with | .bridge a b => usesBridge a b x y | _ => false)

/-- The ports that a transfer uses: the one by which it leaves, and the one by which its answer comes (R15, R403, R445). -/
def Plat.migPorts (p : Plat) (xfer : Nat) : List Nat :=
  match p.migTo xfer with
  | some x => (portTo p.at_ x).toList ++ (portFrom p.at_ x).toList
  | none => []

/-- Whether something on its way crosses a link. A transfer crosses from its stream's die to the die that carries its
port, and its answer from the die that carries the port by which it comes (R15, R403, R421). -/
def State.onLink (s : State) (l : LinkId) (f : Fly) : Bool :=
  let ports : List Nat := match f.f with | .mig _ _ _ x => s.plat.migPorts x | _ => []
  match l with
  | .bridge a b =>
    (s.farDies (dieOf f.cell) f.f).any (fun d => usesBridge a b (dieOf f.cell) d || ports.any (usesBridge a b d))
  | .crucible d => (f.f.crucLink.map (fun cb => crucDie cb (dieOf f.cell))) == some d
  | .port p => ports.contains p

/-! ### What is on its way -/

/-- Something put on its way. -/
def State.send (s : State) (cell : Nat) (f : Flight) : State :=
  { s with fly := s.fly ++ [{ n := s.serial, cell := cell, f := f }], serial := s.serial + 1 }
/-- Something put on its way in place of what it follows from, with its serial number. -/
def State.resend (s : State) (n cell : Nat) (f : Flight) : State :=
  { s with fly := s.fly ++ [{ n := n, cell := cell, f := f }] }
/-- What is on its way at a place of the list; what a failed link has lost arrives nowhere (R421). -/
def State.flight (s : State) (k : Nat) : Option Fly :=
  (s.fly[k]?).filter (fun f => s.plat.down.isEmpty || !s.plat.down.any (fun l => s.onLink l f))
/-- The list without the flight at a place. -/
def State.land (s : State) (k : Nat) : State := { s with fly := s.fly.eraseIdx k }
/-- A number never used before. -/
def State.tick (s : State) : State := { s with serial := s.serial + 1 }

/-! ### The launch record of a grid (R364, R365) -/

/-- The grid's ASID. -/
def asidOf (lr : Nat) : Nat := fld lr 223 208
/-- Whether a package cell index lies in a record's rectangle. -/
def inRect (lr p : Nat) : Bool :=
  let x := p % 128
  let y := p / 128
  let ox := fld lr 230 224
  let oy := fld lr 236 231
  decide (ox ≤ x) && decide (x < ox + 2 ^ fld lr 239 237) && decide (oy ≤ y) && decide (y < oy + 2 ^ fld lr 242 240)
/-- The package cell indices of a record's rectangle in rank order (R365). -/
def rectCells (lr : Nat) : List Nat :=
  (List.range (2 ^ fld lr 242 240)).flatMap (fun dy =>
    (List.range (2 ^ fld lr 239 237)).map (fun dx => (fld lr 236 231 + dy) * 128 + fld lr 230 224 + dx))
/-- The origin cell (R365). -/
def originOf (lr : Nat) : Nat := fld lr 236 231 * 128 + fld lr 230 224
/-- The supervisor cell, when the grid has one (R364). -/
def superOf (lr : Nat) : Option Nat := if bit lr 404 then some (fld lr 417 405) else none
/-- Whether the grid records for replay (R429). -/
def recording (lr : Nat) : Bool := bit lr 420
/-- The bytes of the per-activation frame (R371). -/
def frameBytes (lr : Nat) : Nat := fld lr 438 432 * 1024
/-- The frame top of a bank (R371). -/
def frameTop (lr : Nat) (hi : Bool) : Nat := 0x3FFC0 - (if hi then frameBytes lr else 0)

/-! ### Messages (R372) -/

/-- Stamp of a message. -/
def Msg.age (m : Msg) : Word := BitVec.ofNat 64 (fld m.hdr 255 192)
/-- Id of a message. -/
def Msg.id (m : Msg) : Nat := fld m.hdr 127 96
/-- Destination of a message. -/
def Msg.dest (m : Msg) : Nat := fld m.hdr 95 83
/-- Handler of a message. -/
def Msg.handler (m : Msg) : Nat := fld m.hdr 82 75
/-- Whether a message is for the high bank. -/
def Msg.pri (m : Msg) : Bool := bit m.hdr 66

/-- A message's header. -/
def mkHdr (age gts msgid dest handler len : Nat) (pri : Bool) (sets : Nat) : Nat :=
  sets % 2 ^ 256 * 2 ^ 256 + age % 2 ^ 64 * 2 ^ 192 + gts % 2 ^ 64 * 2 ^ 128 + msgid % 2 ^ 32 * 2 ^ 96 +
    dest % 2 ^ 13 * 2 ^ 83 + handler % 256 * 2 ^ 75 + len % 256 * 2 ^ 67 + (if pri then 2 ^ 66 else 0)

/-- The next message id of a cell, and the state with its sequence advanced (R372). -/
def State.newMsgId (s : State) (c : Nat) : Nat × State :=
  let x := s.cell c
  (cellName c * 2 ^ 19 + x.seq % 2 ^ 19, s.setCell c { x with seq := (x.seq + 1) % 2 ^ 19 })

/-- The next stamp that a cell creates (R169). -/
def State.newAge (s : State) (c : Nat) : Nat × State :=
  let x := s.cell c
  let n := if x.stampGt = s.gt.toNat then x.stampN else 0
  (s.gt.toNat % 2 ^ 48 * 2 ^ 16 + cellName c * 8 + n % 8, s.setCell c { x with stampGt := s.gt.toNat, stampN := n + 1 })

/-- Whether stamp `a` with id `i` is older than `b` with `j` (R169). -/
def older (a : Word) (i : Nat) (b : Word) (j : Nat) : Bool :=
  if a = b then decide (i < j) else decide ((b - a).toNat < 2 ^ 63)

/-! ### Registers (R41, R42) -/

/-- A guard slot read through bank 10 (R288). -/
def guardVal (b : Bank) (n : Nat) : Word :=
  match look b.guards n with
  | none => 0
  | some false => 2
  | some true => 3

/-- A ring handle read through bank 10 (R269). -/
def handleVal (b : Bank) (n : Nat) : Word :=
  match look b.hnd n with
  | none => 0
  | some r => BitVec.ofNat 64 (2 ^ 63 + r.ctl % 2 ^ 28)

/-- A mask register; m0 reads all ones (R237). -/
def maskVal (b : Bank) (n : Nat) : Word := if n = 0 then BitVec.allOnes 64 else lookD b.m n 0

/-- A register of bank 10 (R41). -/
def specialVal (gt : Word) (b : Bank) (n : Nat) : Word :=
  if n < 8 then maskVal b n
  else if n = 8 then b.lk
  else if n = 9 then b.pc
  else if n = 10 then b.st
  else if n = 11 then b.age
  else if n = 12 then b.msg
  else if n = 13 then gt
  else if n = 16 then b.lc0
  else if n = 17 then b.lc1
  else if n = 18 then b.ls0
  else if n = 19 then b.ls1
  else if n = 20 then b.le0
  else if n = 21 then b.le1
  else if 32 ≤ n ∧ n < 48 then handleVal b (n - 32)
  else if 48 ≤ n ∧ n < 63 then guardVal b (n - 48)
  else 0

/-- The bank bits of a specifier. -/
def rbank (r : RegSpec) : Nat := r.toNat / 64
/-- The index of a specifier. -/
def ridx (r : RegSpec) : Nat := r.toNat % 64

/-- A 64-bit source: scalar, special register or small immediate (R41). -/
def readReg (gt : Word) (b : Bank) (r : RegSpec) : Word :=
  if rbank r = 0 then (if ridx r = 0 then 0 else lookD b.s (ridx r) 0)
  else if rbank r = 2 then specialVal gt b (ridx r)
  else if rbank r = 3 then BitVec.ofNat 64 (ridx r)
  else 0

/-- A source of the executing instruction. -/
def State.rd (s : State) (r : RegSpec) : Word := readReg s.gt s.b r

/-- A vector register; the unassigned indices read zero (R42). -/
def readVec (b : Bank) (r : RegSpec) : Vec := if ridx r < 32 then lookD b.v (ridx r) 0 else 0

/-- st with bits [5:0] replaced (R195). -/
def stWrite (st v : Word) : Word := (st &&& ~~~(0x3F#64)) ||| (v &&& 0x3F#64)

/-- A write through a specifier: s0, m0, read-only and unassigned ones ignore it (R41, R42). A write
of a register clears its poison mark, and it is a token register no more (R145, R422). -/
def writeReg (b : Bank) (r : RegSpec) (v : Word) : Bank :=
  let b := { b with poison := b.poison.filter (· != r), tokens := del b.tokens r.toNat }
  if rbank r = 0 then (if ridx r = 0 then b else { b with s := put b.s (ridx r) v })
  else if rbank r = 2 then
    if ridx r = 0 then b
    else if ridx r < 8 then { b with m := put b.m (ridx r) v }
    else if ridx r = 8 then { b with lk := v }
    else if ridx r = 10 then { b with st := stWrite b.st v }
    else b
  else b

/-- A write of a vector register; unassigned indices ignore it (R42). It clears the register's poison marks
(R422). -/
def writeVec (b : Bank) (r : RegSpec) (v : Vec) : Bank :=
  if ridx r < 32 then { b with v := put b.v (ridx r) v, vbad := del b.vbad (ridx r) } else b

/-- A write of `w` bits of a vector register at element `i`; it clears the poison mark of a word that it covers
whole (R422). -/
def writeLane (b : Bank) (r : RegSpec) (i w d : Nat) : Bank :=
  if ridx r < 32 then
    let m := lookD b.vbad (ridx r) 0
    let left := if w = 64 then m - (if bit m i then 2 ^ i else 0) else m
    { b with
      v := put b.v (ridx r) (BitVec.ofNat 512 (setFld (readVec b r).toNat (w * i + w - 1) (w * i) d))
      vbad := if left = 0 then del b.vbad (ridx r) else put b.vbad (ridx r) left }
  else b

/-- Registers written whole by other means: their poison marks gone (R422). -/
def Bank.fresh (b : Bank) (rs : List RegSpec) : Bank := { b with poison := b.poison.filter (fun r => !rs.contains r) }

/-- A register of the executing bank written. -/
def State.wr (s : State) (r : RegSpec) (v : Word) : State := s.mapB (fun b => writeReg b r v)
/-- A vector register of the executing bank written. -/
def State.wrV (s : State) (r : RegSpec) (v : Vec) : State := s.mapB (fun b => writeVec b r v)

/-- A register marked pending, unless it discards its writes (R189, R124). -/
def addPend (b : Bank) (r : RegSpec) : Bank := if r = 0#8 then b else { b with pend := r :: b.pend }
/-- A register no longer pending. -/
def dropPend (b : Bank) (r : RegSpec) : Bank := { b with pend := b.pend.erase r }

/-! ### Completion of an instruction: sequential flow, loops, transfers (R22, R23, R353, R360) -/

/-- The line address of a program counter. -/
def lineOf (pc : Nat) : Nat := pc / 64 * 64
/-- The slot of a program counter. -/
def slotOf (pc : Nat) : Nat := pc % 8

/-- The sequential successor (R23). -/
def nextSeq (pc : Nat) : Nat :=
  if slotOf pc < 4 then lineOf pc + slotOf pc + 1 else (lineOf pc + 64) % 2 ^ 64

/-- Whether loop `k` is armed (R357). -/
def armed (b : Bank) (k : Bool) : Bool := bit (if k then b.lc1 else b.lc0).toNat 63
/-- COUNT of loop `k`. -/
def loopCount (b : Bank) (k : Bool) : Nat := fld (if k then b.lc1 else b.lc0).toNat 31 0
/-- START of loop `k`. -/
def loopStart (b : Bank) (k : Bool) : Word := if k then b.ls1 else b.ls0
/-- END of loop `k`. -/
def loopEnd (b : Bank) (k : Bool) : Word := if k then b.le1 else b.le0
/-- lc of loop `k` written. -/
def setLc (b : Bank) (k : Bool) (on : Bool) (n : Nat) : Bank :=
  let v : Word := BitVec.ofNat 64 ((if on then 2 ^ 63 else 0) + n % 2 ^ 32)
  if k then { b with lc1 := v } else { b with lc0 := v }

/-- A transfer to `t` from the instruction at `src`: the line is fetched anew, by which the checks of R354 are
made. -/
def enter (b : Bank) (t src : Nat) : Bank :=
  { b with pc := BitVec.ofNat 64 t, line := none, entered := some src, second := false, joint := false, past := none, fell := false }

/-- `loop_test(k)` of R360: the bank after it, and the start returned to. -/
def loopTest (b : Bank) (k : Bool) : Bank × Option Nat :=
  let n := (loopCount b k + (2 ^ 32 - 1)) % 2 ^ 32
  if n = 0 then (setLc b k false 0, none) else (setLc b k true n, some (loopStart b k).toNat)

/-- The loop tests on completion at `a`, inner first (R360). -/
def loopTests (b : Bank) (a : Word) : Bank × Option Nat :=
  let r := if armed b true && a == loopEnd b true then loopTest b true else (b, none)
  match r.2 with
  | some t => (r.1, some t)
  | none => if armed r.1 false && a == loopEnd r.1 false then loopTest r.1 false else (r.1, none)

/-- Whether the line a bank holds has END set and is the line of `pc`. -/
def endsAt (b : Bank) (pc : Nat) : Bool :=
  match b.line with
  | some l => decide (l.addr = lineOf pc) && bit l.data (480 + 17)
  | none => false

/-- Sequential flow from `a` (R23), with the marks of the pair that the instruction began (R28). -/
def stepSeq (b : Bank) (a pair : Nat) : Bank :=
  { b with pc := BitVec.ofNat 64 (nextSeq a), entered := none, fell := slotOf a == 4 && endsAt b a,
           second := pair != 0, joint := pair == 2 }

/-- The marks of the instruction at pc cleared, for its successor. -/
def clearMarks (t : Task) : Task := { t with rel := none, xwait := none, xfault := none, xheld := [], until_ := none }

/-- The bank after the instruction at its pc has completed without a transfer (R360). -/
def retireB (b : Bank) (pair : Nat) : Bank :=
  let r := loopTests b b.pc
  (match r.2 with
   | some t => enter r.1 t b.pc.toNat
   | none => stepSeq r.1 b.pc.toNat pair).mapTask clearMarks

/-- The state after the executing instruction has completed without a transfer. -/
def State.retire (s : State) : State :=
  (if s.cur.pair = 1 then s.countCell s.cur.cell 1 else s).mapB (fun b => retireB b s.cur.pair)

/-- `disarm_outside(t)` of R360. -/
def disarmOutside (b : Bank) (t : Nat) : Bank :=
  let out (b : Bank) (k : Bool) : Bool :=
    armed b k && !(decide ((loopStart b k).toNat ≤ t) && decide (t ≤ (loopEnd b k).toNat))
  let b1 := if out b false then setLc b false false (loopCount b false) else b
  if out b1 true then setLc b1 true false (loopCount b1 true) else b1

/-- The state after a taken branch or jump to `t` (R353). One that is the first of a requested pair leaves the
pair, which then counts in no UNPAIRED: in R28 the count stands after the issue of both (log 66). -/
def State.jump (s : State) (t : Nat) : State :=
  s.mapB (fun b => (enter (disarmOutside b t) t b.pc.toNat).mapTask clearMarks)

/-- The executing instruction completes with a value for a register, 1-cycle latency. -/
def State.finish (s : State) (r : RegSpec) (v : Word) : State := (s.wr r v).retire

/-! ### Recording (R99, R429) -/

/-- FNV-1a over bytes, from the low byte up (R99). -/
def fnv (n data h : Nat) : Nat :=
  match n with
  | 0 => h
  | n + 1 => fnv n (data / 256) (Nat.xor h (data % 256) * 0x01000193 % 2 ^ 32)

/-- The place a grid's context entry gives to its recording: base and bytes (R439). -/
def recArea (ctx : Map Nat) (asid : Nat) : Nat × Nat :=
  let e := lookD ctx asid 0
  (fld e 511 460 * 4096, fld e 459 440 * 4096)

/-- The fault that ends a grid, unless one has; with STATUS LINK something of it is lost, whatever ended it before (R420,
R421). -/
def State.endGrid (s : State) (g : Nat) (e : EndInfo) : State :=
  s.mapGrid g (fun x => { x with ending := x.ending.orElse (fun _ => some e), cut := x.cut || e.status == 0x11 })

/-- A 32-byte record appended to a grid's recording area; a full area ends the grid, at the cell whose event
it records. The area may lie in the host window; the part of it that lies past the map of R56 holds no record (R56, R409,
R429, log 73). -/
def State.record (s : State) (g cell rec_ : Nat) : State :=
  match look s.grids g with
  | none => s
  | some x =>
    if !recording x.lr then s
    else
      let a := recArea s.ctx (asidOf x.lr)
      if a.2 < x.recPos + 32 || 2 ^ 41 < a.1 + x.recPos + 32 then s.endGrid g { status := 0x10, cause := 0x74, detail := cell }
      else
        (s.mapMem (fun m => memPut m (a.1 + x.recPos) (bytesOf 32 rec_))).mapGrid g
          (fun x => { x with recPos := x.recPos + 32 })

/-- The content of a record of a kind 16 to 25: its place, then the rest (log 14). -/
def recContent (place rest : Nat) : Nat := place % 2 ^ 64 * 2 ^ 64 + rest % 2 ^ 64

/-- An occurrence met by the recording of a grid that replays, by a test of records; one that the recording does not
hold ends the grid with REPLAY.DIV (R430, log 14). -/
def State.replayMeet (s : State) (g : Nat) (p : Nat × Nat × Nat → Bool) : State :=
  match (look s.grids g).bind (fun x => x.replay.map (fun l => (x.met, l))) with
  | none => s
  | some (n, l) =>
    match l.find? p with
    | some r => s.mapGrid g (fun x => { x with replay := some (l.erase r), met := n + 1, metAt := s.gt.toNat })
    | none => s.endGrid g { status := 0x10, cause := 0x71, detail := n, fdetail := n }

/-- A record of a kind 16 to 25, of an event at a cell (R429); a replaying grid has then met it (R430). -/
def State.recordKind (s : State) (g cell kind place rest : Nat) : State :=
  (s.record g cell (s.gt.toNat * 2 ^ 192 + recContent place rest * 2 ^ 64 + kind * 2 ^ 56)).replayMeet g
    (fun r => r.2 == (kind, recContent place rest))

/-- The first recorded occurrence that a test of its kind and content names, still to be replayed (R430). -/
def State.replayFirst (s : State) (g : Nat) (p : Nat → Nat → Bool) : Option (Nat × Nat) :=
  (((look s.grids g).bind (fun x => if x.ending.isNone then x.replay else none)).bind (fun l =>
    l.find? (fun r => p r.2.1 r.2.2))).map (·.2)

/-- The first recorded occurrence of a kind at a place still to be replayed (R430). -/
def State.replayNext (s : State) (g kind place : Nat) : Option (Nat × Nat) :=
  s.replayFirst g (fun k c => k == kind && c / 2 ^ 64 == place % 2 ^ 64)

/-- Whether an occurrence of a grid that replays is held: another of its place comes first (R430). -/
def State.replayHolds (s : State) (g kind place rest : Nat) : Bool :=
  match s.replayNext g kind place with
  | none => false
  | some r => r.2 != recContent place rest

/-! ### Traps and faults (R409 to R414) -/

/-- The code of a cause (R409). -/
def Cause.code : Cause → Nat
  | .undef => 0x01
  | .brk => 0x02
  | .trap => 0x03
  | .fetchPar => 0x10
  | .btm => 0x11
  | .falloff => 0x12
  | .loopRange => 0x13
  | .loopNest => 0x14
  | .repClass => 0x15
  | .repRange => 0x16
  | .xltCanon => 0x20
  | .xltInvalid => 0x21
  | .xltRsvd => 0x22
  | .xltPhys => 0x23
  | .xltPerm => 0x24
  | .memUe => 0x30
  | .memAlign => 0x31
  | .addrRange => 0x32
  | .addrGrid => 0x33
  | .stateDead => 0x34
  | .ovlFrozen => 0x35
  | .ovlNopage => 0x36
  | .arithNv => 0x40
  | .arithDz => 0x41
  | .arithOf => 0x42
  | .arithUf => 0x43
  | .arithNx => 0x44
  | .wdog => 0x50
  | .asetWait => 0x51
  | .asetIrrev => 0x52
  | .asetOvf => 0x53
  | .anvMismatch => 0x60
  | .maskIll => 0x61
  | .collMismatch => 0x62
  | .genNolegal => 0x63
  | .hwUe => 0x70
  | .replayDiv => 0x71
  | .trapNest => 0x72
  | .holdFull => 0x73
  | .recFull => 0x74
  | .soft c => c.toNat

/-- The halting causes (R409). -/
def Cause.halting : Cause → Bool
  | .undef | .brk | .trap => true
  | _ => false

/-- The task word of R412. -/
def taskWord (c : Nat) (hi : Bool) (msgid : Nat) : Nat := msgid * 2 ^ 32 + (if hi then 2 ^ 13 else 0) + c

/-- The report's payload (R412). -/
def report (gt : Word) (c : Nat) (hi : Bool) (k : Task) (t : Trap) : Nat :=
  gt.toNat * 2 ^ 960 + k.msg.age.toNat * 2 ^ 896 + t.addr % 2 ^ 64 * 2 ^ 832 + t.pc % 2 ^ 64 * 2 ^ 768 +
    t.spc % 2 ^ 64 * 2 ^ 704 + t.insn % 2 ^ 96 * 2 ^ 576 + t.detail % 2 ^ 64 * 2 ^ 512 +
    taskWord c hi k.msg.id * 2 ^ 448 + k.msg.handler * 2 ^ 440 + t.cause.code % 2 ^ 16 * 2 ^ 416 +
    (if t.cause.halting then 0 else 2 ^ 415)

/-- A party's claims taken out of a lock table: waiting ones withdrawn (R171). -/
def withdraw (act : Nat) (l : List Lock) : List Lock :=
  (l.map (fun e => { e with waiters := e.waiters.filter (fun p => p.act != act) })).filter
    (fun e => e.holder.isSome || !e.waiters.isEmpty)

/-- A flight of an activation that its abort withdraws: a set request not yet at its lock entry, or a
grant (R171). -/
def lockOf (act : Nat) : Flight → Bool
  | .lock q => q.who.act == act && !q.release
  | .grant q => q.who.act == act
  | _ => false

/-- The releases of the sets a task holds or has asked for, sent to their lock entries (R168, R171). -/
def State.releaseSets (s : State) (c : Nat) (hi : Bool) (k : Task) : State :=
  k.slots.foldl (fun s (n, e) =>
    if e.held || e.asked then
      s.send c (.lock { asid := asidOf (s.lr k.gid), dsp := e.dsp, base := e.base, sz := e.sz, place := e.place.getD 0,
                        who := { cell := c, hi := hi, act := k.act, age := k.msg.age, msgid := k.msg.id, gid := k.gid, slot := n },
                        release := true })
    else s) s

/-- Every request an activation waits on is withdrawn (R171 step 3). -/
def State.withdrawAll (s : State) (act : Nat) : State :=
  { s with
    fly := s.fly.filter (fun f => !lockOf act f.f)
    dies := s.dies.map (fun (n, d) => (n, { d with locks := d.locks.map (fun (j, l) => (j, withdraw act l)) }))
    cells := s.cells.map (fun (n, x) => (n, { x with locks := withdraw act x.locks })) }

/-- The bank without its task, as an abort leaves it: everything of the activation is lost (R171,
R410). -/
def clearBank (b : Bank) : Bank :=
  { b with commit := [], pend := [], tokens := [], rep := none, task := none, line := none, refetch := false,
           entered := none, second := false, joint := false, past := none, fell := false }

/-- Cycles that the budget leaves out begin, unless they have (R381). -/
def Task.exclude (k : Task) (gt : Nat) : Task := { k with exclFrom := k.exclFrom.orElse (fun _ => some gt) }

/-- Cycles that the budget leaves out end, when the task waits neither for a set nor for room in the
dependence table, and is neither halted nor suspended (R381). -/
def Task.include (k : Task) (gt : Nat) (susp : Bool) : Task :=
  if susp || k.halted.isSome || k.waitFrom.isSome || k.depWait then k
  else { k with excl := k.excl + (match k.exclFrom with | some g => gt - g | none => 0), exclFrom := none }

/-- A bank's task counted again, when nothing leaves it out. -/
def State.includeTask (s : State) (c : Nat) (hi : Bool) : State :=
  s.mapBank c hi (fun b => b.mapTask (fun k => k.include s.gt.toNat (!hi && (s.bank c true).task.isSome)))

/-- A queued command of an activation that ends: its guard slot says once for all whether it runs, and one
that the slot leaves unresolved is discarded as though it were false (R287, log 13). -/
def Cmd.settle (k : Cmd) (act : Nat) (b : Bank) : Cmd :=
  if k.act ≠ act ∨ k.guard = 15 then k
  else if look b.guards k.guard = some true then { k with guard := 15 } else { k with void := true }

/-- The queued commands of the activation of a bank settled. -/
def Cell.settle (x : Cell) (act : Nat) (b : Bank) : Cell :=
  let f (l : List Cmd) : List Cmd := l.map (fun k => k.settle act b)
  { x with tongs := f x.tongs, anvil := f x.anvil, cruc := f x.cruc, coll := f x.coll }

/-- A bank without its task; the low bank's task resumes when the high bank falls idle (R192). -/
def State.freeBank (s : State) (c : Nat) (hi : Bool) : State :=
  let act := ((s.bank c hi).task.map (·.act)).getD 0
  ((s.mapCell c (fun x => x.settle act (x.bank hi))).mapBank c hi clearBank).includeTask c false

/-- R171 steps 1 to 4: buffers discarded, sets released, requests withdrawn; commands run on and
their tokens find another activation. The cycles of a wait that the abort ends are counted (R173). -/
def State.abortTask (s : State) (c : Nat) (hi : Bool) (cause : Nat) : State :=
  match (s.bank c hi).task with
  | none => s
  | some k =>
    let s := s.recordKind k.gid c 25 k.msg.id cause
    let s := match k.waitFrom with | some f => s.countAset k.gid 9 (s.gt.toNat - f) | none => s
    let s := (s.releaseSets c hi k).withdrawAll k.act
    s.freeBank c hi

/-- How a task would start again, and whether that counts as a re-run (R171, R184, R415). -/
def Task.again (k : Task) (hi rerun : Bool) : Ready :=
  { hi := hi, msg := k.msg, pass := 0, dep := k.dep, batch := k.batch, bufs := k.bufs, sc := k.sc, rerun := rerun }

/-- Whether the report of a trap cannot be formed: a fetch fault or poison, and one of the registers from which
the device makes the report, pc, age and msg, is itself poisoned (R413, log 76). -/
def Trap.unformed (t : Trap) (b : Bank) : Bool :=
  (t.cause == .fetchPar || t.cause == .memUe) && [0x89#8, 0x8B#8, 0x8C#8].any b.poison.contains

/-- Whether a task's commit is on its way out: from the start of its drain to the release of its sets it is not aborted
(R168, R178, R179). -/
def Task.committing (k : Task) : Bool := k.ending == .draining || k.ending == .drained

/-- A trap of a task: reported to the supervisor, or turned into a fault; one that comes while a holder's commit goes
out waits until its sets are released (R168, R411, R413, R414). -/
def State.takeTrap (s : State) (c : Nat) (hi : Bool) (t : Trap) : State :=
  match (s.bank c hi).task with
  | none => s
  | some k =>
    if k.committing then s.mapBank c hi (fun b => b.mapTask (fun k => { k with pendTrap := k.pendTrap.orElse (fun _ => some t) }))
    else
    let lr := s.lr k.gid
    let fault (code fdetail : Nat) : State :=
      s.endGrid k.gid { status := 0x10, cause := code, fpc := t.pc, detail := c, fdetail := fdetail }
    match superOf lr with
    | none => fault t.cause.code t.detail
    | some sup =>
      if sup = c ∧ hi then fault Cause.trapNest.code t.cause.code
      else if t.unformed (s.bank c hi) then fault t.cause.code t.detail
      else if !t.cause.halting && decide (8 ≤ (s.cell c).hold.length) then fault Cause.holdFull.code t.cause.code
      else
        let r := s.newMsgId c
        let m : Msg := { hdr := mkHdr k.msg.age.toNat s.gt.toNat r.1 sup 1 128 true 0,
                         pay := bytesOf 128 (report s.gt c hi k t) }
        let s := r.2.send c (.msg k.gid { msg := m })
        if t.cause.halting then
          s.mapBank c hi (fun b => b.mapTask (fun k => { k with halted := some t }.exclude s.gt.toNat))
        else
          (s.abortTask c hi t.cause.code).mapCell c (fun x => { x with hold := x.hold ++ [{ r := k.again hi (k.slots.any (fun e => e.2.held)), trap := t }] })

/-- The 96 bits of the instruction at a program counter, when the bank's line holds it. -/
def insnAt (b : Bank) (pc : Nat) : Nat :=
  match b.line with
  | some l => if l.addr = lineOf pc ∧ slotOf pc < 5 then l.data / 2 ^ (96 * slotOf pc) % 2 ^ 96 else 0
  | none => 0

/-- The executing instruction raises a trap (R409). -/
def State.trap (s : State) (cause : Cause) (addr detail : Nat) : State :=
  s.takeTrap s.cur.cell s.cur.hi
    { cause := cause, pc := s.b.pc.toNat, addr := addr, detail := detail, insn := insnAt s.b s.b.pc.toNat }

/-- The counterpart of a halting trap: the task issues again at its pc, its halted cycles excluded
(R417, R381). -/
def State.unhalt (s : State) (c : Nat) (hi : Bool) : State :=
  (s.mapBank c hi (fun b => b.mapTask (fun k => { clearMarks k with halted := none }))).includeTask c hi

/-! ### Outcomes -/

/-- Every meaning answers a next state. -/
abbrev Out := Host.Outcome State Fault Refusal

end Sys2Proof.Machine
end

