-- ==== Sys2Proof/Machine/Budget.lean ====
section
/-!
DEFINITION. Machine/Budget.lean: the slot budgets of a grid on a die in a period of 1,024 cycles (16 R383).
-/

namespace Sys2Proof.Machine

/-- The kinds of R383. -/
inductive Slot
  | hbm | hs | flit | cq | tongs
deriving DecidableEq, Repr

/-- The place of a kind among the budget fields of a launch record (R364). -/
def Slot.idx : Slot → Nat
  | .hbm => 0
  | .hs => 1
  | .flit => 2
  | .cq => 3
  | .tongs => 4

/-- The capacity of a die in a period (R383). -/
def Slot.cap : Slot → Nat
  | .hbm => 93056
  | .hs => 65536
  | .flit => 16384
  | .cq => 256
  | .tongs => 4194304

/-- What a launch record reserves of a kind (R364). -/
def reserved (lr : Nat) (k : Slot) : Nat := fld lr (791 + 24 * k.idx) (768 + 24 * k.idx)

/-- The dies that a record's rectangle touches. -/
def diesOf (lr : Nat) : List Nat :=
  let ox := fld lr 230 224
  let oy := fld lr 236 231
  (List.range 8).filter (fun d =>
    decide (ox < 32 * (d % 4) + 32) && decide (32 * (d % 4) < ox + 2 ^ fld lr 239 237) &&
      decide (oy < 32 * (d / 4) + 32) && decide (32 * (d / 4) < oy + 2 ^ fld lr 242 240))

/-- The launch records of the grids resident on a die. -/
def State.resident (s : State) (d : Nat) : List (Nat × Nat) :=
  (s.grids.filter (fun g => g.2.resid != .saved && (diesOf g.2.lr).contains d)).map (fun g => (g.1, g.2.lr))

/-- The launch records of the resident grids: their budgets apply on every die (R383). -/
def State.inside (s : State) : List (Nat × Nat) :=
  (s.grids.filter (fun g => g.2.resid != .saved)).map (fun g => (g.1, g.2.lr))

/-- The slots spent on a die in the present period. -/
def State.spentOf (s : State) (d : Nat) : Map (Map Nat) :=
  if (s.die d).period = s.gt.toNat / 1024 then (s.die d).spent else []

/-- A slot of a kind taken by a grid on a die; none while its slots are spent (R383). A grid with a
field of 0 uses only what no resident grid reserves. -/
def State.slot (s : State) (g d : Nat) (k : Slot) : Option State :=
  match look s.grids g with
  | none => some s
  | some x =>
    let sp := s.spentOf d
    let of (h : Nat) : Nat := lookD (lookD sp h []) k.idx 0
    let mine := reserved x.lr k
    let here := s.inside
    let ok :=
      if mine ≠ 0 then decide (of g < mine)
      else
        let free := k.cap - (here.map (fun h => reserved h.2 k)).foldl (· + ·) 0
        decide ((here.filter (fun h => reserved h.2 k == 0)).foldl (fun n h => n + of h.1) 0 < free)
    if ok then
      some (s.mapDie d (fun y => { y with
        period := s.gt.toNat / 1024, spent := put sp g (put (lookD sp g []) k.idx (of g + 1)) }))
    else none

/-- The flits of what a grid sends from one die to another; none while its flits of the sending die are spent (R383,
log 92). -/
def State.flits (s : State) (g from_ to_ : Nat) : Nat → Option State
  | 0 => some s
  | n + 1 => if from_ = to_ then some s else (s.slot g from_ .flit).bind (fun t => t.flits g from_ to_ n)

/-- As many of `n` flits of a die as a grid has left there, and how many are still to be had (R383). -/
def State.flitsUp (s : State) (g d : Nat) : Nat → State × Nat
  | 0 => (s, 0)
  | n + 1 => match s.slot g d .flit with | some t => t.flitsUp g d n | none => (s, n + 1)

/-- The flits of a request from one die to another and of its answer (R383, log 92). -/
def State.roundTrip (s : State) (g from_ to_ : Nat) : Option State :=
  (s.flits g from_ to_ 1).bind (fun t => t.flits g to_ from_ 1)

/-- BUDGET_PERIOD: at a new period the slots spent in the last are forgotten (R383). -/
def execBudgetPeriod (s : State) : Out :=
  .next { s with dies := s.dies.map (fun (d, x) =>
    (d, if x.period = s.gt.toNat / 1024 then x else { x with period := s.gt.toNat / 1024, spent := [] })) }

end Sys2Proof.Machine
end

