-- ==== Sys2Proof/Machine/Num.lean ====
section
/-!
DEFINITION. Machine/Num.lean: the six floating-point formats, exact values, the one rounding of
09 R221, the special cases of R222 and the flags of 08 R209. Every operation forms its exact value
and is rounded once.
-/

namespace Sys2Proof.Machine

/-- A format of R217: fraction bits, exponent bits, bias, and whether it is E4M3. -/
structure Fmt where
  p : Nat
  ew : Nat
  bias : Nat
  e4m3 : Bool
deriving DecidableEq, Repr

/-- FP32. -/
def fmt32 : Fmt := { p := 23, ew := 8, bias := 127, e4m3 := false }
/-- FP64. -/
def fmt64 : Fmt := { p := 52, ew := 11, bias := 1023, e4m3 := false }
/-- BF16. -/
def fmtBf16 : Fmt := { p := 7, ew := 8, bias := 127, e4m3 := false }
/-- E4M3. -/
def fmtE4m3 : Fmt := { p := 3, ew := 4, bias := 7, e4m3 := true }

/-- The format of a type code (R217, R38); the integer codes have none and answer FP32. -/
def Ty.fmt : Ty → Fmt
  | .f64 => fmt64
  | .f16 => { p := 10, ew := 5, bias := 15, e4m3 := false }
  | .bf16 => fmtBf16
  | .e4m3 => fmtE4m3
  | .e5m2 => { p := 2, ew := 5, bias := 15, e4m3 := false }
  | _ => fmt32

/-- The width in bits of a type code (R38). -/
def Ty.width : Ty → Nat
  | .i64 | .f64 | .n64 => 64
  | .i32 | .n32 | .f32 => 32
  | .i16 | .n16 | .f16 | .bf16 => 16
  | .i8 | .n8 | .e4m3 | .e5m2 => 8

/-- The type codes that are read as signed integers (R38, R200). -/
def Ty.signed : Ty → Bool
  | .i64 | .i32 | .i16 | .i8 => true
  | _ => false

/-- The type of a raw code, 0 to 13 (R38). -/
def Ty.ofNat? (n : Nat) : Option Ty :=
  [Ty.i64, .i32, .n32, .i16, .n16, .i8, .n8, .f64, .f32, .f16, .bf16, .e4m3, .e5m2, .n64][n]?

/-- The width of a value of the format. -/
def Fmt.width (F : Fmt) : Nat := 1 + F.ew + F.p

/-- A value on its way to a rounding. `fin neg m e st` stands for `±m·2^e`, or, when `st` is set, for
a value strictly between `m·2^e` and `(m+1)·2^e` in magnitude. -/
inductive Num
  | nan
  | inf (neg : Bool)
  | fin (neg : Bool) (m : Nat) (e : Int) (st : Bool)
deriving DecidableEq, Repr

/-- Zero of a sign. -/
def Num.zero (neg : Bool) : Num := .fin neg 0 0 false

/-- An exact integer. -/
def Num.ofInt (x : Int) : Num := .fin (x < 0) x.natAbs 0 false

/-- The sign, by which a NaN has none. -/
def Num.neg : Num → Bool
  | .nan => false
  | .inf n => n
  | .fin n _ _ _ => n

/-- Whether it is a NaN. -/
def Num.isNan : Num → Bool
  | .nan => true
  | _ => false

/-- Whether it is an infinity. -/
def Num.isInf : Num → Bool
  | .inf _ => true
  | _ => false

/-- Whether it is a zero. -/
def Num.isZero : Num → Bool
  | .fin _ 0 _ false => true
  | _ => false

/-- The value with its sign reversed. -/
def Num.negate : Num → Num
  | .nan => .nan
  | .inf n => .inf (!n)
  | .fin n m e st => .fin (!n) m e st

/-- `decode(bits, F)` of R218. -/
def decodeF (F : Fmt) (bits : Nat) : Num :=
  let m := bits % 2 ^ F.p
  let e := bits / 2 ^ F.p % 2 ^ F.ew
  let s := bit bits (F.p + F.ew)
  let ones := 2 ^ F.ew - 1
  if F.e4m3 && e == 15 && m == 7 then .nan
  else if !F.e4m3 && e == ones then (if m == 0 then .inf s else .nan)
  else if e == 0 then .fin s m (1 - (F.bias : Int) - F.p) false
  else .fin s (2 ^ F.p + m) ((e : Int) - F.bias - F.p) false

/-- The canonical NaN of a format (R217). -/
def qnan (F : Fmt) : Nat :=
  if F.e4m3 then 0x7F else (2 ^ F.ew - 1) * 2 ^ F.p + 2 ^ (F.p - 1)

/-- The pattern of an infinity; E4M3 has none and gives its NaN (R222). -/
def infBits (F : Fmt) (neg : Bool) : Nat :=
  if F.e4m3 then 0x7F
  else (if neg then 2 ^ (F.p + F.ew) else 0) + (2 ^ F.ew - 1) * 2 ^ F.p

/-- The largest finite magnitude's pattern (R217). -/
def maxBits (F : Fmt) (neg : Bool) : Nat :=
  (if neg then 2 ^ (F.p + F.ew) else 0) +
    (if F.e4m3 then 0x7E else (2 ^ F.ew - 2) * 2 ^ F.p + (2 ^ F.p - 1))

/-- The pattern of a signed zero. -/
def zeroBits (F : Fmt) (neg : Bool) : Nat := if neg then 2 ^ (F.p + F.ew) else 0

/-- A delivered result and the flags of R209 that it raises. -/
structure Fl where
  bits : Nat
  nv : Bool := false
  dz : Bool := false
  of : Bool := false
  uf : Bool := false
  nx : Bool := false
deriving DecidableEq, Repr

/-- Whether a discarded part makes the magnitude go up: `rem` of `2^sh`, with `st` a further
remainder (R221). -/
def roundsUp (md : Rnd) (neg odd : Bool) (rem sh : Nat) (st : Bool) : Bool :=
  let inexact := rem != 0 || st
  match md with
  | .rz => false
  | .rd => neg && inexact
  | .ru => !neg && inexact
  | .rne =>
    let h := 2 ^ sh
    if h < 2 * rem then true
    else if 2 * rem == h then st || odd
    else false

/-- `m·2^e` as a multiple of `2^qe`, rounded in a mode: the quotient and whether it is exact (R221). -/
def quantize (md : Rnd) (neg : Bool) (m : Nat) (e : Int) (st : Bool) (qe : Int) : Nat × Bool :=
  if qe ≤ e then (m * 2 ^ (e - qe).toNat, !st)
  else
    let sh := (qe - e).toNat
    let q := m / 2 ^ sh
    let r := m % 2 ^ sh
    (q + (if roundsUp md neg (q % 2 == 1) r sh st then 1 else 0), r == 0 && !st)

/-- The pattern of the finite value `y·2^qe`, which fits the format. -/
def packF (F : Fmt) (neg : Bool) (y : Nat) (qe : Int) : Nat :=
  let s := if neg then 2 ^ (F.p + F.ew) else 0
  if y < 2 ^ F.p then s + y
  else
    let y' := if y == 2 ^ (F.p + 1) then 2 ^ F.p else y
    let qe' := if y == 2 ^ (F.p + 1) then qe + 1 else qe
    s + (qe' + F.p + F.bias).toNat * 2 ^ F.p + (y' - 2 ^ F.p)

/-- Whether `y·2^qe` exceeds the largest finite value (R221). -/
def overflows (F : Fmt) (y : Nat) (qe : Int) : Bool :=
  let top : Nat := if F.e4m3 then 14 else 2 ^ (F.p + 1) - 1
  let tope : Int := (if F.e4m3 then (8 : Int) else ((2 ^ (F.ew - 1) - 1 : Nat) : Int)) - F.p
  if qe ≤ tope then decide (top * 2 ^ (tope - qe).toNat < y) else decide (top < y * 2 ^ (qe - tope).toNat)

/-- `round(x, m, F)` of R221 with the precedence of R222 and the flags of R209; `sat` is `.sat`. -/
def roundF (F : Fmt) (md : Rnd) (sat : Bool) (x : Num) : Fl :=
  match x with
  | .nan => { bits := qnan F }
  | .inf n => { bits := if sat then maxBits F n else infBits F n }
  | .fin n m e st =>
    if m == 0 && !st then { bits := zeroBits F n }
    else
      let L : Int := (Nat.log2 m : Int) + e
      let emin : Int := 1 - (F.bias : Int)
      let qe : Int := (if L < emin then emin else L) - F.p
      let (y, ex) := quantize md n m e st qe
      if overflows F y qe then
        let toInf := md == .rne || (md == .ru && !n) || (md == .rd && n)
        { bits := if F.e4m3 then (if sat then maxBits F n else qnan F)
                  else if toInf && !sat then infBits F n else maxBits F n
          of := true, nx := true }
      else
        let (y1, _) := quantize md n m e st (L - F.p)
        let tiny := decide (L < emin) && !(L == emin - 1 && y1 == 2 ^ (F.p + 1))
        { bits := packF F n y qe, nx := !ex, uf := tiny && !ex }

/-- The pattern of an exact value rounded to nearest even, with no saturation. -/
def rne (F : Fmt) (x : Num) : Nat := (roundF F .rne false x).bits

/-- The exact sum and whether it is invalid; an exact zero is −0 when both are, or, of unlike signs,
under RD (R208). -/
def Num.add (rd : Bool) (a b : Num) : Num × Bool :=
  match a, b with
  | .nan, _ => (.nan, false)
  | _, .nan => (.nan, false)
  | .inf s, .inf t => if s == t then (.inf s, false) else (.nan, true)
  | .inf s, .fin _ _ _ _ => (.inf s, false)
  | .fin _ _ _ _, .inf t => (.inf t, false)
  | .fin s m e _, .fin t k f _ =>
    let g := if e ≤ f then e else f
    let x : Int := ((m * 2 ^ (e - g).toNat : Nat) : Int)
    let y : Int := ((k * 2 ^ (f - g).toNat : Nat) : Int)
    let z := (if s then -x else x) + (if t then -y else y)
    if z == 0 then (.fin (if s == t then s else rd) 0 0 false, false)
    else (.fin (decide (z < 0)) z.natAbs g false, false)

/-- The exact product and whether it is invalid (R208). -/
def Num.mul (a b : Num) : Num × Bool :=
  match a, b with
  | .nan, _ => (.nan, false)
  | _, .nan => (.nan, false)
  | .inf s, .inf t => (.inf (s != t), false)
  | .inf s, .fin t k _ _ => if k == 0 then (.nan, true) else (.inf (s != t), false)
  | .fin s m _ _, .inf t => if m == 0 then (.nan, true) else (.inf (s != t), false)
  | .fin s m e _, .fin t k f _ => (.fin (s != t) (m * k) (e + f) false, false)

/-- The quotient to 128 bits and a sticky remainder, its invalid mark and its division by zero mark
(R208, R209). -/
def Num.div (a b : Num) : Num × Bool × Bool :=
  match a, b with
  | .nan, _ => (.nan, false, false)
  | _, .nan => (.nan, false, false)
  | .inf _, .inf _ => (.nan, true, false)
  | .inf s, .fin t _ _ _ => (.inf (s != t), false, false)
  | .fin s _ _ _, .inf t => (.zero (s != t), false, false)
  | .fin s m e _, .fin t k f _ =>
    if k == 0 then (if m == 0 then (.nan, true, false) else (.inf (s != t), false, true))
    else if m == 0 then (.zero (s != t), false, false)
    else
      let sh : Nat := 128 + Nat.log2 k
      let n := m * 2 ^ sh
      (.fin (s != t) (n / k) (e - f - sh) (n % k != 0), false, false)

/-- The integer square root, built bit by bit from bit `i - 1` down. -/
def isqrtFrom (n : Nat) : Nat → Nat → Nat
  | 0, r => r
  | i + 1, r => isqrtFrom n i (if (r + 2 ^ i) * (r + 2 ^ i) ≤ n then r + 2 ^ i else r)

/-- The integer square root. -/
def isqrt (n : Nat) : Nat := isqrtFrom n (Nat.log2 n / 2 + 1) 0

/-- The square root to at least 64 bits and a sticky remainder, with its invalid mark (R208). -/
def Num.sqrt (a : Num) : Num × Bool :=
  match a with
  | .nan => (.nan, false)
  | .inf n => if n then (.nan, true) else (.inf false, false)
  | .fin n m e _ =>
    if m == 0 then (.zero n, false)
    else if n then (.nan, true)
    else
      let sh : Nat := if e % 2 == 0 then 256 else 257
      let v := m * 2 ^ sh
      let r := isqrt v
      (.fin false r ((e - sh) / 2) (r * r != v), false)

/-- The order of two values, or none when one is a NaN; −0 equals +0 (R211). -/
def Num.cmp (a b : Num) : Option Ordering :=
  match a, b with
  | .nan, _ => none
  | _, .nan => none
  | .inf s, .inf t => some (if s == t then .eq else if s then .lt else .gt)
  | .inf s, .fin _ _ _ _ => some (if s then .lt else .gt)
  | .fin _ _ _ _, .inf t => some (if t then .gt else .lt)
  | .fin s m e _, .fin t k f _ =>
    let g := if e ≤ f then e else f
    let x : Int := ((m * 2 ^ (e - g).toNat : Nat) : Int)
    let y : Int := ((k * 2 ^ (f - g).toNat : Nat) : Int)
    some (compare (if s then -x else x) (if t then -y else y))

/-- Whether `a` is below `b`, with −0 below +0, for numbers (R210). -/
def Num.below (a b : Num) : Bool :=
  match Num.cmp a b with
  | some .lt => true
  | some .eq => a.isZero && b.isZero && a.neg && !b.neg
  | _ => false

/-- FMIN or FMAX on patterns of a format (R210). -/
def fMinMax (F : Fmt) (isMax : Bool) (x y : Nat) : Nat :=
  let a := decodeF F x
  let b := decodeF F y
  if a.isNan then (if b.isNan then qnan F else y % 2 ^ F.width)
  else if b.isNan then x % 2 ^ F.width
  else if (if isMax then Num.below a b else Num.below b a) then y % 2 ^ F.width
  else x % 2 ^ F.width

/-- FABS or FNEG on a pattern: the sign bit cleared or inverted, a NaN made canonical (R210). -/
def fSign (F : Fmt) (isNeg : Bool) (x : Nat) : Nat :=
  let y := x % 2 ^ F.width
  if (decodeF F y).isNan then qnan F
  else
    let mag := y % 2 ^ (F.p + F.ew)
    if isNeg && !(bit y (F.p + F.ew)) then mag + 2 ^ (F.p + F.ew) else mag

/-- The class of R211, one bit of nine. -/
def fClass (F : Fmt) (x : Nat) : Nat :=
  match decodeF F x with
  | .nan => 2 ^ 8
  | .inf n => if n then 2 ^ 0 else 2 ^ 7
  | .fin n m _ _ =>
    if m == 0 then (if n then 2 ^ 3 else 2 ^ 4)
    else if m < 2 ^ F.p then (if n then 2 ^ 2 else 2 ^ 5)
    else (if n then 2 ^ 1 else 2 ^ 6)

/-- The operations that round once (R208). -/
inductive FOp
  | add | sub | mul | fma | div | sqrt
deriving DecidableEq, Repr

/-- FADD, FSUB, FMUL, FFMA, FDIV and FSQRT on patterns (R208, R209). -/
def fArith (op : FOp) (F : Fmt) (md : Rnd) (sat : Bool) (x y z : Nat) : Fl :=
  let a := decodeF F x
  let b := decodeF F y
  let c := decodeF F z
  let rd := md == .rd
  match op with
  | .add => let r := Num.add rd a b
            { roundF F md sat r.1 with nv := r.2 }
  | .sub => let r := Num.add rd a b.negate
            { roundF F md sat r.1 with nv := r.2 }
  | .mul => let r := Num.mul a b
            { roundF F md sat r.1 with nv := r.2 }
  | .fma => let r := Num.mul a b
            if r.2 then { bits := qnan F, nv := true }
            else
              let q := Num.add rd r.1 c
              { roundF F md sat q.1 with nv := q.2 }
  | .div => let r := Num.div a b
            { roundF F md sat r.1 with nv := r.2.1, dz := r.2.2 }
  | .sqrt => let r := Num.sqrt a
             { roundF F md sat r.1 with nv := r.2 }

/-- FCVT (R213): an infinity into E4M3 without `.sat` is its NaN and raises NV. -/
def fCvt (dst src : Fmt) (md : Rnd) (sat : Bool) (x : Nat) : Fl :=
  let a := decodeF src x
  { roundF dst md sat a with nv := a.isInf && dst.e4m3 && !sat }

/-- The integer nearest a finite value in a mode, and whether it is exact (R214). -/
def Num.toIntR (md : Rnd) (neg : Bool) (m : Nat) (e : Int) : Int × Bool :=
  let (q, ex) := quantize md neg m e false 0
  ((if neg then -(q : Int) else (q : Int)), ex)

/-- The least value of an integer type (R220). -/
def Ty.minInt (t : Ty) : Int := if Ty.signed t then -((2 ^ (Ty.width t - 1) : Nat) : Int) else 0

/-- The greatest value of an integer type (R220). -/
def Ty.maxInt (t : Ty) : Int :=
  if Ty.signed t then ((2 ^ (Ty.width t - 1) : Nat) : Int) - 1 else ((2 ^ Ty.width t : Nat) : Int) - 1

/-- FCVTI (R214): the integer, and its flags. -/
def fCvtI (t : Ty) (src : Fmt) (md : Rnd) (sat : Bool) (x : Nat) : Int × Bool × Bool :=
  match decodeF src x with
  | .nan => (0, true, false)
  | .inf n => (if n then Ty.minInt t else Ty.maxInt t, !sat, false)
  | .fin n m e _ =>
    let (v, ex) := Num.toIntR md n m e
    if Ty.minInt t ≤ v && v ≤ Ty.maxInt t then (v, false, !ex)
    else (if v < 0 then Ty.minInt t else Ty.maxInt t, !sat, false)

/-- The integer that a type's bits stand for (R215). -/
def Ty.readInt (t : Ty) (x : Nat) : Int :=
  if Ty.signed t then sx x (Ty.width t) else ((x % 2 ^ Ty.width t : Nat) : Int)

/-- ICVTF (R215). -/
def iCvtF (dst : Fmt) (t : Ty) (md : Rnd) (sat : Bool) (x : Nat) : Fl :=
  roundF dst md sat (Num.ofInt (Ty.readInt t x))

/-- FRND (R216): an integral value of the same type, the sign kept, no flag. -/
def fRnd (F : Fmt) (md : Rnd) (x : Nat) : Nat :=
  match decodeF F x with
  | .nan => qnan F
  | .inf n => infBits F n
  | .fin n m e _ => if 0 ≤ e then x % 2 ^ F.width else rne F (.fin n (quantize md n m e false 0).1 0 false)

/-- A float comparison under a condition code (R39, R211). -/
def fCond (c : Cond) (a b : Num) : Bool :=
  match Num.cmp a b with
  | none => c == .ne || c == .always || c == .unord
  | some o =>
    match c with
    | .eq => o == .eq
    | .ne => o != .eq
    | .lt => o == .lt
    | .ge => o != .lt
    | .le => o != .gt
    | .gt => o == .gt
    | .always | .ord => true
    | _ => false

end Sys2Proof.Machine
end

