-- ==== Sys2Proof/Machine/Operands.lean ====
section
/-!
DEFINITION. Machine/Operands.lean: the registers an instruction reads and writes, its class, the pair
conditions of 02 R27, and the operand forms: effective addresses (R35), lanes and vector sources
(10 R236 to R240), descriptor offsets (05 R118).
-/

namespace Sys2Proof.Machine

/-- The specifier of handle register hN (R41). -/
def hndSpec (n : BitVec 4) : RegSpec := 0xA0#8 + n.setWidth 8
/-- The specifier of guard slot gN (R41). -/
def grdSpec (n : BitVec 4) : RegSpec := 0xB0#8 + n.setWidth 8
/-- A specifier of a handle position, when it names a handle register. -/
def onlyHnd (r : RegSpec) : List RegSpec := if rbank r = 2 ∧ 32 ≤ ridx r ∧ ridx r < 48 then [r] else []

/-- The registers an instruction reads, by which it waits for pending ones (R43, R189, R238). -/
def readsOf (i : Instr) : List RegSpec :=
  match i with
  | .add x => [x.b, x.c]
  | .sub x => [x.b, x.c]
  | .mul x => [x.b, x.c]
  | .mulh x => [x.b, x.c]
  | .mulhn x => [x.b, x.c]
  | .div x => [x.b, x.c]
  | .divn x => [x.b, x.c]
  | .rem x => [x.b, x.c]
  | .remn x => [x.b, x.c]
  | .and x => [x.b, x.c]
  | .or x => [x.b, x.c]
  | .xor x => [x.b, x.c]
  | .andn x => [x.b, x.c]
  | .shl x => [x.b, x.c]
  | .shr x => [x.b, x.c]
  | .sar x => [x.b, x.c]
  | .rol x => [x.b, x.c]
  | .min x => [x.b, x.c]
  | .max x => [x.b, x.c]
  | .minn x => [x.b, x.c]
  | .maxn x => [x.b, x.c]
  | .sadd x => [x.b, x.c]
  | .ssub x => [x.b, x.c]
  | .addi x => [x.b]
  | .andi x => [x.b]
  | .ori x => [x.b]
  | .xori x => [x.b]
  | .shli x => [x.b]
  | .shri x => [x.b]
  | .sari x => [x.b]
  | .cmp x => [x.b, x.c]
  | .sel x => [x.b, x.c, x.d]
  | .mov x => [x.b]
  | .clz x => [x.b]
  | .ctz x => [x.b]
  | .popc x => [x.b]
  | .brev x => [x.b]
  | .bswap x => [x.b]
  | .bfx x => [x.b]
  | .bfxs x => [x.b]
  | .bfi x => [x.b, x.c]
  | .sext x => [x.b]
  | .zext x => [x.b]
  | .fadd x => [x.b, x.c]
  | .fsub x => [x.b, x.c]
  | .fmul x => [x.b, x.c]
  | .ffma x => [x.b, x.c, x.d]
  | .fdiv x => [x.b, x.c]
  | .fsqrt x => [x.b]
  | .fmin x => [x.b, x.c]
  | .fmax x => [x.b, x.c]
  | .fcmp x => [x.b, x.c]
  | .fclass x => [x.b]
  | .fabs x => [x.b]
  | .fneg x => [x.b]
  | .fcvt x => [x.b]
  | .fcvti x => [x.b]
  | .icvtf x => [x.b]
  | .frnd x => [x.b]
  | .ld x => [x.m.base, x.m.idx]
  | .lda x => [x.m.base, x.m.idx]
  | .lea x => [x.m.base, x.m.idx]
  | .pf x => [x.m.base, x.m.idx]
  | .st x => [x.a, x.m.base, x.m.idx]
  | .stl x => [x.a, x.m.base, x.m.idx]
  | .amo x => [x.b, x.c]
  | .cas x => [x.a, x.b, x.c]
  | .amof x => [x.b, x.c]
  | .cflush m => [m.base, m.idx]
  | .cinv m => [m.base, m.idx]
  | .czero x => [x.m.base, x.m.idx]
  | .cpy x => [x.b]
  | .cpym x => [x.b]
  | .cpyr x => [x.b]
  | .cpyg x => [x.b]
  | .cpys x => [x.b]
  | .binit x => [x.b]
  | .bpost x => [x.b, x.c]
  | .btest x => [x.b]
  | .hbind x => [x.b]
  | .hadvp x => [x.c, hndSpec x.n]
  | .hadvc x => [x.c, hndSpec x.n]
  | .hstat x => [hndSpec x.n]
  | .gset x => [x.b]
  | .tidset x => [x.b]
  | .tidget x => [x.b]
  | .vadd x => [x.b, x.c, 0x80#8 + x.msk.setWidth 8, x.a]
  | .vsub x => [x.b, x.c, 0x80#8 + x.msk.setWidth 8, x.a]
  | .vmul x => [x.b, x.c, 0x80#8 + x.msk.setWidth 8, x.a]
  | .vmulh x => [x.b, x.c, 0x80#8 + x.msk.setWidth 8, x.a]
  | .vmin x => [x.b, x.c, 0x80#8 + x.msk.setWidth 8, x.a]
  | .vmax x => [x.b, x.c, 0x80#8 + x.msk.setWidth 8, x.a]
  | .vabs x => [x.b, 0x80#8 + x.msk.setWidth 8, x.a]
  | .vsadd x => [x.b, x.c, 0x80#8 + x.msk.setWidth 8, x.a]
  | .vssub x => [x.b, x.c, 0x80#8 + x.msk.setWidth 8, x.a]
  | .vshl x => [x.b, x.c, 0x80#8 + x.msk.setWidth 8, x.a]
  | .vshr x => [x.b, x.c, 0x80#8 + x.msk.setWidth 8, x.a]
  | .vsar x => [x.b, x.c, 0x80#8 + x.msk.setWidth 8, x.a]
  | .vand x => [x.b, x.c, 0x80#8 + x.msk.setWidth 8, x.a]
  | .vor x => [x.b, x.c, 0x80#8 + x.msk.setWidth 8, x.a]
  | .vxor x => [x.b, x.c, 0x80#8 + x.msk.setWidth 8, x.a]
  | .vnot x => [x.b, 0x80#8 + x.msk.setWidth 8, x.a]
  | .vfadd x => [x.b, x.c, 0x80#8 + x.msk.setWidth 8, x.a]
  | .vfsub x => [x.b, x.c, 0x80#8 + x.msk.setWidth 8, x.a]
  | .vfmul x => [x.b, x.c, 0x80#8 + x.msk.setWidth 8, x.a]
  | .vfma x => [x.b, x.c, x.d, 0x80#8 + x.msk.setWidth 8, x.a]
  | .vfmin x => [x.b, x.c, 0x80#8 + x.msk.setWidth 8, x.a]
  | .vfmax x => [x.b, x.c, 0x80#8 + x.msk.setWidth 8, x.a]
  | .vfabs x => [x.b, 0x80#8 + x.msk.setWidth 8, x.a]
  | .vfneg x => [x.b, 0x80#8 + x.msk.setWidth 8, x.a]
  | .vfcvt x => [x.b, 0x80#8 + x.msk.setWidth 8, x.a]
  | .vrcp x => [x.b, 0x80#8 + x.msk.setWidth 8, x.a]
  | .vrsq x => [x.b, 0x80#8 + x.msk.setWidth 8, x.a]
  | .vexp x => [x.b, 0x80#8 + x.msk.setWidth 8, x.a]
  | .vlog2 x => [x.b, 0x80#8 + x.msk.setWidth 8, x.a]
  | .vcmp x => [x.b, x.c, 0x80#8 + x.msk.setWidth 8, x.a]
  | .vfcmp x => [x.b, x.c, 0x80#8 + x.msk.setWidth 8, x.a]
  | .vsel x => [x.b, x.c, 0x80#8 + x.msk.setWidth 8]
  | .vperm x => [x.b, x.c, 0x80#8 + x.msk.setWidth 8, x.a]
  | .vbcast x => [x.b, 0x80#8 + x.msk.setWidth 8, x.a]
  | .vextr x => [x.b, x.c]
  | .vins x => [x.b, x.c, x.a]
  | .vslide x => [x.b, x.c, x.d, 0x80#8 + x.msk.setWidth 8, x.a]
  | .vcomp x => [x.b, 0x80#8 + x.msk.setWidth 8]
  | .viota x => [0x80#8 + x.msk.setWidth 8]
  | .vred x => [x.b, 0x80#8 + x.msk.setWidth 8]
  | .vfred x => [x.b, 0x80#8 + x.msk.setWidth 8]
  | .vscan x => [x.b, 0x80#8 + x.msk.setWidth 8, x.a]
  | .vfscan x => [x.b, 0x80#8 + x.msk.setWidth 8, x.a]
  | .vargmax x => [x.b, x.c, 0x80#8 + x.msk.setWidth 8]
  | .vld x => [x.m.base, x.m.idx]
  | .vst x => [x.a, x.m.base, x.m.idx]
  | .vlds x => [x.m.base, x.m.idx]
  | .vsts x => [x.a, x.m.base, x.m.idx]
  | .vgath x => [x.m.base, x.m.idx, x.a]
  | .vscat x => [x.a, x.m.base, x.m.idx]
  | .mand x => [x.b, x.c]
  | .mor x => [x.b, x.c]
  | .mxor x => [x.b, x.c]
  | .mnot x => [x.b]
  | .mpopc x => [x.b]
  | .mfirst x => [x.b]
  | .mset x => [x.b]
  | .mget x => [x.b]
  | .amma x => x.b :: (onlyHnd x.c ++ onlyHnd x.d)
  | .ard x => x.b :: onlyHnd x.d
  | .atq x => x.b :: onlyHnd x.d
  | .atapp x => [x.b]
  | .atseqCreate x => [x.b]
  | .atseqFork x => [x.b]
  | .atseqCommit x => [x.b]
  | .atseqTrim x => [x.b]
  | .atseqFree x => [x.b]
  | .atseqReport x => [x.b]
  | .atmsk x => [x.b]
  | .atcnt x => [x.b]
  | .smpl x => [x.b]
  | .topk x => [x.b]
  | .gmask x => [x.b]
  | .gstep x => [x.b]
  | .bqcfg x => [x.b]
  | .bqpush x => [x.b, x.c]
  | .cred x => [x.b]
  | .cscan x => [x.b]
  | .cbc x => [x.b]
  | .cgath x => [x.b]
  | .b x => [x.a, x.b]
  | .jr a => [a]
  | .jlr a => [a]
  | .lset x => [x.b]
  | .send x => if x.setm = 0#4 then [x.b, x.c] else [x.b, x.c, x.d]
  | .tspawn x => [x.b]
  | .evsig x => [x.b, x.c]
  | .evset x => [x.b, x.c]
  | .evclr x => [x.c]
  | .evread x => [x.c]
  | .sfork x => [x.b]
  | .sforkRoot x => [x.c, x.d]
  | .sjoin x => [x.b]
  | .skill x => [x.b]
  | .sstep x => [x.b]
  | .sact x => [x.b, x.c]
  | .spopa x => [x.b, x.c]
  | .sret x => [x.b, x.c]
  | .sgate x => [x.b]
  | .smig x => [x.b]
  | .sflat x => [x.b]
  | .sinfo x => [x.b, x.c]
  | .adecl x => [x.b]
  | .csrwr x => [x.b]
  | .timeUntil x => [x.b]
  | .tlbi x => if x.byAddr then [x.b] else []
  | .trace x => [x.b, x.c]
  | .trap x => [x.b]
  | .winrd x => [x.b, x.c]
  | .winwr x => [x.b, x.c, x.d]
  | .resumeRetry x => [x.b]
  | .resumeSkip x => [x.b]
  | .resumeDrop x => [x.b]
  | .fault x => [x.b]
  | _ => []

/-- The registers an instruction writes (R189). -/
def writesOf (i : Instr) : List RegSpec :=
  match i with
  | .add x => [x.a]
  | .sub x => [x.a]
  | .mul x => [x.a]
  | .mulh x => [x.a]
  | .mulhn x => [x.a]
  | .div x => [x.a]
  | .divn x => [x.a]
  | .rem x => [x.a]
  | .remn x => [x.a]
  | .and x => [x.a]
  | .or x => [x.a]
  | .xor x => [x.a]
  | .andn x => [x.a]
  | .shl x => [x.a]
  | .shr x => [x.a]
  | .sar x => [x.a]
  | .rol x => [x.a]
  | .min x => [x.a]
  | .max x => [x.a]
  | .minn x => [x.a]
  | .maxn x => [x.a]
  | .sadd x => [x.a]
  | .ssub x => [x.a]
  | .movi x => [x.a]
  | .addi x => [x.a]
  | .andi x => [x.a]
  | .ori x => [x.a]
  | .xori x => [x.a]
  | .shli x => [x.a]
  | .shri x => [x.a]
  | .sari x => [x.a]
  | .cmp x => [x.a]
  | .sel x => [x.a]
  | .mov x => [x.a]
  | .clz x => [x.a]
  | .ctz x => [x.a]
  | .popc x => [x.a]
  | .brev x => [x.a]
  | .bswap x => [x.a]
  | .bfx x => [x.a]
  | .bfxs x => [x.a]
  | .bfi x => [x.a]
  | .sext x => [x.a]
  | .zext x => [x.a]
  | .fadd x => [x.a]
  | .fsub x => [x.a]
  | .fmul x => [x.a]
  | .ffma x => [x.a]
  | .fdiv x => [x.a]
  | .fsqrt x => [x.a]
  | .fmin x => [x.a]
  | .fmax x => [x.a]
  | .fcmp x => [x.a]
  | .fclass x => [x.a]
  | .fabs x => [x.a]
  | .fneg x => [x.a]
  | .fcvt x => [x.a]
  | .fcvti x => [x.a]
  | .icvtf x => [x.a]
  | .frnd x => [x.a]
  | .ld x => [x.a]
  | .lda x => [x.a]
  | .lea x => [x.a]
  | .amo x => [x.a]
  | .cas x => [x.a]
  | .amof x => [x.a]
  | .cpy x => if x.det then [] else [x.a]
  | .cpym x => if x.det then [] else [x.a]
  | .cpyr x => if x.det then [] else [x.a]
  | .cpyg x => if x.det then [] else [x.a]
  | .cpys x => if x.det then [] else [x.a]
  | .chanRead x => [x.a]
  | .chanAddr x => [x.a]
  | .chanAbort x => [x.a]
  | .btest x => if x.det then [] else [x.a]
  | .hbind x => [x.a, hndSpec x.n]
  | .hbindNone x => [x.a, hndSpec x.n]
  | .hadvp x => [x.a, hndSpec x.n]
  | .hadvc x => [x.a, hndSpec x.n]
  | .gset x => [grdSpec x.n]
  | .gclr n => [grdSpec n]
  | .hstat x => [x.a]
  | .tidset x => [x.a]
  | .tidget x => [x.a]
  | .tidinv x => [x.a]
  | .vadd x => [x.a]
  | .vsub x => [x.a]
  | .vmul x => [x.a]
  | .vmulh x => [x.a]
  | .vmin x => [x.a]
  | .vmax x => [x.a]
  | .vabs x => [x.a]
  | .vsadd x => [x.a]
  | .vssub x => [x.a]
  | .vshl x => [x.a]
  | .vshr x => [x.a]
  | .vsar x => [x.a]
  | .vand x => [x.a]
  | .vor x => [x.a]
  | .vxor x => [x.a]
  | .vnot x => [x.a]
  | .vfadd x => [x.a]
  | .vfsub x => [x.a]
  | .vfmul x => [x.a]
  | .vfma x => [x.a]
  | .vfmin x => [x.a]
  | .vfmax x => [x.a]
  | .vfabs x => [x.a]
  | .vfneg x => [x.a]
  | .vfcvt x => [x.a]
  | .vrcp x => [x.a]
  | .vrsq x => [x.a]
  | .vexp x => [x.a]
  | .vlog2 x => [x.a]
  | .vcmp x => [x.a]
  | .vfcmp x => [x.a]
  | .vsel x => [x.a]
  | .vperm x => [x.a]
  | .vbcast x => [x.a]
  | .vextr x => [x.a]
  | .vins x => [x.a]
  | .vslide x => [x.a]
  | .vcomp x => [x.a]
  | .viota x => [x.a]
  | .vred x => [x.a]
  | .vfred x => [x.a]
  | .vscan x => [x.a]
  | .vfscan x => [x.a]
  | .vargmax x => [x.a]
  | .vld x => [x.a]
  | .vlds x => [x.a]
  | .vgath x => [x.a]
  | .mand x => [x.a]
  | .mor x => [x.a]
  | .mxor x => [x.a]
  | .mnot x => [x.a]
  | .mpopc x => [x.a]
  | .mfirst x => [x.a]
  | .mset x => [x.a]
  | .mget x => [x.a]
  | .acfg x => if x.det then [] else [x.a]
  | .amma x => if x.det then [] else [x.a]
  | .azero x => if x.det then [] else [x.a]
  | .ard x => if x.det then [] else [x.a]
  | .atq x => if x.det then [] else [x.a]
  | .atapp x => if x.det then [] else [x.a]
  | .atseqCreate x => if x.det then [] else [x.a]
  | .atseqFork x => if x.det then [] else [x.a]
  | .atseqCommit x => if x.det then [] else [x.a]
  | .atseqTrim x => if x.det then [] else [x.a]
  | .atseqFree x => if x.det then [] else [x.a]
  | .atseqReport x => if x.det then [] else [x.a]
  | .atmsk x => if x.det then [] else [x.a]
  | .atcnt x => if x.det then [] else [x.a]
  | .smpl x => if x.det then [] else [x.a]
  | .topk x => if x.det then [] else [x.a]
  | .gmask x => if x.det then [] else [x.a]
  | .gstep x => if x.det then [] else [x.a]
  | .bqcfg x => [x.a]
  | .bqpush x => [x.a]
  | .bqpop x => [x.a, x.c]
  | .bqstat a => [a]
  | .cred x => if x.det then [] else [x.a]
  | .cscan x => if x.det then [] else [x.a]
  | .cbc x => if x.det then [] else [x.a]
  | .cgath x => if x.det then [] else [x.a]
  | .jl _ => [0x88#8]
  | .jlr _ => [0x88#8]
  | .send x => [x.a]
  | .tspawn x => [x.a]
  | .tinfo x => [x.a]
  | .evsig x => [x.a]
  | .evset x => [x.a]
  | .evclr x => [x.a]
  | .evread x => [x.a]
  | .sfork x => [x.a]
  | .sforkRoot x => [x.a]
  | .sjoin x => [x.a]
  | .skill x => [x.a]
  | .sstep x => [x.a]
  | .sact x => [x.a]
  | .spopa x => [x.a]
  | .sret x => [x.a]
  | .sgate x => [x.a]
  | .smig x => [x.a]
  | .sflat x => [x.a]
  | .sinfo x => [x.a]
  | .adecl x => [x.a]
  | .astat x => [x.a]
  | .csrrd x => [x.a]
  | .csrwr x => [x.a]
  | .time a => [a]
  | .timeUntil x => [x.a]
  | .tlbi x => [x.a]
  | .trace x => [x.a]
  | .winrd x => [x.a, x.d]
  | .winwr x => [x.a]
  | .resumeRetry x => [x.a]
  | .resumeSkip x => [x.a]
  | .resumeDrop x => [x.a]
  | _ => []

/-- The class of a cell instruction (R44); 0x40 for a mask word and for a step of another agent. -/
def classOf (i : Instr) : Nat :=
  match i with
  | .nop => 0x00
  | .hint _ => 0x00
  | .add _ => 0x01
  | .sub _ => 0x01
  | .mul _ => 0x01
  | .mulh _ => 0x01
  | .mulhn _ => 0x01
  | .div _ => 0x01
  | .divn _ => 0x01
  | .rem _ => 0x01
  | .remn _ => 0x01
  | .and _ => 0x01
  | .or _ => 0x01
  | .xor _ => 0x01
  | .andn _ => 0x01
  | .shl _ => 0x01
  | .shr _ => 0x01
  | .sar _ => 0x01
  | .rol _ => 0x01
  | .min _ => 0x01
  | .max _ => 0x01
  | .minn _ => 0x01
  | .maxn _ => 0x01
  | .sadd _ => 0x01
  | .ssub _ => 0x01
  | .movi _ => 0x02
  | .addi _ => 0x02
  | .andi _ => 0x02
  | .ori _ => 0x02
  | .xori _ => 0x02
  | .shli _ => 0x02
  | .shri _ => 0x02
  | .sari _ => 0x02
  | .cmp _ => 0x03
  | .sel _ => 0x03
  | .mov _ => 0x03
  | .clz _ => 0x03
  | .ctz _ => 0x03
  | .popc _ => 0x03
  | .brev _ => 0x03
  | .bswap _ => 0x03
  | .bfx _ => 0x03
  | .bfxs _ => 0x03
  | .bfi _ => 0x03
  | .sext _ => 0x03
  | .zext _ => 0x03
  | .fadd _ => 0x04
  | .fsub _ => 0x04
  | .fmul _ => 0x04
  | .ffma _ => 0x04
  | .fdiv _ => 0x04
  | .fsqrt _ => 0x04
  | .fmin _ => 0x04
  | .fmax _ => 0x04
  | .fcmp _ => 0x04
  | .fclass _ => 0x04
  | .fabs _ => 0x04
  | .fneg _ => 0x04
  | .fcvt _ => 0x05
  | .fcvti _ => 0x05
  | .icvtf _ => 0x05
  | .frnd _ => 0x05
  | .ld _ => 0x06
  | .lda _ => 0x06
  | .lea _ => 0x06
  | .pf _ => 0x06
  | .st _ => 0x07
  | .stl _ => 0x07
  | .amo _ => 0x08
  | .cas _ => 0x08
  | .amof _ => 0x08
  | .fence _ => 0x09
  | .swf _ => 0x09
  | .cflush _ => 0x09
  | .cinv _ => 0x09
  | .czero _ => 0x09
  | .cpy _ => 0x0A
  | .cpym _ => 0x0A
  | .cpyr _ => 0x0A
  | .cpyg _ => 0x0A
  | .cpys _ => 0x0A
  | .chanRead _ => 0x0A
  | .chanAddr _ => 0x0A
  | .chanAbort _ => 0x0A
  | .binit _ => 0x0B
  | .bpost _ => 0x0B
  | .btest _ => 0x0B
  | .hbind _ => 0x0C
  | .hbindNone _ => 0x0C
  | .hadvp _ => 0x0C
  | .hadvc _ => 0x0C
  | .hstat _ => 0x0C
  | .rep _ => 0x0C
  | .gset _ => 0x0C
  | .gclr _ => 0x0C
  | .tidset _ => 0x0D
  | .tidget _ => 0x0D
  | .tidinv _ => 0x0D
  | .vadd _ => 0x10
  | .vsub _ => 0x10
  | .vmul _ => 0x10
  | .vmulh _ => 0x10
  | .vmin _ => 0x10
  | .vmax _ => 0x10
  | .vabs _ => 0x10
  | .vsadd _ => 0x10
  | .vssub _ => 0x10
  | .vshl _ => 0x10
  | .vshr _ => 0x10
  | .vsar _ => 0x10
  | .vand _ => 0x10
  | .vor _ => 0x10
  | .vxor _ => 0x10
  | .vnot _ => 0x10
  | .vfadd _ => 0x11
  | .vfsub _ => 0x11
  | .vfmul _ => 0x11
  | .vfma _ => 0x11
  | .vfmin _ => 0x11
  | .vfmax _ => 0x11
  | .vfabs _ => 0x11
  | .vfneg _ => 0x11
  | .vfcvt _ => 0x11
  | .vrcp _ => 0x11
  | .vrsq _ => 0x11
  | .vexp _ => 0x11
  | .vlog2 _ => 0x11
  | .vcmp _ => 0x12
  | .vfcmp _ => 0x12
  | .vsel _ => 0x12
  | .vperm _ => 0x12
  | .vbcast _ => 0x12
  | .vextr _ => 0x12
  | .vins _ => 0x12
  | .vslide _ => 0x12
  | .vcomp _ => 0x12
  | .viota _ => 0x12
  | .vred _ => 0x13
  | .vfred _ => 0x13
  | .vscan _ => 0x13
  | .vfscan _ => 0x13
  | .vargmax _ => 0x13
  | .vld _ => 0x14
  | .vst _ => 0x14
  | .vlds _ => 0x14
  | .vsts _ => 0x14
  | .vgath _ => 0x14
  | .vscat _ => 0x14
  | .mand _ => 0x15
  | .mor _ => 0x15
  | .mxor _ => 0x15
  | .mnot _ => 0x15
  | .mpopc _ => 0x15
  | .mfirst _ => 0x15
  | .mset _ => 0x15
  | .mget _ => 0x15
  | .acfg _ => 0x18
  | .amma _ => 0x18
  | .azero _ => 0x18
  | .ard _ => 0x18
  | .atq _ => 0x1A
  | .atapp _ => 0x1A
  | .atseqCreate _ => 0x1A
  | .atseqFork _ => 0x1A
  | .atseqCommit _ => 0x1A
  | .atseqTrim _ => 0x1A
  | .atseqFree _ => 0x1A
  | .atseqReport _ => 0x1A
  | .atmsk _ => 0x1A
  | .atcnt _ => 0x1A
  | .smpl _ => 0x1B
  | .topk _ => 0x1B
  | .gmask _ => 0x1B
  | .gstep _ => 0x1B
  | .bqcfg _ => 0x1B
  | .bqpush _ => 0x1B
  | .bqpop _ => 0x1B
  | .bqstat _ => 0x1B
  | .cred _ => 0x1C
  | .cscan _ => 0x1C
  | .cbc _ => 0x1C
  | .cgath _ => 0x1C
  | .b _ => 0x20
  | .j _ => 0x20
  | .jl _ => 0x20
  | .jr _ => 0x20
  | .jlr _ => 0x20
  | .lset _ => 0x21
  | .lclr _ => 0x21
  | .send _ => 0x22
  | .tspawn _ => 0x22
  | .tend _ => 0x22
  | .tinfo _ => 0x22
  | .evsig _ => 0x23
  | .evset _ => 0x23
  | .evclr _ => 0x23
  | .evread _ => 0x23
  | .sfork _ => 0x24
  | .sforkRoot _ => 0x24
  | .sjoin _ => 0x24
  | .skill _ => 0x24
  | .sstep _ => 0x24
  | .sact _ => 0x24
  | .spopa _ => 0x24
  | .sret _ => 0x24
  | .sgate _ => 0x24
  | .smig _ => 0x24
  | .sflat _ => 0x24
  | .sinfo _ => 0x24
  | .adecl _ => 0x25
  | .astat _ => 0x25
  | .csrrd _ => 0x30
  | .csrwr _ => 0x30
  | .time _ => 0x30
  | .timeUntil _ => 0x30
  | .tlbi _ => 0x30
  | .trace _ => 0x30
  | .brk _ => 0x31
  | .trap _ => 0x31
  | .winrd _ => 0x31
  | .winwr _ => 0x31
  | .resumeRetry _ => 0x31
  | .resumeSkip _ => 0x31
  | .resumeDrop _ => 0x31
  | .fault _ => 0x31
  | _ => 0x40

/-- Bytes of an element of a type code (R38). -/
def codeBytes (t : Nat) : Nat := (((Ty.ofNat? t).map Ty.width).getD 8) / 8

/-! ### The read word of ARD (R292) -/

/-- OTYPE. -/
def ardTy (w : Nat) : Nat := fld w 51 48
/-- Element bytes of the output; none for a type that is no OTYPE. -/
def ardSize (w : Nat) : Option Nat :=
  if ardTy w = 1 then some 4 else if 7 ≤ ardTy w ∧ ardTy w ≤ 12 then some (codeBytes (ardTy w)) else none
/-- NROWM1 + 1. -/
def ardRows (w : Nat) : Nat := fld w 56 52 + 1
/-- Bytes of the output. -/
def ardBytes (w : Nat) : Nat := ardRows w * 32 * (ardSize w).getD 0

/-- The vector registers that an ARD with a read word writes: those of DST 0, when it is attached (R293). -/
def ardDst (attached : Bool) (w : Nat) : List RegSpec :=
  let n := (ardBytes w + 63) / 64
  let v := fld w 41 37
  if fld w 43 42 = 0 ∧ attached ∧ v + n ≤ 32 then (List.range n).map (fun i => BitVec.ofNat 8 (64 + v + i)) else []

/-- The multiply-divide instructions of condition 8 of R27. -/
def isMulDiv : Instr → Bool
  | .mul _ | .mulh _ | .mulhn _ | .div _ | .divn _ | .rem _ | .remn _ => true
  | _ => false

/-- The memory classes of condition 4 of R27. -/
def isMemClass (c : Nat) : Bool := c == 6 || c == 7 || c == 8 || c == 9 || c == 0x14
/-- The engine classes of condition 5 of R27. -/
def isEngClass (c : Nat) : Bool :=
  (decide (0xA ≤ c) && decide (c ≤ 0xD)) || c == 0x18 || c == 0x1A || c == 0x1B || c == 0x1C
/-- The vector classes of condition 6 of R27. -/
def isVecClass (c : Nat) : Bool := decide (0x10 ≤ c) && decide (c ≤ 0x15)
/-- The classes that never pair: condition 2 of R27. -/
def isLoneClass (c : Nat) : Bool := (decide (0x22 ≤ c) && decide (c ≤ 0x25)) || c == 0x30 || c == 0x31

/-- Whether two instructions in slots k and k+1 are pairable (R27). A destination counts as written though the
register ignores the write, but for s0 (log 77). -/
def pairable (i j : Instr) : Bool :=
  let a := classOf i
  let b := classOf j
  a != 0x20 && a != 0x21 && !isLoneClass a && !isLoneClass b &&
    ((writesOf i).filter (· != 0#8)).all (fun r => !(readsOf j ++ writesOf j).contains r) &&
    !(isMemClass a && isMemClass b) && !(isEngClass a && isEngClass b) && !(isVecClass a && isVecClass b) &&
    !((a == 4 || a == 5) && (b == 4 || b == 5)) && !(isMulDiv i && isMulDiv j)

/-- The effective address of R35. -/
def ea (rd : RegSpec → Word) (m : MemRef) : Nat :=
  (rd m.base + (rd m.idx <<< m.sh.toNat) + m.off.signExtend 64).toNat

/-- The effective address of an atomic, which has no index (R158). -/
def eaAtomic (rd : RegSpec → Word) (b : RegSpec) (off : BitVec 32) : Nat :=
  (rd b + off.signExtend 64).toNat

/-- Lane `i` of width `w` of a vector (R236). -/
def lane (v : Vec) (w i : Nat) : Nat := v.toNat / 2 ^ (w * i) % 2 ^ w

/-- A vector made of lanes, lane 0 first (R236). -/
def ofLanes (w : Nat) (l : List Nat) : Vec :=
  BitVec.ofNat 512 (l.foldr (fun x acc => x % 2 ^ w + acc * 2 ^ w) 0)

/-- The lanes of a vector source: a register, or the low bits of a scalar or a small immediate given
to every lane (R239). -/
def vsrc (gt : Word) (b : Bank) (r : RegSpec) (w : Nat) : Nat → Nat :=
  if rbank r = 1 then (let v := readVec b r; fun i => lane v w i)
  else (let x := (readReg gt b r).toNat % 2 ^ w; fun _ => x)

/-- The lanes of a vector source of the executing instruction. -/
def State.vs (s : State) (r : RegSpec) (w : Nat) : Nat → Nat := vsrc s.gt s.b r w

/-- Number of lanes of a width (R236). -/
def lanes (w : Nat) : Nat := 512 / w

/-- Lane `i` is active under a mask register (R240). -/
def active (b : Bank) (msk : BitVec 3) (i : Nat) : Bool := bit (maskVal b msk.toNat).toNat i

/-- The destination under the merge of R240: active lanes computed, the others kept. -/
def merge (b : Bank) (msk : BitVec 3) (dst : RegSpec) (w : Nat) (f : Nat → Nat) : Vec :=
  let old := readVec b dst
  ofLanes w ((List.range (lanes w)).map (fun i => if active b msk i then f i else lane old w i))

/-- The low `n` bits of a mask register (R237). -/
def maskBits (b : Bank) (r : RegSpec) (n : Nat) : Nat := (maskVal b (ridx r)).toNat % 2 ^ n

/-- A mask of `n` bits from a test (R237). -/
def ofBits (n : Nat) (f : Nat → Bool) : Nat :=
  (List.range n).foldr (fun i acc => (if f i then 2 ^ i else 0) + acc) 0

/-- The cause that an offset of `n` bytes of scratchpad in a register raises: none when it is a multiple of
`align` below 256 KiB from which the bytes do not pass it. The range comes before the alignment, for the offsets of
SEND, of 8-byte alignment, that of the last byte too (R118, R387, R388, log 97). -/
def offsetTrap (v : Word) (align n : Nat) : Option Cause :=
  if 2 ^ 18 ≤ v.toNat ∨ (align = 8 ∧ 2 ^ 18 < v.toNat + n) then some .addrRange
  else if v.toNat % align ≠ 0 then some .memAlign
  else if 2 ^ 18 < v.toNat + n then some .addrRange
  else none

/-- Scope order (R10). -/
def Scope.rank : Scope → Nat
  | .cell => 0
  | .clus => 1
  | .die => 2
  | .pkg => 3
  | .sys => 4

/-- Narrower than. -/
def Scope.lt (a b : Scope) : Bool := decide (Scope.rank a < Scope.rank b)
/-- The wider of two scopes. -/
def Scope.wider (a b : Scope) : Scope := if Scope.lt a b then b else a

/-- A scope code of a descriptor (R119). -/
def scopeOf (n : Nat) : Option Scope := [Scope.cell, .clus, .die, .pkg, .sys][n]?

end Sys2Proof.Machine
end

