-- ==== Sys2Proof/Machine/Flags.lean ====
section
/-!
DEFINITION. Machine/Flags.lean: the sticky flags of st and their traps (08 R194, R195, R209), and the
results that are written later (R189, R190).
-/

namespace Sys2Proof.Machine

/-- The flags of a result in the places of st[4:0]: NV, DZ, OF, UF, NX (R194). -/
def flagBits (nv dz of uf nx : Bool) : Nat :=
  (if nv then 16 else 0) + (if dz then 8 else 0) + (if of then 4 else 0) + (if uf then 2 else 0) + (if nx then 1 else 0)

/-- The flags that a rounding raises (R209). -/
def Fl.flags (r : Fl) : Nat := flagBits r.nv r.dz r.of r.uf r.nx

/-- The arithmetic trap that flags raise under the trap enables of st, the first in the order of
R195; none when no enabled flag is among them. -/
def arithCause (st : Word) (flags : Nat) : Option Cause :=
  let on (i : Nat) : Bool := bit flags i && bit st.toNat (8 + i)
  if on 4 then some .arithNv
  else if on 3 then some .arithDz
  else if on 2 then some .arithOf
  else if on 1 then some .arithUf
  else if on 0 then some .arithNx
  else none

/-- st with sticky flags set (R195). -/
def stSet (st : Word) (flags : Nat) : Word := st ||| BitVec.ofNat 64 (flags % 64)

/-- Whether any trap enable TE4 to TE0 of st is set (R190). -/
def trapEnabled (st : Word) : Bool := fld st.toNat 12 8 != 0

/-- Which results of classes 0x04 and 0x05 an activation still awaits (R190). -/
def floatOf (act : Nat) : Flight → Bool
  | .result w => w.act == act && w.float
  | _ => false

/-- Whether an activation has a float result still to be written (R190). -/
def State.floatPending (s : State) (act : Nat) : Bool := s.fly.any (fun f => floatOf act f.f)

/-- Whether an activation has any multi-cycle result still to be written (R189). -/
def resultOf (act : Nat) : Flight → Bool
  | .result w => w.act == act
  | _ => false

/-- Number of the executing activation; 0 when the bank holds no task. -/
def State.act (s : State) : Nat := (s.b.task.map (·.act)).getD 0

/-- A multi-cycle result of the executing instruction (R189). -/
def State.resultOf (s : State) (dst : RegSpec) (val flags : Nat) (float : Bool) : Wb :=
  { cell := s.cur.cell, hi := s.cur.hi, act := s.act, pc := s.b.pc.toNat,
    insn := insnAt s.b s.b.pc.toNat, dst := dst, val := val, flags := flags, float := float }

/-- The executing instruction completes and its result is written later, with its flags (R189,
R190): the destination is pending until RESULT_WRITEBACK. -/
def State.later (s : State) (dst : RegSpec) (val flags : Nat) (float : Bool) : State :=
  ((s.send s.cur.cell (.result (s.resultOf dst val flags float))).mapB (fun b => addPend b dst)).retire

/-- A result written into its bank: a scalar, or a vector register (R189). -/
def writeResult (b : Bank) (r : RegSpec) (val : Nat) : Bank :=
  if rbank r = 1 then writeVec b r (BitVec.ofNat 512 val) else writeReg b r (BitVec.ofNat 64 val)

/-- RESULT_WRITEBACK (R189, R195): the flags are set and the result written, or, when a flag's enable
is set, the task traps and neither is. A result of an earlier activation is dropped. -/
def State.writeback (s : State) (w : Wb) : State :=
  match (s.bank w.cell w.hi).task with
  | none => s
  | some k =>
    if k.act ≠ w.act then s
    else
      let st := (s.bank w.cell w.hi).st
      match arithCause st w.flags with
      | some cause => (s.mapBank w.cell w.hi (fun b => dropPend b w.dst)).takeTrap w.cell w.hi
          { cause := cause, pc := w.pc, insn := w.insn }
      | none => s.mapBank w.cell w.hi (fun b =>
          dropPend { writeResult b w.dst w.val with st := stSet b.st w.flags } w.dst)

end Sys2Proof.Machine
end

