-- ==== Sys2Proof/Machine/Overlay.lean ====
section
/-!
DEFINITION. Machine/Overlay.lean: overlay maps and their pages (03 R78 to R84), for the stream maps of
a die and the sequence maps of a crucible alike.
-/

namespace Sys2Proof.Machine

/-- The map of an id. -/
def Pool.map? (p : Pool) (m : Nat) : Option OMap := look p.maps m
/-- The count of a page. -/
def Pool.count (p : Pool) (g : Nat) : Nat := lookD p.pages g 0

/-- `lookup(M, i)` of R81: the page found and whether it stands in M itself; at most `fuel` levels. -/
def Pool.lookup (p : Pool) : Nat → Nat → Nat → Option (Nat × Nat)
  | 0, _, _ => none
  | fuel + 1, m, i =>
    match p.map? m with
    | none => none
    | some x =>
      match look x.ents i with
      | some g => some (g, m)
      | none => (match x.parent with | some q => p.lookup fuel q i | none => none)

/-- The lookup of R79, over four levels. -/
def Pool.find (p : Pool) (m i : Nat) : Option (Nat × Nat) := p.lookup 4 m i

/-- Every index visible in a map, with its page: the nearest level wins (R79). -/
def Pool.visible (p : Pool) : Nat → Nat → Map Nat
  | 0, _ => []
  | fuel + 1, m =>
    match p.map? m with
    | none => []
    | some x =>
      let up := match x.parent with | some q => p.visible fuel q | none => []
      x.ents.foldl (fun a e => put a e.1 e.2) up

/-- Whether a map has a live child, and is frozen (R80). -/
def Pool.frozen (p : Pool) (m : Nat) : Bool := p.maps.any (fun e => e.2.parent == some m)

/-- A map's entry inserted and its page's count set to 1. -/
def Pool.insert (p : Pool) (m i g : Nat) : Pool :=
  { maps := (match look p.maps m with
      | some x => put p.maps m { x with ents := put x.ents i g }
      | none => p.maps),
    pages := put p.pages g 1 }

/-- A page's count lowered by one; at zero the page is free (R82). -/
def Pool.drop (p : Pool) (g : Nat) : Pool :=
  let n := p.count g
  { p with pages := if n ≤ 1 then del p.pages g else put p.pages g (n - 1) }

/-- What a write of R81 does: the page written, and the page copied into it when there is one. -/
structure PageWrite where
  page : Nat
  fresh : Bool
  src : Option Nat
  pool : Pool

/-- The write of R81 to index `i` of map `m`, with `cap` physical pages, of which a pinned one is not
taken; none when no page is free. -/
def Pool.write (p : Pool) (cap : Nat) (pin : List Nat) (m i : Nat) : Option PageWrite :=
  let used (g : Nat) : Bool := p.count g != 0 || pin.contains g
  match p.find m i with
  | none => (firstFree used cap 0).map (fun g =>
      { page := g, fresh := true, src := none, pool := p.insert m i g })
  | some (g, lv) =>
    if lv = m ∧ p.count g ≤ 1 then some { page := g, fresh := false, src := none, pool := p }
    else (firstFree used cap 0).map (fun q =>
      { page := q, fresh := true, src := some g,
        pool := if lv = m then (p.insert m i q).drop g else p.insert m i q })

/-- A new map with no parent, owned once; none when all `cap` are in use (R78). -/
def Pool.create (p : Pool) (cap : Nat) : Option (Nat × Pool) :=
  (firstFree (fun m => (p.map? m).isSome) cap 0).map (fun m =>
    (m, { p with maps := put p.maps m { parent := none, depth := 1, count := 1, owned := true, ents := [] } }))

/-- `n` free map ids of `cap`. -/
def Pool.freeMaps (p : Pool) (cap n : Nat) : List Nat :=
  let rec go (fuel i n : Nat) (acc : List Nat) : List Nat :=
    match fuel with
    | 0 => acc.reverse
    | fuel + 1 =>
      if n = 0 then acc.reverse
      else if (p.map? i).isSome then go fuel (i + 1) n acc
      else go fuel (i + 1) (n - 1) (i :: acc)
  go cap 0 n []

/-- Why a fork fails (R80). -/
inductive ForkErr
  | depth | nomap
deriving DecidableEq, Repr

/-- `n` empty children of a map (R80). -/
def Pool.fork (p : Pool) (cap m n : Nat) : Except ForkErr (List Nat × Pool) :=
  match p.map? m with
  | none => .error .nomap
  | some x =>
    if 4 ≤ x.depth then .error .depth
    else
      let ids := p.freeMaps cap n
      if ids.length < n then .error .nomap
      else
        let child : OMap := { parent := some m, depth := x.depth + 1, count := 1, owned := true, ents := [] }
        .ok (ids, { p with maps := ids.foldl (fun a i => put a i child) (put p.maps m { x with count := x.count + n }) })

/-- A map's count lowered by one; at zero it is freed, its pages lowered and its parent in turn (R82). -/
def Pool.lower (p : Pool) : Nat → Nat → Pool
  | 0, _ => p
  | fuel + 1, m =>
    match p.map? m with
    | none => p
    | some x =>
      if 1 < x.count then { p with maps := put p.maps m { x with count := x.count - 1 } }
      else
        let q := x.ents.foldl (fun a e => a.drop e.2) { p with maps := del p.maps m }
        match x.parent with
        | some up => q.lower fuel up
        | none => q

/-- A map released by its owner (R82). -/
def Pool.release (p : Pool) (m : Nat) : Pool :=
  match p.map? m with
  | none => p
  | some x =>
    if x.owned then ({ p with maps := put p.maps m { x with owned := false } } : Pool).lower 5 m else p

/-- The depths of a map's descendants, computed again from the maps' parents (R83). -/
def Pool.depthOf (p : Pool) : Nat → Nat → Nat
  | 0, _ => 1
  | fuel + 1, m =>
    match p.map? m with
    | some x => (match x.parent with | some q => 1 + p.depthOf fuel q | none => 1)
    | none => 1

/-- Flatten (R83): every visible index becomes an entry of the map, the parent is released, and the
depths below fall. -/
def Pool.flatten (p : Pool) (m : Nat) : Pool :=
  match p.map? m with
  | none => p
  | some x =>
    let vis := p.visible 4 m
    let taken := vis.filter (fun e => (look x.ents e.1).isNone)
    let pages := taken.foldl (fun a e => put a e.2 (lookD a e.2 0 + 1)) p.pages
    let q : Pool := { maps := put p.maps m { x with ents := vis, parent := none, depth := 1 }, pages := pages }
    let r := match x.parent with | some up => q.lower 5 up | none => q
    { r with maps := r.maps.map (fun e => (e.1, { e.2 with depth := r.depthOf 4 e.1 })) }

/-- Pages that a map's own entries name. -/
def Pool.ownPages (p : Pool) (m : Nat) : Nat := ((p.map? m).map (fun x => x.ents.length)).getD 0

/-! ### Bytes of a page moved -/

/-- A range of memory made to read zero. -/
def memClear (m : List Host.Cell) (a n : Nat) : List Host.Cell :=
  m.filter (fun c => !(decide (a ≤ c.1) && decide (c.1 < a + n)))

/-- The listed bytes of a range. -/
def memSlice (m : List Host.Cell) (a n : Nat) : List Host.Cell :=
  m.filter (fun c => decide (a ≤ c.1) && decide (c.1 < a + n))

/-- A range of memory copied to another place. -/
def memCopy (m : List Host.Cell) (dst src n : Nat) : List Host.Cell :=
  (memSlice m src n).foldl (fun a c => memSet a (dst + (c.1 - src)) c.2) (memClear m dst n)

/-- The poison marks of a range. -/
def poisonOff (p : List Nat) (a n : Nat) : List Nat :=
  p.filter (fun w => !(decide (a / 8 ≤ w) && decide (w < (a + n + 7) / 8)))

/-- The poison marks of a range copied to another place. -/
def poisonCopy (p : List Nat) (dst src n : Nat) : List Nat :=
  poisonOff p dst n ++
    ((p.filter (fun w => decide (src / 8 ≤ w) && decide (w < (src + n) / 8))).map (fun w => dst / 8 + (w - src / 8)))

end Sys2Proof.Machine
end

