-- ==== Sys2Proof/Machine/StateSpace.lean ====
section
/-!
DEFINITION. Machine/StateSpace.lean: state space as every agent looks it up: the entry that a stream id names,
whom it is reached by, the pages of a die, and the first cause of R104 that an access to it meets (04 R95,
R100 to R104, 17 R392, R393).
-/

namespace Sys2Proof.Machine

/-- Page frames of a die's hearth (R100). -/
def hearthFrames : Nat := 6144

/-- The die of a stream id. -/
def sidDie (sid : Nat) : Nat := fld sid 16 14
/-- The entry of a stream id. -/
def sidEntry (sid : Nat) : Nat := fld sid 13 0

/-- The entry that a stream id names, whatever its grid. -/
def State.sEnt (s : State) (sid : Nat) : Option Stream :=
  if 2 ^ 17 ≤ sid then none else look (s.die (sidDie sid)).streams (sidEntry sid)

/-- Whether a stream is reached by a grid: its own, or any of its ASID when it is persistent (R102,
R404). -/
def Stream.reachedBy (e : Stream) (gid asid : Nat) : Bool := e.gid == gid || (e.pers && e.asid == asid)

/-- The entry that an access names, when it names one of its grid. -/
def State.stream? (s : State) (a : Access) (sid : Nat) : Option Stream :=
  (s.sEnt sid).filter (fun e => e.reachedBy a.gid a.asid)

/-- Slots of a die's spill area, 32 KiB each (R103, R441). -/
def State.spillSlots (s : State) (d : Nat) : Nat := (lookD s.plat.hearthArea d (0, 0)).2 / 2 ^ 15

/-- Physical state pages of a die (R103). -/
def State.statePages (s : State) (d : Nat) : Nat := hearthFrames + s.spillSlots d

/-- Whether a stream's state may be read (R102). -/
def Stream.readable (e : Stream) : Bool := e.status != .done && e.status != .pruned && e.status != .free

/-- Whether any byte of a range is poisoned (R59, R422). -/
def State.bad (s : State) (a n : Nat) : Bool :=
  s.poison.any (fun w => decide (a / 8 ≤ w) && decide (w ≤ (a + n - 1) / 8))

/-- The first cause that a plain access of `n` bytes to a stream's state meets, with its detail, in the order of
R104 (R102, R80, R81, R422). -/
def State.stateCause (s : State) (gid asid ea n : Nat) (store : Bool) : Option (Cause × Nat) :=
  let sid := ea / 2 ^ 23
  let off := ea % 2 ^ 23
  match (s.sEnt sid).filter (fun e => e.reachedBy gid asid) with
  | none => some (.stateDead, 0)
  | some e =>
    let x := s.die (sidDie sid)
    if !e.readable then some (.stateDead, 0)
    else if off % n ≠ 0 then some (.memAlign, 0)
    else if store then
      if e.mig || x.pool.frozen e.map then some (.ovlFrozen, 0)
      else if (x.pool.write (s.statePages (sidDie sid)) [] e.map (off / 2 ^ 15)).isNone then some (.ovlNopage, 0)
      else none
    else
      match x.pool.find e.map (off / 2 ^ 15) with
      | some (g, _) => if s.bad (hearthKey (sidDie sid) g (off % 2 ^ 15)) n then some (.memUe, 3 * 2 ^ 56) else none
      | none => none

end Sys2Proof.Machine
end

