-- ==== Sys2Proof/Machine/Access.lean ====
section
/-!
DEFINITION. Machine/Access.lean: how an access of a task is formed and sent: translation through the
cell TLB (03 R60 to R74), the checks of R104, the L1 (04 R87 to R93), releases and acquires
(06 R145 to R147), set touches and commit buffers (07 R165, R174 to R177).
-/

namespace Sys2Proof.Machine

/-! ### Translation: entries and their checks -/

/-- The detail word of R71; KIND 4 here stands for an access that needs no permission. -/
def xltDetail (lvl kind addr : Nat) : Nat := lvl % 16 * 2 ^ 60 + kind % 4 * 2 ^ 56 + addr % 2 ^ 52 / 8 * 8

/-- Whether a KIND writes (R66). -/
def kindWrites (kind : Nat) : Bool := kind == 1 || kind == 2

/-- Whether a frame's region allows a memory type (R56, R64). -/
def typeAllowed (pa mt : Nat) : Bool := if mt = 2 then inWindow pa else decide (mt < 2) && inGlobal pa

/-- Whether permissions allow a KIND (R65). -/
def permits (r w x : Bool) (mt kind : Nat) : Bool :=
  if kind = 0 then r else if kind = 1 then w else if kind = 2 then r && w else if kind = 3 then x && mt == 0 else true

/-- The bits of the page offset of a leaf at a level (R60). -/
def leafBits (lvl : Nat) : Nat := 12 + 9 * lvl

/-- The checks of R69 on an entry at a level: its first cause, or none. -/
def pteFault (e lvl kind : Nat) : Option Cause :=
  if !bit e 0 then some .xltInvalid
  else if fld e 58 52 ≠ 0 then some .xltRsvd
  else if 3 ≤ lvl && bit e 1 then some .xltRsvd
  else if lvl = 0 || bit e 1 then
    if 1 ≤ lvl && fld e (11 + 9 * lvl) 12 != 0 then some .xltRsvd
    else if fld e 7 6 = 3 then some .xltRsvd
    else if !typeAllowed (fld e 51 12 * 4096) (fld e 7 6) then some .xltPhys
    else if !permits (bit e 2) (bit e 3) (bit e 4) (fld e 7 6) kind then some .xltPerm
    else none
  else if !inGlobal (fld e 51 12 * 4096) then some .xltPhys
  else none

/-- Whether a valid entry at a level is a leaf (R63). -/
def pteLeaf (e lvl : Nat) : Bool := lvl == 0 || bit e 1

/-- The address of the entry of a table at a level (R69). -/
def pteAddr (table lvl va : Nat) : Nat := table + 8 * fld va (20 + 9 * lvl) (12 + 9 * lvl)

/-- The translation that a leaf gives (R72). -/
def leafEnt (asid va e lvl addr : Nat) (dirty : Bool) : TlbEnt :=
  { asid := asid, glob := bit e 10, size := leafBits lvl, vpn := va / 2 ^ leafBits lvl, frame := fld e 51 12 * 4096,
    read := bit e 2, write := bit e 3, exec := bit e 4, mtype := fld e 7 6, ue := bit e 11, dirty := dirty, leaf := addr }

/-- The sixteen entries of a contiguous group, from memory (R67). -/
def groupOf (m : List Host.Cell) (table va : Nat) : List Nat :=
  (List.range 16).map (fun j => memRead m (table + 8 * (fld va 20 12 / 16 * 16 + j)) 8)

/-- Whether a group merges into a 64 KiB page (R67). -/
def merges (l : List Nat) : Bool :=
  let low (e : Nat) : Nat := e % 2 ^ 12 - (fld e 9 8) * 2 ^ 8
  match l with
  | [] => false
  | e0 :: _ =>
    fld e0 51 12 % 16 == 0 &&
      (List.range 16).all (fun j => match l[j]? with
        | some e => bit e 0 && bit e 5 && low e == low e0 && fld e 51 12 == fld e0 51 12 + j
        | none => false)

/-- The translation with a 64 KiB page in place of the 4 KiB one, when its group merges (R67). -/
def mergeEnt (m : List Host.Cell) (table va : Nat) (t : TlbEnt) : TlbEnt × Bool :=
  let g := groupOf m table va
  if merges g then
    ({ t with size := 16, vpn := va / 2 ^ 16, frame := fld (g.headD 0) 51 12 * 4096 }, true)
  else (t, false)

/-- A leaf entry with ACC, or ACC and DIRTY, set in memory (R66). -/
def accDirty (m : List Host.Cell) (addr e kind : Nat) : List Host.Cell :=
  memPut m addr (bytesOf 8 (Nat.lor e (if kindWrites kind then 2 ^ 8 + 2 ^ 9 else 2 ^ 8)))

/-- The context entry's ROOT, when V is set (R61, R439). -/
def ctxRoot (ctx : Map Nat) (asid : Nat) : Option Nat :=
  let e := lookD ctx asid 0
  if bit e 0 then some (fld e 51 12 * 4096) else none

/-- A translation fault as a trap at no particular instruction (R70, R71). -/
def xltTrap (cause : Cause) (va lvl kind addr : Nat) : Trap :=
  { cause := cause, pc := 0, addr := va, detail := xltDetail lvl kind addr }

/-- The physical address under a translation. -/
def TlbEnt.pa (e : TlbEnt) (va : Nat) : Nat := e.frame + va % 2 ^ e.size

/-- The first entry that matches (R72). -/
def tlbFind (l : List TlbEnt) (asid va : Nat) : Option TlbEnt :=
  l.find? (fun e => (e.glob || e.asid == asid) && va / 2 ^ e.size == e.vpn)

/-- Whether two entries are of one page of one ASID. -/
def sameEnt (a b : TlbEnt) : Bool := a.asid == b.asid && a.glob == b.glob && a.size == b.size && a.vpn == b.vpn

/-- An entry put first, the list held to a length (R72). -/
def tlbPut (cap : Nat) (l : List TlbEnt) (e : TlbEnt) : List TlbEnt :=
  (e :: l.filter (fun x => !sameEnt x e)).take cap

/-! ### The executing task -/

/-- The executing task's grid; 0 when there is none. -/
def State.gid (s : State) : Nat := (s.b.task.map (·.gid)).getD 0
/-- The launch record of the executing task's grid. -/
def State.myLr (s : State) : Nat := s.lr s.gid
/-- The executing task's ASID. -/
def State.asid (s : State) : Nat := asidOf s.myLr
/-- The id of the message that started the executing task. -/
def State.msgid (s : State) : Nat := (s.b.task.map (·.msg.id)).getD 0
/-- Whether the executing task holds a set (R174). -/
def State.holder (s : State) : Bool := ((s.b.task.map (·.slots)).getD []).any (fun e => e.2.held)
/-- The executing bank as a party that waits for an answer. -/
def State.who (s : State) : Who :=
  { cell := s.cur.cell, hi := s.cur.hi, act := s.act, msgid := s.msgid, gid := s.gid }
/-- An access of the executing task. -/
def State.acc (s : State) (ea : Nat) (loc : Loc) (n : Nat) (op : AOp) : Access :=
  { cell := s.cur.cell, hi := s.cur.hi, gid := s.gid, asid := s.asid, msgid := s.msgid, act := s.act,
    pc := s.b.pc.toNat, ea := ea, loc := loc, n := n, op := op, insn := insnAt s.b s.b.pc.toNat }

/-- A translation asked for, unless one is under way (R73). -/
def State.ask (s : State) (va kind : Nat) : State :=
  if (s.b.task.bind (·.xwait)).isSome then s
  else
    (s.send s.cur.cell (.look { asid := s.asid, va := va, kind := kind, cell := s.cur.cell, hi := s.cur.hi, act := s.act, rep := s.cur.rep, gid := s.gid })).mapT
      (fun k => { k with xwait := some s.serial })

/-- The DIRTY update of R66 asked for, unless a translation is under way. -/
def State.askDirty (s : State) (e : TlbEnt) (va kind : Nat) : State :=
  if (s.b.task.bind (·.xwait)).isSome then s
  else
    (s.send s.cur.cell
      (.dirty { asid := s.asid, va := va, kind := kind, cell := s.cur.cell, hi := s.cur.hi, act := s.act, rep := s.cur.rep, gid := s.gid } e)).mapT
      (fun k => { k with xwait := some s.serial })

/-- The physical address of the leaf entry for an address: in a 64 KiB page that of its 4 KiB frame (R67). -/
def TlbEnt.leafAt (e : TlbEnt) (va : Nat) : Nat := if e.size = 16 then e.leaf / 128 * 128 + 8 * fld va 15 12 else e.leaf

/-- The level of a cached leaf. -/
def TlbEnt.level (e : TlbEnt) : Nat := if e.size < 21 then 0 else (e.size - 12) / 9

/-- The translation that the executing instruction may use: its cell's, or one received for the instruction itself
(R72, R73). -/
def State.xlFind (s : State) (va : Nat) : Option TlbEnt :=
  (tlbFind (s.cell s.cur.cell).tlb s.asid va).orElse (fun _ =>
    tlbFind ((s.b.task.map (·.xheld)).getD []) s.asid va)

/-- The translation of an address for the executing task: an entry, or the state that waits for one
or has trapped (R60, R65, R66, R70, R73). -/
def State.xl (s : State) (va kind : Nat) : Except State TlbEnt :=
  if 2 ^ 57 ≤ va then .error (s.trap .xltCanon va (xltDetail 15 kind 0))
  else
    match s.xlFind va with
    | none => .error (s.ask va kind)
    | some e =>
      if !permits e.read e.write e.exec e.mtype kind then
        .error (s.trap .xltPerm va (xltDetail e.level kind (e.leafAt va)))
      else if kindWrites kind && !e.dirty then .error (s.askDirty e va kind)
      else .ok e

/-- The entry that translates an address made the most recent of its cell's TLB (R72). -/
def State.tlbUse (s : State) (va : Nat) : State :=
  match tlbFind (s.cell s.cur.cell).tlb s.asid va with
  | some e => s.mapCell s.cur.cell (fun x => { x with tlb := e :: x.tlb.erase e })
  | none => s

/-! ### Where an access goes (R95, R96, R104) -/

/-- The place of an access: its serialisation point, memory type, and the address by which sets and
commit buffers know it (R162, R174). -/
structure Spot where
  loc : Loc
  mt : Nat := 0
  /-- known to sets: 0 .g, 1 .d, 2 neither -/
  sp : Nat := 2
  key : Nat := 0
deriving DecidableEq, Repr

/-- The place of a scratchpad access: a cell of another die has no .d form and is known to no set. -/
def padSpot (own cell off : Nat) : Spot :=
  if dieOf cell = dieOf own then { loc := .port cell off, sp := 1, key := idxOf cell * 2 ^ 18 + off }
  else { loc := .port cell off }

/-- The checks of R104 that a cell makes, in order: form, grid, alignment, translation. -/
def State.resolve (s : State) (sp : Space) (ea n kind : Nat) : Except State Spot :=
  let aligned (p : Except State Spot) : Except State Spot :=
    if ea % n ≠ 0 then .error (s.trap .memAlign ea 0) else p
  match sp with
  | .g =>
    if 2 ^ 57 ≤ ea then .error (s.trap .xltCanon ea (xltDetail 15 kind 0))
    else aligned
      (match s.xl ea kind with
       | .error t => .error t
       | .ok e =>
         if kind = 2 && e.mtype == 2 then .error (s.trap .xltPerm ea (xltDetail e.level 2 (e.leafAt ea)))
         else if e.ue && (kind == 0 || kind == 2) then .error (s.trap .memUe ea (4 * 2 ^ 56))
         else .ok { loc := if e.mtype = 2 then .host (e.pa ea) else .home (e.pa ea), mt := e.mtype, sp := 0, key := ea })
  | .l =>
    if 2 ^ 18 ≤ ea then .error (s.trap .addrRange ea 0) else aligned (.ok (padSpot s.cur.cell s.cur.cell ea))
  | .c =>
    if 2 ^ 22 ≤ ea then .error (s.trap .addrRange ea 0)
    else
      let c := cellIn (gcluOf s.cur.cell) (fld ea 21 18)
      if !inRect s.myLr c then .error (s.trap .addrGrid ea 0) else aligned (.ok (padSpot s.cur.cell c (ea % 2 ^ 18)))
  | .d =>
    if 2 ^ 28 ≤ ea then .error (s.trap .addrRange ea 0)
    else
      let c := cellAt (dieOf s.cur.cell) (fld ea 27 18)
      if !inRect s.myLr c then .error (s.trap .addrGrid ea 0) else aligned (.ok (padSpot s.cur.cell c (ea % 2 ^ 18)))
  | .s =>
    if 2 ^ 40 ≤ ea then .error (s.trap .addrRange ea 0)
    else .ok { loc := .hearth (ea / 2 ^ 23) (ea % 2 ^ 23) }

/-- The translation of an access used: it becomes the most recent (R72). -/
def State.used (s : State) (p : Spot) (ea : Nat) : State := if p.sp = 0 then s.tlbUse ea else s

/-! ### Sets (R162, R165, R166) -/

/-- Whether an access of `n` bytes touches a declared set (R162). -/
def touches (p : Spot) (n : Nat) (e : SetSlot) : Bool :=
  decide (p.sp = (if e.dsp then 1 else 0)) && decide (p.key < e.base + 64 * 2 ^ e.sz) && decide (e.base < p.key + n)

/-- The executing task's declared sets. -/
def State.slots (s : State) : Map SetSlot := (s.b.task.map (·.slots)).getD []

/-- Whether an access lies in a set that the task holds. -/
def State.inHeld (s : State) (p : Spot) (n : Nat) : Bool := s.slots.any (fun e => e.2.held && touches p n e.2)

/-- A set asked for at its lock entry (R165, R166, R170). -/
def State.askSet (s : State) (slot : Nat) (e : SetSlot) (place : Nat) : State :=
  let k := s.b.task
  let who : Party := { cell := s.cur.cell, hi := s.cur.hi, act := s.act, age := (k.map (·.msg.age)).getD 0,
                       msgid := s.msgid, gid := s.gid, slot := slot }
  (s.send s.cur.cell (.lock { asid := s.asid, dsp := e.dsp, base := e.base, sz := e.sz, place := place, who := who,
                              release := false })).mapT
    (fun k => { k with
      slots := put k.slots slot { e with asked := true, place := some place }
      waitFrom := k.waitFrom.orElse (fun _ => some s.gt.toNat) }.exclude s.gt.toNat)

/-- The executing task's declared sets in the ascending order of their slots. -/
def State.slotsInOrder (s : State) : Map SetSlot :=
  (List.range 4).filterMap (fun n => (look s.slots n).map (fun e => (n, e)))

/-- The sets that some accesses touch: all held, or the state that asks for the first of them that is not, in the order
of the slots, and waits (R165). -/
def State.withSets (s : State) (ps : List (Spot × Nat)) : Except State Unit :=
  match s.slotsInOrder.find? (fun e => !e.2.held && ps.any (fun p => touches p.1 p.2 e.2)) with
  | none => .ok ()
  | some (n, e) =>
    if e.asked then .error s
    else if e.dsp then .error (s.askSet n e (padKey (cellAt (dieOf s.cur.cell) (e.base / 2 ^ 18)) (e.base % 2 ^ 18)))
    else
      match s.xl e.base 0 with
      | .error t => .error t
      | .ok x => .error ((s.tlbUse e.base).askSet n e (x.pa e.base))

/-- An instruction that a holder may not issue (R174). -/
def State.irrev (s : State) (addr : Nat) (f : State) : State := if s.holder then s.trap .asetIrrev addr 0 else f

/-! ### Byte masks -/

/-- A mask of `n` bytes as a mask of bits. -/
def expand (n m : Nat) : Nat :=
  match n with
  | 0 => 0
  | n + 1 => (if m % 2 = 1 then 255 else 0) + 256 * expand n (m / 2)

/-- The bytes of `new` where the mask has bits, and of `old` elsewhere. -/
def blend (n old new m : Nat) : Nat :=
  match n with
  | 0 => 0
  | n + 1 => (if m % 2 = 1 then new % 256 else old % 256) + 256 * blend n (old / 256) (new / 256) (m / 2)

/-- A mask of `n` bytes all set. -/
def fullMask (n : Nat) : Nat := 2 ^ n - 1

/-- The bytes of some 64-bit words of a line, as a byte mask. -/
def wordBytes (m : Nat) : Nat := (List.range 8).foldl (fun a i => if bit m i then a + 255 * 2 ^ (8 * i) else a) 0

/-- The 64-bit words of a line of which a byte mask names any byte. -/
def wordsOf (m : Nat) : Nat := (List.range 8).foldl (fun a i => if m / 2 ^ (8 * i) % 256 = 0 then a else a + 2 ^ i) 0

/-- The poisoned words that a write of some bytes of a line leaves: one whose eight bytes it writes is clean
again (R422). -/
def badAfter (bad mask : Nat) : Nat :=
  (List.range 8).foldl (fun a i => if bit bad i && mask / 2 ^ (8 * i) % 256 != 255 then a + 2 ^ i else a) 0

/-! ### The L1 (R87 to R93) -/

/-- Whether a cell's cluster is fused (R93). -/
def State.fused (s : State) (c : Nat) : Bool := (s.cluster (gcluOf c)).fused

/-- The cell whose L1 holds a line for a cell (R93). -/
def State.l1Cell (s : State) (c pa : Nat) : Nat := if s.fused c then cellIn (gcluOf c) (fld pa 9 6) else c

/-- The cells whose L1s make up a cell's L1 (R93). -/
def State.l1Cells (s : State) (c : Nat) : List Nat :=
  if s.fused c then (List.range 16).map (cellIn (gcluOf c)) else [c]

/-- The line of an L1 list that holds a line address. -/
def l1Find (l : List L1Line) (pa : Nat) : Option L1Line := l.find? (fun x => x.pa == pa / 64 * 64)

/-- The line that holds a physical address in a cell's L1. -/
def State.l1Look (s : State) (c pa : Nat) : Option L1Line := l1Find (s.cell (s.l1Cell c pa)).l1 pa

/-- The set of a line: PA[12:6], or PA[16:10] in a fused L1 (R87, R93). -/
def l1Set (fused : Bool) (pa : Nat) : Nat := if fused then fld pa 16 10 else fld pa 12 6

/-- A write of a line's dirty bytes on its way to the home slice, with the message of the task that wrote them
last (R90, R92, R99); a write of bytes that are not consecutive names the line's own address (log 78). -/
def wbAccess (c gid asid : Nat) (x : L1Line) : Access :=
  { cell := c, hi := false, task := false, gid := gid, asid := asid, msgid := x.msgid, act := 0, pc := 0, ea := x.pa,
    loc := .home x.pa, n := 64, op := .store x.data x.dirty 2, bad := Nat.land x.bad (wordsOf x.dirty) }

/-- A line's dirty bytes sent to the home slice, counted in L1_WB (R90, R92). -/
def State.writeBack (s : State) (c : Nat) (x : L1Line) : State :=
  if x.dirty = 0 then s
  else
    let g := (s.cell c).grid.getD 0
    (s.send c (.access (wbAccess c g (asidOf (s.lr g)) x))).countCell c 4

/-- A line dropped from a cell's L1. -/
def State.l1Drop (s : State) (c pa : Nat) : State :=
  s.mapCell (s.l1Cell c pa) (fun x => { x with l1 := x.l1.filter (fun l => l.pa != pa / 64 * 64) })

/-- The lines that leave a set of an L1, the most recent first, to keep it at seven: the least recently used of
those not favoured first (R87, R105, R108, log 79). -/
def l1Victims (same : List L1Line) : List L1Line :=
  let old := same.reverse
  (old.filter (!·.keep) ++ old.filter (·.keep)).take (same.length - 7)

/-- A line put first in its L1; when seven others of its set stand there another is evicted, its dirty bytes sent
home (R87, R92). -/
def State.l1Put (s : State) (c : Nat) (x : L1Line) : State :=
  let h := s.l1Cell c x.pa
  let f := s.fused c
  let others := (s.cell h).l1.filter (fun l => l.pa != x.pa)
  let out := l1Victims (others.filter (fun l => l1Set f l.pa == l1Set f x.pa))
  let s1 := out.foldl (fun s l => s.writeBack h l) s
  s1.mapCell h (fun y => { y with l1 := x :: others.filter (fun l => !out.contains l) })

/-- An L1 line that holds nothing. -/
def L1Line.empty (pa : Nat) (clus : Bool) : L1Line := { pa := pa / 64 * 64, valid := 0, dirty := 0, clus := clus, data := 0 }

/-- Bytes written into the L1 as dirty under a tag; an absent line is allocated with them alone
(R88, R89). -/
def State.l1Write (s : State) (c pa mask data : Nat) (clus : Bool) (msgid : Nat) : State :=
  let x := (s.l1Look c pa).getD (.empty pa clus)
  s.l1Put c { x with valid := Nat.lor x.valid mask, dirty := Nat.lor x.dirty mask, clus := clus,
                     data := blend 64 x.data data mask, msgid := msgid, bad := badAfter x.bad mask }

/-- The mask and data of an access of `n` bytes placed in its line. -/
def inLine (pa x : Nat) : Nat := x * 2 ^ (8 * (pa % 64))
/-- A byte mask placed in its line. -/
def maskIn (pa m : Nat) : Nat := m * 2 ^ (pa % 64)

/-- The dirty lines of a cell's own L1 that a test selects written back, and clean from then on (R90, R92). -/
def State.clean (s : State) (h : Nat) (p : L1Line → Bool) : State :=
  let due := (s.cell h).l1.filter (fun l => l.dirty != 0 && p l)
  let s := due.foldl (fun s l => s.writeBack h l) s
  s.mapCell h (fun x => { x with l1 := x.l1.map (fun l => if due.contains l then { l with dirty := 0 } else l) })

/-- The L1 lines written back by a release at a scope (R90 step 1). -/
def State.flushTags (s : State) (c : Nat) (sc : Scope) : State :=
  (s.l1Cells c).foldl (fun s h => s.clean h (fun l => Scope.lt (if l.clus then .clus else .cell) sc)) s

/-- Every line of a cell's own L1 written back and dropped (R93). -/
def State.flushAll (s : State) (c : Nat) : State :=
  ((s.cell c).l1.foldl (fun s l => s.writeBack c l) s).mapCell c (fun x => { x with l1 := [] })

/-- Whether an access returns its whole line, for the L1 (R87, R105). -/
def AOp.wholeLine : AOp → Bool
  | .load _ f => f != .none
  | _ => false

/-- A load that leaves the L1 as it is. -/
def AOp.noFill : AOp → AOp
  | .load r _ => .load r .none
  | o => o

/-- The key of a place in memory; a state-space place has none of its own. -/
def Loc.key : Loc → Nat
  | .home pa => pa
  | .host pa => pa
  | .port c off => padKey c off
  | .hearth _ _ => 0

/-- The bytes of a returned line that an access asked for. -/
def Access.cut (a : Access) (line : Nat) : Nat := line / 2 ^ (8 * (a.loc.key % 64)) % 2 ^ (8 * a.n)

/-- An answer on its way back to some cells that is to place no line in their L1, when a test holds of its
access: its own bytes are delivered all the same. -/
def Fly.unfill (own : List Nat) (p : Access → Bool) (f : Fly) : Fly :=
  match f.f with
  | .reply a d t =>
    if a.op.wholeLine && own.contains a.cell && p a then { f with f := .reply { a with op := a.op.noFill } (a.cut d) t } else f
  | _ => f

/-- The clean lines of some L1s discarded, and the lines on their way to them, which left their home slices before
now (R91, R143). -/
def State.dropClean (s : State) (own : List Nat) : State :=
  let t := own.foldl (fun s h => s.mapCell h (fun x => { x with l1 := x.l1.filter (fun l => l.dirty != 0) })) s
  { t with fly := t.fly.map (Fly.unfill own (fun _ => true)) }

/-- The clean lines of the L1 discarded by an acquire at a scope (R91). -/
def State.acquire (s : State) (c : Nat) (sc : Scope) : State :=
  match sc with
  | .cell => s
  | .clus => if s.fused c then s else s.dropClean [c]
  | _ => s.dropClean (s.l1Cells c)

/-! ### Releases (R90, R146) -/

/-- Whether a store of some kind. -/
def AOp.isStore : AOp → Bool
  | .store _ _ _ => true
  | _ => false

/-- Whether an operation may write where it is served. -/
def AOp.writes : AOp → Bool
  | .store _ _ _ | .atomic _ _ _ _ | .cas _ _ _ _ | .amof _ _ _ _ | .binit | .bpost _ | .advance _ _ _ _ => true
  | _ => false

/-- Whether an access goes to global memory or the host window. -/
def Loc.isGlobal : Loc → Bool
  | .home _ => true
  | .host _ => true
  | _ => false

/-- Whether an access only fills a cache. -/
def AOp.isPrefetch : AOp → Bool
  | .load .prefetch _ => true
  | _ => false

/-- The register that an answer writes. -/
def Ret.dst? : Ret → Option RegSpec
  | .reg d _ => some d
  | .vec d => some d
  | .lane d _ _ => some d
  | _ => Option.none

/-- What an answer is delivered to (R105, R159). -/
def AOp.ret : AOp → Ret
  | .load r _ => r
  | .atomic _ ty _ d => .reg d ty
  | .cas ty _ _ d => .reg d ty
  | .amof _ ty _ d => .reg d ty
  | .btest d => .reg d .i64
  | .advance _ _ _ d => .reg d .i64
  | .hstat d => .reg d .i64
  | .hbind _ _ d => .reg d .i64
  | .stream _ d _ => .reg d .i64
  | _ => .none

/-- Whether a flight is a load of an activation, or another access that returns a value, still to return (R146, R147). -/
def loadOf (act : Nat) (f : Flight) : Bool :=
  match f with
  | .access a | .fill a | .reply a _ _ => a.task && a.act == act && a.op.ret.dst?.isSome
  | _ => false

/-- Whether every older load of an activation has returned its value (R146 step 1). -/
def State.loadsBack (s : State) (act mark : Nat) : Bool := s.fly.all (fun f => !(decide (f.n < mark) && loadOf act f.f))

/-- Whether a release by an activation of a cell waits for an access: the cell's writes to global memory,
the write-backs of the L1 that it uses, in a fused cluster all sixteen parts of it, the writes that carry bytes of
that L1 with them, and every access of the task itself (R89, R90, R93, R146). -/
def relWaits (own : List Nat) (c act : Nat) (a : Access) : Bool :=
  !a.op.isPrefetch &&
    ((a.loc.isGlobal && a.op.isStore && (a.cell == c || ((!a.task || a.carry) && own.contains a.cell))) || (a.task && a.act == act))

/-- The access that a flight carries. -/
def Flight.acc? : Flight → Option Access
  | .access a => some a
  | .fill a => some a
  | .reply a _ _ => some a
  | .ack a => some a
  | _ => none

/-- Whether a release waits for a flight. -/
def relFlight (own : List Nat) (c act : Nat) (f : Flight) : Bool :=
  match f.acc? with
  | some a => relWaits own c act a
  | none => false

/-- Whether every older access that a release waits for has been answered. -/
def State.relClear (s : State) (c act mark : Nat) : Bool :=
  s.fly.all (fun f => !(decide (f.n < mark) && relFlight (s.l1Cells c) c act f.f))

/-- The release of the executing instruction at a scope: once the task's earlier loads have returned their values its
write-backs are sent, once, and it is complete, or the state waits (R146). -/
def State.release (s : State) (sc : Scope) : Except State State :=
  match s.b.task with
  | none => .ok s
  | some k =>
    match k.rel with
    | some m => if s.relClear s.cur.cell k.act m then .ok s else .error s
    | none =>
      if !s.loadsBack k.act s.serial then .error s
      else
        let s1 := s.flushTags s.cur.cell sc
        let s2 := s1.mapT (fun k => { k with rel := some s1.serial })
        if s2.relClear s.cur.cell k.act s1.serial then .ok s2 else .error s2

/-! ### Releases whose instruction has gone on (R145, R146, R156) -/

/-- Whether such a release is complete. -/
def State.relDone (s : State) (c : Nat) (r : Rel) : Bool := r.sent && s.relClear c r.act r.mark

/-- A release of the executing task that its instruction does not wait for: its write-backs are sent at once when no
earlier load is under way, and else when the last has returned. Those that are complete are forgotten. -/
def State.relBegin (s : State) (cmd : Option Nat) (sc : Scope) : State :=
  let back := s.loadsBack s.act s.serial
  let t := if back then s.flushTags s.cur.cell sc else s
  let r : Rel := { act := s.act, cmd := cmd, sc := sc, mark := t.serial, sent := back }
  t.mapCell s.cur.cell (fun x => { x with rels := x.rels.filter (fun q => !t.relDone s.cur.cell q) ++ (if t.relDone s.cur.cell r then [] else [r]) })

/-- The releases of a cell that waited for loads which have returned: their write-backs are sent (R146). -/
def State.relsGo (s : State) (c : Nat) : State :=
  (s.cell c).rels.foldl (fun s r =>
    if r.sent || !s.loadsBack r.act r.mark then s
    else
      let t := s.flushTags c r.sc
      t.mapCell c (fun x => { x with rels := x.rels.map (fun q => if q = r then { r with sent := true, mark := t.serial } else q) })) s

/-- Whether the release of a FENCE of an activation is still to complete: its later writes wait (R156). -/
def State.fencing (s : State) (c act : Nat) : Bool :=
  (s.cell c).rels.any (fun r => r.cmd.isNone && r.act == act && !s.relDone c r)

/-! ### Commit buffers (R174 to R176) -/

/-- The line key of a place. -/
def Spot.line (p : Spot) : Nat := p.key / 64 * 64

/-- Where a place's line stands: the physical line or the scratchpad key, for the drain. -/
def Spot.dst (p : Spot) : Nat :=
  match p.loc with
  | .home pa => pa / 64 * 64
  | .host pa => pa / 64 * 64
  | .port c off => padKey c (off / 64 * 64)
  | .hearth _ _ => 0

/-- The buffered line of a place. -/
def commitFind (l : List CommitLine) (p : Spot) : Option CommitLine :=
  l.find? (fun x => x.dsp == (p.sp == 1) && x.key == p.line)

/-- Bytes written into the commit buffer, an entry taken at serial number `n`; none when a 129th entry would be
needed (R174). -/
def commitPut (n : Nat) (l : List CommitLine) (p : Spot) (mask data : Nat) : Option (List CommitLine) :=
  match commitFind l p with
  | some x => some (l.map (fun y => if y = x then { y with mask := Nat.lor y.mask mask, data := blend 64 y.data data mask, bad := badAfter y.bad mask } else y))
  | none =>
    if 128 ≤ l.length then none
    else some (l ++ [{ dsp := p.sp == 1, key := p.line, dst := p.dst, mask := mask, data := blend 64 0 data mask, n := n }])

/-- ASET.OVF, counted (R174). -/
def State.ovf (s : State) (ea : Nat) : State := (s.countAset s.gid 11 1).trap .asetOvf ea 0

/-- Whether a place is in the task's own per-activation frame (R174, R371). -/
def State.inFrame (s : State) (p : Spot) : Bool :=
  match p.loc with
  | .port c off =>
    c == s.cur.cell && decide (off < frameTop s.myLr s.cur.hi) && decide (frameTop s.myLr s.cur.hi ≤ off + frameBytes s.myLr)
  | _ => false

/-! ### Loads and stores of a task -/

/-- The bytes that the cell supplies to a load: dirty L1 bytes, and buffered bytes over them, as a mask
and data of `n` bytes at the access (R88, R105, R175). -/
def State.overlay (s : State) (p : Spot) (n : Nat) : Nat × Nat :=
  let l1 : Nat × Nat := match p.loc with
    | .home pa => if p.mt = 0 then (match s.l1Look s.cur.cell pa with
        | some x => (x.dirty / 2 ^ (pa % 64) % 2 ^ n, x.data / 2 ^ (8 * (pa % 64)) % 2 ^ (8 * n))
        | none => (0, 0)) else (0, 0)
    | _ => (0, 0)
  match (if p.sp = 2 then none else commitFind s.b.commit p) with
  | some x =>
    let m := x.mask / 2 ^ (p.key % 64) % 2 ^ n
    (Nat.lor l1.1 m, blend n l1.2 (x.data / 2 ^ (8 * (p.key % 64))) m)
  | none => l1

/-- A loaded value as its register receives it (R105, R159). -/
def extLoad (ty : Ty) (d : Nat) : Word :=
  if ty = .i32 ∨ ty = .i16 ∨ ty = .i8 then BitVec.ofInt 64 (sx d (Ty.width ty)) else BitVec.ofNat 64 (d % 2 ^ Ty.width ty)

/-- A returned value written where its access says (R105, R260). -/
def deliver (b : Bank) (r : Ret) (d : Nat) : Bank :=
  match r with
  | .reg dst ty => writeReg b dst (extLoad ty d)
  | .vec dst => writeVec b dst (BitVec.ofNat 512 d)
  | .lane dst i w => writeLane b dst i w d
  | .prefetch => b
  | .none => b

/-- The bytes of an L1 line for an access, when every byte is valid (R88). -/
def l1Hit (x : L1Line) (pa n : Nat) : Option Nat :=
  let m := fullMask n
  if x.valid / 2 ^ (pa % 64) % 2 ^ n = m then some (x.data / 2 ^ (8 * (pa % 64)) % 2 ^ (8 * n)) else none

/-- Whether a scope lets a load be served by the L1 (R105). -/
def l1Scope (sc : Scope) : Bool := sc == .cell || sc == .clus

/-- The bytes of an access that the task's commit buffer supplies, and those of them that are poisoned (R175,
R422). -/
def State.bufBytes (s : State) (p : Spot) (n : Nat) : Nat × Nat :=
  match (if p.sp = 2 then none else commitFind s.b.commit p) with
  | some x =>
    let cut (m : Nat) : Nat := m / 2 ^ (p.key % 64) % 2 ^ n
    (cut x.mask, cut (Nat.land x.mask (wordBytes x.bad)))
  | none => (0, 0)

/-- The bytes of a load that the L1 supplies, and those of them that are poisoned: all on a hit, else the dirty
ones (R88, R105, R422). -/
def State.l1Bytes (s : State) (p : Spot) (sc : Scope) (n : Nat) : Nat × Nat :=
  match p.loc with
  | .home pa =>
    if p.mt = 0 then
      match s.l1Look s.cur.cell pa with
      | some x =>
        let m := if l1Scope sc && (l1Hit x pa n).isSome then x.valid else x.dirty
        let cut (m : Nat) : Nat := m / 2 ^ (pa % 64) % 2 ^ n
        (cut m, cut (Nat.land m (wordBytes x.bad)))
      | none => (0, 0)
    else (0, 0)
  | _ => (0, 0)

/-- The place of R409 that a poisoned read reports. -/
def Loc.uePlace : Loc → Nat
  | .home _ => 0
  | .host _ => 0
  | .port _ _ => 1
  | .hearth _ _ => 3

/-- Whether a load would take poisoned bytes from the L1 or from the commit buffer (R422). -/
def State.localBad (s : State) (p : Spot) (sc : Scope) (n : Nat) : Bool :=
  let b := s.bufBytes p n
  let l := s.l1Bytes p sc n
  b.2 != 0 || Nat.lor l.2 b.1 != b.1

/-- The scope at which a load acts: inside a held set, die or wider (R175). -/
def State.loadScope (s : State) (p : Spot) (sc : Scope) (n : Nat) : Scope := if s.inHeld p n then Scope.wider sc .die else sc

/-- What a load of type 0 that the L1 does not serve does with its line: hint strm or byp merges it into a line that
is present, and places none (R88, R105). -/
def State.fillOf (s : State) (p : Spot) (sc : Scope) (hint : Hint) : Fill :=
  match p.loc with
  | .home pa =>
    if p.mt = 0 && l1Scope sc then
      match hint with
      | .normal => .line
      | .keep => .keep
      | _ => if (s.l1Look s.cur.cell pa).isSome then .merge else .none
    else .none
  | _ => .none

/-- A load whose checks are done: served by the L1, or sent to its serialisation point; the register is
pending until it returns (R105, R175). L1_HIT counts a load that the L1 serves, and L1_MISS every other load of
type 0, whatever its scope; stores and atomics count in neither (log 80). -/
def State.doLoad (s0 : State) (p : Spot) (sc : Scope) (hint : Hint) (ea n : Nat) (ret : Ret) (acq : Option Scope) : State :=
  let s := s0.used p ea
  let sc := s.loadScope p sc n
  let ov := s.overlay p n
  let hit : Option (Nat × L1Line) := match p.loc with
    | .home pa => if p.mt = 0 && l1Scope sc then
        (s.l1Look s.cur.cell pa).bind (fun x => (l1Hit x pa n).map (fun d => (d, x))) else none
    | _ => none
  match hit with
  | some (d, x) =>
    let s := ((s.l1Put s.cur.cell x).countCell s.cur.cell 2).mapB (fun b => deliver b ret (blend n d ov.2 ov.1))
    (match acq with | some a => s.acquire s.cur.cell a | none => s)
  | none =>
    let fill := s.fillOf p sc hint
    let s := if p.mt = 0 && p.loc.isGlobal then s.countCell s.cur.cell 3 else s
    let a : Access := { s.acc ea p.loc n (.load ret fill) with ovMask := ov.1, ovData := ov.2, acq := acq, unc := p.mt != 0 }
    (s.send s.cur.cell (.access a)).mapB (fun b => match ret.dst? with | some r => addPend b r | none => b)

/-- A load of the executing instruction (R104, R105, R106, R165, R422). -/
def State.load (s : State) (sp : Space) (sc : Scope) (hint : Hint) (ea n : Nat) (ret : Ret) (acq : Option Scope) : State :=
  match s.resolve sp ea n 0 with
  | .error t => t
  | .ok p =>
    match s.withSets [(p, n)] with
    | .error t => t
    | .ok _ =>
      if s.localBad p (s.loadScope p sc n) n then s.trap .memUe ea (p.loc.uePlace * 2 ^ 56)
      else (s.doLoad p sc hint ea n ret acq).retire

/-- A store of the executing task sent to its serialisation point. -/
def State.sendStore (s : State) (p : Spot) (ea : Nat) (loc : Loc) (n mask data kind bad : Nat) (carry : Bool := false) : State :=
  s.send s.cur.cell (.access { s.acc ea loc n (.store data mask kind) with unc := p.mt != 0, bad := bad, carry := carry })

/-- A store whose checks are done, outside a commit buffer (R89, R94, R109). `mask` and `data` are of
the `n` bytes at the access. A write-through of a plain store is of KIND 2; with a line's dirty bytes it names the
line's address (R99, log 78). `up` are the poisoned words of the line among those written, from a commit buffer
(R422). -/
def State.doStore (s0 : State) (p : Spot) (sc : Scope) (hint : Hint) (ea n mask data kind : Nat) (up : Nat := 0) : State :=
  let s := s0.used p ea
  match p.loc with
  | .home pa =>
    if p.mt = 0 then
      let sc := if l1Scope sc && (hint == .strm || hint == .byp) then Scope.die else sc
      if sc = .cell ∨ (sc = .clus ∧ s.fused s.cur.cell) then
        s.l1Write s.cur.cell pa (maskIn pa mask) (inLine pa data) (sc == .clus) s.msgid
      else
        let kind := if kind = 0 then 2 else kind
        match s.l1Look s.cur.cell pa with
        | none => s.sendStore p ea p.loc n mask data kind up
        | some x =>
          let m := maskIn pa mask
          let d := blend 64 x.data (inLine pa data) m
          let bad := Nat.lor (badAfter x.bad m) up
          let s1 := s.l1Put s.cur.cell { x with valid := Nat.lor x.valid m, dirty := 0, data := d, bad := bad }
          if x.dirty = 0 then s1.sendStore p ea p.loc n mask data kind up true
          else
            let w := Nat.lor x.dirty m
            s1.sendStore p ea (.home (pa / 64 * 64)) 64 w d kind (Nat.land bad (wordsOf w)) true
    else s.sendStore p ea p.loc n mask data kind up
  | _ => s.sendStore p ea p.loc n mask data kind up

/-- A store of the executing task, into its commit buffer when it holds a set (R174). -/
def State.putTo (s : State) (p : Spot) (sc : Scope) (hint : Hint) (ea n mask data kind : Nat) : State :=
  if !s.holder || s.inFrame p then s.doStore p sc hint ea n mask data kind
  else if p.sp = 2 ∨ p.mt = 2 then s.trap .asetIrrev ea 0
  else
    match commitPut s.serial s.b.commit p (mask * 2 ^ (p.key % 64)) (data * 2 ^ (8 * (p.key % 64))) with
    | none => s.ovf ea
    | some l => s.mapB (fun b => { b with commit := l })

/-- Whether a task's store would trap in place of being made (R174). -/
def State.putTraps (s : State) (p : Spot) : Bool :=
  s.holder && !s.inFrame p && (p.sp == 2 || p.mt == 2 || (commitPut s.serial s.b.commit p 0 0).isNone)

/-- The state in which a store of `n` bytes at an address to state space traps before a release, or before the set rule
of R174 does; the trap names the effective address `ea` (R104, R110, R261). -/
def State.stateTrap (s : State) (sp : Space) (at_ n ea : Nat) : Option State :=
  if sp = .s then (s.stateCause s.gid s.asid at_ n true).map (fun c => s.trap c.1 ea c.2) else none

/-- A store of the executing instruction (R104, R109, R113, R165, R174). -/
def State.store (s : State) (sp : Space) (sc : Scope) (hint : Hint) (ea n mask data kind : Nat) : State :=
  match s.resolve sp ea n 1 with
  | .error t => t
  | .ok p =>
    match s.withSets [(p, n)] with
    | .error t => t
    | .ok _ =>
      if s.putTraps p then (s.stateTrap sp ea n ea).getD (s.putTo p sc hint ea n mask data kind)
      else (s.putTo p sc hint ea n mask data kind).retire

end Sys2Proof.Machine
end

