-- ==== Sys2Proof/Machine/Copies.lean ====
section
/-!
DEFINITION. Machine/Copies.lean: what a tensor entry and a copy descriptor say of their elements (05 R119 to R122, R128, R130;
09 R228 to R230), the cells that a pending copy is still to write (05 R137), and the choice among ready entries (16 R375).
-/

namespace Sys2Proof.Machine

/-! ### Address forms shared with the copy descriptors (R95, R122) -/

/-- Whether an address fits the form of a space code, 5 being the package scratchpad form. -/
def fitsForm (space a : Nat) : Bool :=
  decide (a < 2 ^ (match space with | 0 => 57 | 1 => 18 | 2 => 22 | 3 => 28 | 4 => 40 | _ => 31))

/-- The cell that a scratchpad address names for a reading cell. -/
def formCell (c space a : Nat) : Nat :=
  if space = 1 then c
  else if space = 2 then cellIn (gcluOf c) (fld a 21 18)
  else if space = 3 then cellAt (dieOf c) (fld a 27 18)
  else cellAt (fld a 30 28) (fld a 27 18)

/-- Whether a space code names scratchpad. -/
def isPad (space : Nat) : Bool := space == 1 || space == 2 || space == 3 || space == 5

/-! ### Entries (R228) -/

/-- BASE. -/
def tBase (e : Nat) : Nat := fld e 511 448
/-- SCBASE. -/
def tScBase (e : Nat) : Nat := fld e 447 384
/-- DIM of a dimension. -/
def tDim (e k : Nat) : Nat := fld e (287 + 32 * k) (256 + 32 * k)
/-- STR of dimension 1, 2 or 3, signed. -/
def tStr (e k : Nat) : Int := sx (fld e (175 + 40 * (k - 1)) (136 + 40 * (k - 1))) 40
/-- POOLSTR, signed. -/
def tPoolStr (e : Nat) : Int := sx (fld e 135 96) 40
/-- TS of a dimension. -/
def tTs (e k : Nat) : Nat := fld e (47 + 16 * k) (32 + 16 * k)
/-- FMT. -/
def tFmt (e : Nat) : Nat := fld e 31 28
/-- The rank. -/
def tRank (e : Nat) : Nat := fld e 27 26 + 1
/-- SPACE. -/
def tSpace (e : Nat) : Nat := fld e 25 22
/-- SCMODE. -/
def tScMode (e : Nat) : Nat := fld e 21 20
/-- SCSPACE. -/
def tScSpace (e : Nat) : Nat := fld e 19 16
/-- POOLN. -/
def tPoolN (e : Nat) : Nat := fld e 14 11
/-- CUR. -/
def tCur (e : Nat) : Nat := fld e 9 6
/-- V. -/
def tValid (e : Nat) : Bool := bit e 10
/-- The element size z of an entry. -/
def tElem (e : Nat) : Nat := codeBytes (tFmt e)

/-- The address of an element of an entry (R229). -/
def tAddr (e i0 i1 i2 i3 : Nat) : Nat :=
  wrapN ((tBase e : Int) + (tCur e : Int) * tPoolStr e + (i0 : Int) * (tElem e : Int) + (i1 : Int) * tStr e 1 +
    (i2 : Int) * tStr e 2 + (i3 : Int) * tStr e 3) 64

/-- Whether an element exists (R229). -/
def tExists (e i0 i1 i2 i3 : Nat) : Bool :=
  decide (i0 < tDim e 0) && decide (i1 < tDim e 1) && decide (i2 < tDim e 2) && decide (i3 < tDim e 3)

/-- A quotient rounded up. -/
def ceilDiv (a b : Nat) : Nat := (a + b - 1) / b

/-- The address of an element's scale, when the entry has scales (R230). -/
def tScale (e i0 i1 i2 i3 : Nat) : Option Nat :=
  let nb := ceilDiv (tDim e 0) 128
  let row := i1 + tDim e 1 * (i2 + tDim e 2 * i3)
  match tScMode e with
  | 0 => none
  | 1 => some (tScBase e)
  | 2 => some (tScBase e + 4 * (row * nb + i0 / 128))
  | _ => some (tScBase e + 4 * ((i1 / 128 + ceilDiv (tDim e 1) 128 * (i2 + tDim e 2 * i3)) * nb + i0 / 128))

/-! ### The descriptor (R119 to R122, R130) -/

/-- TIDM. -/
def Cmd.tidm (k : Cmd) : Bool := bit k.arg 423
/-- The element type code. -/
def Cmd.ty (k : Cmd) : Nat := if k.tidm then tFmt k.ea else fld k.arg 439 436
/-- The element size z. -/
def Cmd.z (k : Cmd) : Nat := codeBytes k.ty
/-- The extent of a dimension. -/
def Cmd.ext (k : Cmd) (j : Nat) : Nat := if k.tidm then tTs k.ea j else fld k.arg (143 + 16 * j) (128 + 16 * j)
/-- The number of elements. -/
def Cmd.total (k : Cmd) : Nat := k.ext 0 * k.ext 1 * k.ext 2 * k.ext 3
/-- The space of an end: the destination when `dst`. -/
def Cmd.space (k : Cmd) (dst : Bool) : Nat :=
  if k.tidm then tSpace (if dst then k.eb else k.ea) else if dst then fld k.arg 435 432 else fld k.arg 431 428
/-- SST1 to SST3 and DST1 to DST3, signed. -/
def Cmd.stride (k : Cmd) (dst : Bool) (j : Nat) : Int :=
  let lo := 192 + 32 * (j - 1) + (if dst then 96 else 0)
  sx (fld k.arg (lo + 31) lo) 32
/-- Whether a command works from an index list (R130). -/
def Cmd.table (k : Cmd) : Bool := k.op == .cpyg || k.op == .cpys
/-- Whether an end is the table of CPYG or CPYS. -/
def Cmd.isTable (k : Cmd) (dst : Bool) : Bool := if dst then k.op == .cpys else k.op == .cpyg
/-- SST3 as the row bound (R130). -/
def Cmd.bound (k : Cmd) : Nat := fld k.arg 287 256
/-- The .l offset of index `j` (R130). -/
def Cmd.idxOff (k : Cmd) (j : Nat) : Nat := fld k.arg 241 224 + 4 * j
/-- SADDR or DADDR. -/
def Cmd.addr (k : Cmd) (dst : Bool) : Nat := if dst then fld k.arg 127 64 else fld k.arg 63 0
/-- The tensor index of index `i` of a tile, in dimension `j` (R121, R229). -/
def Cmd.tileIdx (k : Cmd) (dst : Bool) (j i : Nat) : Nat :=
  fld (k.addr dst) (15 + 16 * j) (16 * j) * tTs (if dst then k.eb else k.ea) j + i

/-- The address of an element; `i1` is the table row where the end is a table (R122, R130, R229). -/
def Cmd.at_ (k : Cmd) (dst : Bool) (i0 i1 i2 i3 : Nat) : Nat :=
  if k.tidm then
    tAddr (if dst then k.eb else k.ea) (k.tileIdx dst 0 i0) (k.tileIdx dst 1 i1) (k.tileIdx dst 2 i2) (k.tileIdx dst 3 i3)
  else
    wrapN ((k.addr dst : Int) + (i0 : Int) * (k.z : Int) + (i1 : Int) * k.stride dst 1 +
      (if k.table then 0 else (i2 : Int) * k.stride dst 2 + (i3 : Int) * k.stride dst 3)) 64

/-- Whether an element of a tile exists (R121). -/
def Cmd.exists_ (k : Cmd) (dst : Bool) (i0 i1 i2 i3 : Nat) : Bool :=
  !k.tidm || tExists (if dst then k.eb else k.ea) (k.tileIdx dst 0 i0) (k.tileIdx dst 1 i1) (k.tileIdx dst 2 i2) (k.tileIdx dst 3 i3)

/-- Elements of an end along a dimension: those that exist, or the rows of a table. -/
def Cmd.count (k : Cmd) (dst : Bool) (j : Nat) : Nat :=
  if k.tidm then
    let e := if dst then k.eb else k.ea
    Nat.min (tTs e j) (tDim e j - k.tileIdx dst j 0)
  else if j = 1 && k.isTable dst then k.bound
  else k.ext j

/-- What the element at a place of the order of R122 needs: nothing, a stop, or a move from an address,
or of zero, to an address. -/
inductive CopyEl
  | skip
  | bad (status addr : Nat)
  | move (src : Option Nat) (dst : Nat)
deriving DecidableEq, Repr

/-- The index of a row: the one read when the row was reached, or the word that stands there now (R130). -/
def State.rowIdx (s : State) (k : Cmd) (w : Work) (j : Nat) : Nat :=
  match w.row.filter (fun r => r.1 == j) with
  | some r => r.2
  | none => memRead s.mem (padKey k.cell (k.idxOff j)) 4

/-- The row of an element of CPYG or CPYS (R130). -/
def Cmd.rowOf (k : Cmd) (i : Nat) : Nat := i / k.ext 0 % k.ext 1

/-- The element at a place of the order (R121, R122, R130). -/
def State.copyEl (s : State) (k : Cmd) (w : Work) (i : Nat) : CopyEl :=
  let i0 := i % k.ext 0
  let i1 := k.rowOf i
  let i2 := i / (k.ext 0 * k.ext 1) % k.ext 2
  let i3 := i / (k.ext 0 * k.ext 1 * k.ext 2)
  if k.table then
    let x := s.rowIdx k w i1
    if x = 0xFFFFFFFF then .skip
    else if k.bound ≤ x then .bad 0x16 (k.idxOff i1)
    else .move (some (k.at_ false i0 (if k.isTable false then x else i1) 0 0)) (k.at_ true i0 (if k.isTable true then x else i1) 0 0)
  else if !k.exists_ true i0 i1 i2 i3 then .skip
  else if !k.exists_ false i0 i1 i2 i3 then (if k.op = .cpyr then .skip else .move none (k.at_ true i0 i1 i2 i3))
  else .move (some (k.at_ false i0 i1 i2 i3)) (k.at_ true i0 i1 i2 i3)

/-! ### The members of CPYM (R128) -/

/-- The address of the first element of the destination. -/
def Cmd.dst0 (k : Cmd) : Nat := k.at_ true 0 0 0 0
/-- Width of the rectangle. -/
def Cmd.memW (k : Cmd) : Nat := 2 ^ fld k.cnt 5 3
/-- Height of the rectangle. -/
def Cmd.memH (k : Cmd) : Nat := 2 ^ fld k.cnt 2 0

/-- The member cells. -/
def Cmd.members (k : Cmd) : List Nat :=
  let o := fld k.dst0 27 18
  (List.range k.memH).flatMap (fun j => (List.range k.memW).map (fun i =>
    cellAt (dieOf k.cell) (32 * (o / 32 + j) + (o % 32 + i))))

/-! ### Pending copies (R137) -/

/-- The cells that an unfinished copy is still to write. -/
def State.pendCells (s : State) (p : PendCopy) : List Nat :=
  match p.only with
  | some m => [m]
  | none =>
    if p.cmd.op = .cpym then p.cmd.members
    else if !isPad (p.cmd.space true) then []
    else
      (List.range (p.cmd.total - p.w.pos)).filterMap (fun i => match s.copyEl p.cmd p.w (p.w.pos + i) with
        | .move _ d => some (formCell p.cmd.cell (p.cmd.space true) d)
        | _ => none)

/-- Whether a grid has a pending copy to a cell, which no task of it precedes there (R137). -/
def State.pendAt (s : State) (g c : Nat) : Bool :=
  ((look s.grids g).map (·.pend)).getD [] |>.any (fun p => (s.pendCells p).contains c)

/-! ### The ready table (R373, R375) -/

/-- Key of a queue in the overflow area. -/
def spillKey (c : Nat) (hi : Bool) : Nat := 2 * c + (if hi then 1 else 0)

/-- Whether a ready entry is older than another (R169). -/
def Ready.older (a b : Ready) : Bool := Sys2Proof.Machine.older a.msg.age a.msg.id b.msg.age b.msg.id

/-- The oldest of some entries. -/
def oldest : List Ready → Option Ready
  | [] => none
  | r :: l => (match oldest l with | some q => some (if q.older r then q else r) | none => some r)

/-- The entry that a bank takes (R375). -/
def choose (l : List Ready) (lastTag : Option Nat) : Option Ready :=
  if l.any (fun r => decide (16 ≤ r.pass)) then oldest l
  else
    match oldest (l.filter (fun r => lastTag == some r.msg.handler)) with
    | some r => some r
    | none => oldest l

end Sys2Proof.Machine
end

