-- ==== Sys2Proof/Machine/Issue.lean ====
section
/-!
DEFINITION. Machine/Issue.lean: what stands before an instruction's effect. The fetch and entry checks of
02 R22 to R29 and 15 R354, the decode of R47 and R48, pairs (R27, R28, R361), the waits of the
scoreboard and the queues (R45, R101, R147, R189, R190, R290, R406), and the acquire of a token
read (R145).
-/

namespace Sys2Proof.Machine

/-- Whether a program counter's line lies in a grid's code region (R23, R354). -/
def inCode (lr pc : Nat) : Bool :=
  decide (fld lr 63 0 ≤ lineOf pc) && decide (lineOf pc < fld lr 63 0 + fld lr 95 64)

/-- The line that a bank waits to hold, when it does not hold it (R20, R25, R359). -/
def wantLine (b : Bank) : Option Nat :=
  let a := b.past.getD (lineOf b.pc.toNat)
  match b.line with
  | some l => if l.addr = a && !b.refetch then none else some a
  | none => some a

/-- The decoded instruction of a slot of the line held (R47). -/
def slotInstr (b : Bank) (pc : Nat) : Except Problem Instr := decodeCell (BitVec.ofNat 96 (insnAt b pc))

/-- The line word of the line held (R21). -/
def lineWord (b : Bank) : Nat := match b.line with | some l => l.data / 2 ^ 480 % 2 ^ 32 | none => 0

/-- Whether an instruction reads or writes st by a specifier (R190). -/
def usesSt (i : Instr) : Bool := (readsOf i ++ writesOf i).contains 0x8A#8

/-- The classes that an armed float trap holds back (R190). -/
def trapHeld (c : Nat) : Bool :=
  (decide (6 ≤ c) && decide (c ≤ 0xD)) || c == 0x14 || (decide (0x18 ≤ c) && decide (c ≤ 0x1C)) ||
    (decide (0x20 ≤ c) && decide (c ≤ 0x31))

/-- Whether an instruction is an access to space .s (R95, R406). -/
def inStateSpace : Instr → Bool
  | .ld x | .lda x | .st x | .stl x | .vld x | .vst x | .vlds x | .vsts x | .vgath x | .vscat x => x.sp == .s
  | .czero x => x.sp == .s
  | _ => false

/-- Whether an operation is one of the stream instructions. -/
def AOp.isStream : AOp → Bool
  | .stream _ _ _ => true
  | _ => false

/-- Whether a flight is an unanswered state-space access of an activation (R101). -/
def stateOf (act : Nat) (f : Flight) : Bool :=
  match f.acc? with
  | some a => a.task && a.act == act && !a.op.isStream && (match a.loc with | .hearth _ _ => true | _ => false)
  | none => false

/-- Whether a flight is an unanswered stream instruction of an activation (R406). -/
def streamOf (act : Nat) (f : Flight) : Bool :=
  match f with
  | .sjoin w _ _ _ => w.act == act
  | .mig w _ _ _ => w.act == act
  | _ => (match f.acc? with | some a => a.task && a.act == act && a.op.isStream | none => false)

/-- Whether a flight is an access or a stream instruction of an activation with an acquire still to come (R147,
R406). -/
def acqOf (act : Nat) (f : Flight) : Bool :=
  match f with
  | .event w e _ => w.act == act && e.acq.isSome
  | .sjoin w _ _ _ => w.act == act
  | .mig w _ _ _ => w.act == act
  | _ => (match f.acc? with | some a => a.task && a.act == act && a.acq.isSome | none => false)

/-- Whether an instruction makes accesses that an acquire orders after it (R147). -/
def orderedByAcquire : Instr → Bool
  | .lea _ => false
  | .send _ => true
  | .tspawn _ => true
  | i => isMemClass (classOf i) || isEngClass (classOf i) || classOf i == 0x24

/-- Whether an instruction writes what another agent may see, or sends it something: it waits for the release of an
earlier FENCE; loads, and what stays in the task, do not (R156). -/
def afterFence : Instr → Bool
  | .ld _ | .lda _ | .lea _ | .pf _ | .fence _ | .swf _ | .cinv _ | .vld _ | .vlds _ | .vgath _ => false
  | .hbind _ | .hbindNone _ | .hstat _ | .gset _ | .gclr _ | .btest _ | .chanRead _ | .chanAddr _ => false
  | .evsig _ | .evset _ | .evclr _ | .tend _ | .tlbi _ | .winwr _ | .resumeRetry _ | .resumeSkip _ | .resumeDrop _ => true
  | i => isMemClass (classOf i) || isEngClass (classOf i) || classOf i == 0x24

/-- Whether the queue that an instruction enters is full (R45, R330). -/
def queueFull (x : Cell) (i : Instr) : Bool :=
  match i with
  | .chanRead _ | .chanAddr _ | .chanAbort _ | .bqcfg _ | .bqpush _ | .bqpop _ | .bqstat _ => false
  | _ =>
    match classOf i with
    | 0x0A => decide (16 ≤ x.tongs.length)
    | 0x18 => decide (8 ≤ x.anvil.length)
    | 0x1A => decide (16 ≤ x.cruc.length)
    | 0x1B => decide (8 ≤ x.gen.length)
    | 0x1C => decide (4 ≤ x.coll.length)
    | _ => false

/-- A register specifier in the place that a mark names: 0 A, 1 B, 2 C, 3 D (R289). -/
def onField (f : Nat) (w : Nat) (g : RegSpec → RegSpec) : Nat :=
  let lo := match f with | 0 => 72 | 1 => 64 | 2 => 56 | _ => 48
  setFld w (lo + 7) lo (g (BitVec.ofNat 8 (fld w (lo + 7) lo))).toNat

/-- The word of captured instruction `j` in an iteration (R290). -/
def stagWord (w : Nat) (j mark : Nat) (by_ : Int) : Nat :=
  [0, 1, 2, 3].foldl (fun w f =>
    if bit mark (4 * j + f) then
      onField f w (fun r => BitVec.ofNat 8 (rbank r * 64 + ((((ridx r : Nat) : Int) + by_) % 64).toNat))
    else w) w

/-- Captured instruction `j` as iteration `t` issues it (R290). -/
def stagInstr (r : Rep) (j t : Nat) : Option Instr :=
  (r.body[j]?).bind (fun e =>
    match decodeCell (BitVec.ofNat 96 (stagWord e.2 j r.mark ((t : Int) * r.stag))) with
    | .ok i => some i
    | .error _ => none)

/-- The instructions of the iterations still to issue, up to the period of the stagger (R290). -/
def repRest (r : Rep) : List Instr :=
  (List.range (Nat.min 64 (r.count - r.iter))).flatMap (fun t =>
    (List.range r.body.length).filterMap (fun j => stagInstr r j (r.iter + t)))

/-- Whether a repetition in progress holds an instruction back (R290). -/
def repHolds (r : Rep) (i : Instr) : Bool :=
  let c := classOf i
  (decide (0xA ≤ c) && decide (c ≤ 0xD)) || (decide (0x10 ≤ c) && decide (c ≤ 0x15)) ||
    (decide (0x18 ≤ c) && decide (c ≤ 0x1C)) || (match i with | .tend _ => true | _ => false) ||
    (repRest r).any (fun j =>
      ((writesOf j).filter (· != 0#8)).any (fun q => (readsOf i ++ writesOf i).contains q) ||
        ((writesOf i).filter (· != 0#8)).any (fun q => (readsOf j).contains q))

/-- Whether a flight is an unfinished TIDSET or TIDINV of an activation (R235). -/
def tidOf (act : Nat) (f : Flight) : Bool :=
  match f with
  | .tid w _ _ _ => w.act == act
  | _ => false

/-- The registers that an instruction writes, those that only its operand names among them (R189, R293). -/
def State.dests (s : State) (i : Instr) : List RegSpec :=
  match i with
  | .ard x => writesOf i ++ ardDst (!x.det && x.a != 0#8) (s.rd x.b).toNat
  | _ => writesOf i

/-- Whether an instruction waits in issue (R43, R45, R101, R147, R156, R189, R190, R290, R406). -/
def State.stall (s : State) (i : Instr) : Bool :=
  let b := s.b
  let c := classOf i
  (readsOf i ++ s.dests i).any b.pend.contains ||
    (usesSt i && s.floatPending s.act) ||
    (trapEnabled b.st && trapHeld c && s.floatPending s.act) ||
    s.fly.any (fun f => stateOf s.act f.f) ||
    (orderedByAcquire i && s.fly.any (fun f => acqOf s.act f.f)) ||
    (afterFence i && s.fencing s.cur.cell s.act) ||
    ((c == 0x24 || inStateSpace i) && s.fly.any (fun f => streamOf s.act f.f)) ||
    (isEngClass c && c != 0xB && c != 0xD && s.fly.any (fun f => tidOf s.act f.f)) ||
    queueFull (s.cell s.cur.cell) i ||
    (match b.rep with | some r => repHolds r i | none => false)

/-- How the instruction at pc pairs with its successor: 0 no request, 1 one after the other, 2 together
(R27, R28, R361). -/
def State.pairOf (s : State) (i : Instr) : Nat :=
  let b := s.b
  let pc := b.pc.toNat
  if b.second || decide (3 < slotOf pc) || !bit (lineWord b) (18 + slotOf pc) then 0
  else
    match slotInstr b (pc + 1) with
    | .error _ => 1
    | .ok j =>
      if pairable i j && (s.dests i).all (fun r => r == 0#8 || !(readsOf j ++ s.dests j).contains r) && !(armed b false && b.pc == b.le0) && !(armed b true && b.pc == b.le1) then 2 else 1

/-- How the instruction at the pc of the executing bank pairs, where the bank holds its line: it asks for no pair in
another (R28). -/
def State.pairAt (s : State) : Nat :=
  if (wantLine s.b).isSome then 0 else match slotInstr s.b s.b.pc.toNat with | .ok i => s.pairOf i | .error _ => 0

/-- A poisoned register among an instruction's sources (R422). -/
def poisonSrc (b : Bank) (i : Instr) : Option RegSpec :=
  (readsOf i).find? (fun r => b.poison.contains r || (rbank r == 1 && lookD b.vbad (ridx r) 0 != 0))

/-- The acquires of the token reads of an instruction: each read after the token's write makes one (R145). -/
def State.tokenReads (s : State) (i : Instr) : State :=
  (readsOf i).foldl (fun s r =>
    match look s.b.tokens r.toNat with
    | some sc => s.acquire s.cur.cell sc
    | none => s) s

/-- Whether a high-bank entry of a cell is to start at the next boundary of an issue group, before which the low
bank issues nothing more (R192, R375, R385). The entry that the bank would take does not start yet while a pending copy to
the cell, or a replay that names another entry next, holds it (R137, R430). -/
def State.highDue (s : State) (c : Nat) : Bool :=
  let x := s.cell c
  x.hi.task.isNone &&
    (match x.grid, choose (x.ready.filter (·.hi)) x.hi.lastTag with
     | some g, some r =>
       (match look s.grids g with
        | some y => y.ending.isNone && y.resid == .running && !s.replayHolds g 17 (spillKey c true) r.msg.id && !s.pendAt g c
        | none => false)
     | _, _ => false)

/-- Whether a bank's task may issue: it runs, and is not suspended (R192, R367, R375, R410, R420). -/
def State.runs (s : State) (c : Nat) (hi : Bool) : Bool :=
  match (s.bank c hi).task with
  | none => false
  | some k =>
    k.halted.isNone && !k.wounded && (hi || (s.bank c hi).joint || ((s.bank c true).task.isNone && !s.highDue c)) &&
      (match look s.grids k.gid with
       | some g => g.ending.isNone && (g.resid != .saved)
       | none => true)

/-- A trap met before decode, at pc. -/
def State.fetchTrap (s : State) (cause : Cause) (addr detail : Nat) : State :=
  s.takeTrap s.cur.cell s.cur.hi
    { cause := cause, pc := s.b.pc.toNat, addr := addr, detail := detail, spc := s.b.entered.getD 0,
      insn := insnAt s.b s.b.pc.toNat }

/-- Whether an earlier float result of the executing task may still trap: no later cause is reported before it
(R195). -/
def State.floatFirst (s : State) : Bool := trapEnabled s.b.st && s.floatPending s.act

/-- Whether a transfer may enter at a program counter of the line held: it has the form of R22, and its slot's
bit of the target mask is set (R22, R354). -/
def targetOk (b : Bank) (pc : Nat) : Bool :=
  decide (slotOf pc < 5) && fld pc 5 3 == 0 && bit (lineWord b) (22 + slotOf pc)

/-- A task that issues: from its first issue on its cycles are counted, and none that lie before it are left out of
the count (R381). -/
def Task.begin (k : Task) (gt : Nat) : Task := if k.first.isSome then k else { k with first := some gt, excl := 0 }

/-- Everything of R20 to R29 and R354 up to the instruction to execute: the state when a trap is taken
or nothing can issue, or the instruction with the state in which it executes. -/
def State.prepare (s : State) : State × Option Instr :=
  let b := s.b
  let pc := b.pc.toNat
  if !s.runs s.cur.cell s.cur.hi then (s, none)
  else
    match b.task with
    | none => (s, none)
    | some k =>
      match (if k.committing then none else k.pendTrap), k.xfault with
      | some t, _ => (s.takeTrap s.cur.cell s.cur.hi t, none)
      | none, some t =>
        if s.floatFirst then (s, none) else
        (s.takeTrap s.cur.cell s.cur.hi
          { t with pc := pc, spc := if (wantLine b).isSome && b.past.isNone then b.entered.getD 0 else 0, insn := insnAt b pc }, none)
      | none, none =>
        let trapped (t : State) : State × Option Instr := (if s.floatFirst then s else t, none)
        if b.fell || !inCode (s.lr k.gid) pc || !inCode (s.lr k.gid) (b.past.getD pc) then trapped (s.fetchTrap .falloff pc 0)
        else if (wantLine b).isSome then (s, none)
        else if b.past.isSome then
          if bit (lineWord b) 17 then trapped (s.fetchTrap .falloff pc 0)
          else (s.mapB (fun b => { b with past := none }), none)
        else if b.entered.isSome && !targetOk b pc then trapped (s.fetchTrap .btm pc 0)
        else
          match slotInstr b pc with
          | .error _ => trapped (s.trap .undef pc 0)
          | .ok i =>
            let p := s.pairOf i
            let held := s.stall i || (p == 2 && (match slotInstr b (pc + 1) with | .ok j => s.stall j | .error _ => false))
            if held then (s, none)
            else
              match poisonSrc b i with
              | some r => trapped (s.trap .memUe 0 (2 * 2 ^ 56 + r.toNat))
              | none =>
                let s1 := (s.tokenReads i).mapT (·.begin s.gt.toNat)
                ({ s1 with cur := { s1.cur with pair := p } }, some i)

end Sys2Proof.Machine
end

