-- ==== Sys2Proof/Machine/Integer.lean ====
section
/-!
DEFINITION. Machine/Integer.lean: classes 0x01, 0x02 and 0x03: integer register, integer immediate,
compare and bit instructions (08 R198 to R206). Each result is an exact integer, narrowed once.
-/

namespace Sys2Proof.Machine

/-- An operand read as w unsigned bits (R200). -/
def State.opn (s : State) (ty : Ty) (r : RegSpec) : Nat := (s.rd r).toNat % 2 ^ Ty.width ty

/-- An operand read as w signed bits (R200). -/
def State.ops (s : State) (ty : Ty) (r : RegSpec) : Int := sx (s.rd r).toNat (Ty.width ty)

/-- `sext(wrap(res, w), w)` of R200. -/
def narrow (ty : Ty) (res : Int) : Word := BitVec.ofInt 64 (sx (wrapN res (Ty.width ty)) (Ty.width ty))

/-- The shift count of R200: the low 6 bits of y, or the low 5 for 32 bits. -/
def State.count (s : State) (ty : Ty) (r : RegSpec) : Nat := s.opn ty r % Ty.width ty

/-- An integer result of one cycle (R189). -/
def State.int1 (s : State) (ty : Ty) (a : RegSpec) (res : Int) : Out := .next (s.finish a (narrow ty res))

/-- An integer result of the multiply-divide unit (R189). -/
def State.intMd (s : State) (ty : Ty) (a : RegSpec) (res : Int) : Out :=
  .next (s.later a (narrow ty res).toNat 0 false)

/-- The bits of two numbers below 2^w combined bit by bit (R200). -/
def bitwise (op : Nat → Nat → Nat) (x y : Nat) : Int := ((op x y : Nat) : Int)

/-! ### Class 0x01 (R200) -/

/-- ADD: the sum, wrapped (R200). -/
def execAdd (x : T3) (s : State) : Out := s.int1 x.ty x.a (s.ops x.ty x.b + s.ops x.ty x.c)
/-- SUB: the difference, wrapped (R200). -/
def execSub (x : T3) (s : State) : Out := s.int1 x.ty x.a (s.ops x.ty x.b - s.ops x.ty x.c)
/-- MUL: the low bits of the product (R200). -/
def execMul (x : T3) (s : State) : Out := s.intMd x.ty x.a (s.ops x.ty x.b * s.ops x.ty x.c)
/-- MULH: the high bits of the signed product (R200). -/
def execMulh (x : T3) (s : State) : Out :=
  s.intMd x.ty x.a (Int.fdiv (s.ops x.ty x.b * s.ops x.ty x.c) ((2 ^ Ty.width x.ty : Nat) : Int))
/-- MULHN: the high bits of the unsigned product (R200). -/
def execMulhn (x : T3) (s : State) : Out :=
  s.intMd x.ty x.a ((s.opn x.ty x.b * s.opn x.ty x.c / 2 ^ Ty.width x.ty : Nat) : Int)
/-- DIV: the quotient towards zero; −1 by zero, and the dividend where the quotient overflows (R200). -/
def execDiv (x : T3) (s : State) : Out :=
  s.intMd x.ty x.a (if s.opn x.ty x.c = 0 then -1 else Int.tdiv (s.ops x.ty x.b) (s.ops x.ty x.c))
/-- DIVN: the unsigned quotient; all ones by zero (R200). -/
def execDivn (x : T3) (s : State) : Out :=
  s.intMd x.ty x.a (if s.opn x.ty x.c = 0 then ((2 ^ Ty.width x.ty : Nat) : Int) - 1
                    else ((s.opn x.ty x.b / s.opn x.ty x.c : Nat) : Int))
/-- REM: the remainder with the dividend's sign; the dividend by zero (R200). -/
def execRem (x : T3) (s : State) : Out :=
  s.intMd x.ty x.a (if s.opn x.ty x.c = 0 then s.ops x.ty x.b else Int.tmod (s.ops x.ty x.b) (s.ops x.ty x.c))
/-- REMN: the unsigned remainder; the dividend by zero (R200). -/
def execRemn (x : T3) (s : State) : Out :=
  s.intMd x.ty x.a ((if s.opn x.ty x.c = 0 then s.opn x.ty x.b else s.opn x.ty x.b % s.opn x.ty x.c : Nat) : Int)
/-- AND (R200). -/
def execAnd (x : T3) (s : State) : Out := s.int1 x.ty x.a (bitwise Nat.land (s.opn x.ty x.b) (s.opn x.ty x.c))
/-- OR (R200). -/
def execOr (x : T3) (s : State) : Out := s.int1 x.ty x.a (bitwise Nat.lor (s.opn x.ty x.b) (s.opn x.ty x.c))
/-- XOR (R200). -/
def execXor (x : T3) (s : State) : Out := s.int1 x.ty x.a (bitwise Nat.xor (s.opn x.ty x.b) (s.opn x.ty x.c))
/-- ANDN: x AND NOT y (R200). -/
def execAndn (x : T3) (s : State) : Out :=
  s.int1 x.ty x.a (bitwise Nat.land (s.opn x.ty x.b) (2 ^ Ty.width x.ty - 1 - s.opn x.ty x.c))
/-- SHL (R200). -/
def execShl (x : T3) (s : State) : Out :=
  s.int1 x.ty x.a ((s.opn x.ty x.b * 2 ^ s.count x.ty x.c : Nat) : Int)
/-- SHR (R200). -/
def execShr (x : T3) (s : State) : Out :=
  s.int1 x.ty x.a ((s.opn x.ty x.b / 2 ^ s.count x.ty x.c : Nat) : Int)
/-- SAR (R200). -/
def execSar (x : T3) (s : State) : Out :=
  s.int1 x.ty x.a (Int.fdiv (s.ops x.ty x.b) ((2 ^ s.count x.ty x.c : Nat) : Int))
/-- ROL (R200). -/
def execRol (x : T3) (s : State) : Out :=
  let k := s.count x.ty x.c
  let v := s.opn x.ty x.b
  s.int1 x.ty x.a ((if k = 0 then v else v * 2 ^ k + v / 2 ^ (Ty.width x.ty - k) : Nat) : Int)
/-- MIN, signed (R200). -/
def execMin (x : T3) (s : State) : Out := s.int1 x.ty x.a (min (s.ops x.ty x.b) (s.ops x.ty x.c))
/-- MAX, signed (R200). -/
def execMax (x : T3) (s : State) : Out := s.int1 x.ty x.a (max (s.ops x.ty x.b) (s.ops x.ty x.c))
/-- MINN, unsigned (R200). -/
def execMinn (x : T3) (s : State) : Out := s.int1 x.ty x.a ((min (s.opn x.ty x.b) (s.opn x.ty x.c) : Nat) : Int)
/-- MAXN, unsigned (R200). -/
def execMaxn (x : T3) (s : State) : Out := s.int1 x.ty x.a ((max (s.opn x.ty x.b) (s.opn x.ty x.c) : Nat) : Int)
/-- SADD: the sum, saturated (R200). -/
def execSadd (x : T3) (s : State) : Out :=
  s.int1 x.ty x.a (satI (s.ops x.ty x.b + s.ops x.ty x.c) (Ty.width x.ty))
/-- SSUB: the difference, saturated (R200). -/
def execSsub (x : T3) (s : State) : Out :=
  s.int1 x.ty x.a (satI (s.ops x.ty x.b - s.ops x.ty x.c) (Ty.width x.ty))

/-! ### Class 0x02 (R201) -/

/-- MOVI (R201). -/
def execMovi (x : MoviR) (s : State) : Out := .next (s.finish x.a x.imm)
/-- ADDI (R201). -/
def execAddi (x : ImmR) (s : State) : Out := .next (s.finish x.a (s.rd x.b + x.imm))
/-- ANDI (R201). -/
def execAndi (x : ImmR) (s : State) : Out := .next (s.finish x.a (s.rd x.b &&& x.imm))
/-- ORI (R201). -/
def execOri (x : ImmR) (s : State) : Out := .next (s.finish x.a (s.rd x.b ||| x.imm))
/-- XORI (R201). -/
def execXori (x : ImmR) (s : State) : Out := .next (s.finish x.a (s.rd x.b ^^^ x.imm))
/-- SHLI: the count is IMM64[5:0] (R201). -/
def execShli (x : ImmR) (s : State) : Out := .next (s.finish x.a (s.rd x.b <<< (x.imm.toNat % 64)))
/-- SHRI (R201). -/
def execShri (x : ImmR) (s : State) : Out := .next (s.finish x.a (s.rd x.b >>> (x.imm.toNat % 64)))
/-- SARI (R201). -/
def execSari (x : ImmR) (s : State) : Out := .next (s.finish x.a ((s.rd x.b).sshiftRight (x.imm.toNat % 64)))

/-! ### Class 0x03 (R202 to R206) -/

/-- An integer condition between signed and unsigned readings (R39). -/
def iCond (c : Cond) (xs ys : Int) (xn yn : Nat) : Bool :=
  match c with
  | .eq => xn == yn
  | .ne => xn != yn
  | .lt => decide (xs < ys)
  | .ge => decide (ys ≤ xs)
  | .ltn => decide (xn < yn)
  | .gen => decide (yn ≤ xn)
  | .le => decide (xs ≤ ys)
  | .gt => decide (ys < xs)
  | .len => decide (xn ≤ yn)
  | .gtn => decide (yn < xn)
  | .always => true
  | .ord | .unord => false

/-- A truth value as a register value. -/
def boolWord (p : Bool) : Word := if p then 1 else 0

/-- CMP (R203). -/
def execCmp (x : CmpR) (s : State) : Out :=
  .next (s.finish x.a (boolWord (iCond x.cond (s.ops x.ty x.b) (s.ops x.ty x.c) (s.opn x.ty x.b) (s.opn x.ty x.c))))

/-- SEL (R203). -/
def execSel (x : SelR) (s : State) : Out := .next (s.finish x.a (if s.rd x.d ≠ 0 then s.rd x.b else s.rd x.c))

/-- What a read of GT by a grid at a cell gives: GT, or the recorded value when the grid replays (R430). -/
def State.timeFor (s : State) (g c : Nat) : Nat :=
  match s.replayNext g 23 c with
  | some e => e.2 % 2 ^ 64
  | none => s.gt.toNat

/-- A read of GT into a register: recorded, or the recorded value when the grid replays (R429, R430,
R434). -/
def State.readTime (s : State) (r : RegSpec) : State :=
  let v := s.timeFor s.gid s.cur.cell
  (s.finish r (BitVec.ofNat 64 v)).recordKind s.gid s.cur.cell 23 s.cur.cell v

/-- MOV: a write of st sets bits [5:0] alone; a read of gt is recorded for replay (R195, R203, R429). -/
def execMov (x : MovR) (s : State) : Out :=
  .next (if x.b = 0x8D#8 then s.readTime x.a else s.finish x.a (s.rd x.b))

/-- Zero bits above the highest set bit below w (R204). -/
def clz (w x : Nat) : Nat := if x = 0 then w else w - 1 - Nat.log2 x

/-- Zero bits below the lowest set bit, up to w (R204). -/
def ctz (w x : Nat) : Nat :=
  match w with
  | 0 => 0
  | w + 1 => if x % 2 = 1 then 0 else 1 + ctz w (x / 2)

/-- Set bits among the low w (R204). -/
def popCount (w x : Nat) : Nat :=
  match w with
  | 0 => 0
  | w + 1 => x % 2 + popCount w (x / 2)

/-- The low w bits in reverse order (R204). -/
def bitRev (w x : Nat) : Nat :=
  match w with
  | 0 => 0
  | w + 1 => x % 2 * 2 ^ w + bitRev w (x / 2)

/-- The low n bytes in reverse order (R204). -/
def byteRev (n x : Nat) : Nat :=
  match n with
  | 0 => 0
  | n + 1 => x % 256 * 256 ^ n + byteRev n (x / 256)

/-- CLZ (R204). -/
def execClz (x : T2) (s : State) : Out := s.int1 x.ty x.a (clz (Ty.width x.ty) (s.opn x.ty x.b) : Nat)
/-- CTZ (R204). -/
def execCtz (x : T2) (s : State) : Out := s.int1 x.ty x.a (ctz (Ty.width x.ty) (s.opn x.ty x.b) : Nat)
/-- POPC (R204). -/
def execPopc (x : T2) (s : State) : Out := s.int1 x.ty x.a (popCount (Ty.width x.ty) (s.opn x.ty x.b) : Nat)
/-- BREV (R204). -/
def execBrev (x : T2) (s : State) : Out := s.int1 x.ty x.a (bitRev (Ty.width x.ty) (s.opn x.ty x.b) : Nat)
/-- BSWAP (R204). -/
def execBswap (x : T2) (s : State) : Out := s.int1 x.ty x.a (byteRev (Ty.width x.ty / 8) (s.opn x.ty x.b) : Nat)

/-- The length of a bit field: above 64 it acts as 64 (R205). -/
def fieldLen (len : BitVec 7) : Nat := min 64 len.toNat

/-- BFX: the field, zero-extended (R205). -/
def execBfx (x : BfR) (s : State) : Out :=
  s.int1 x.ty x.a ((s.opn x.ty x.b / 2 ^ x.pos.toNat % 2 ^ fieldLen x.len : Nat) : Int)
/-- BFXS: the field, sign-extended (R205). -/
def execBfxs (x : BfR) (s : State) : Out :=
  s.int1 x.ty x.a (if fieldLen x.len = 0 then 0
                   else sx (s.opn x.ty x.b / 2 ^ x.pos.toNat % 2 ^ fieldLen x.len) (fieldLen x.len))
/-- BFI: the field replaced by the low bits of the inserted value (R205). -/
def execBfi (x : BfiR) (s : State) : Out :=
  let w := Ty.width x.ty
  let mask := (2 ^ fieldLen x.len - 1) * 2 ^ x.pos.toNat % 2 ^ w
  let v := s.opn x.ty x.b
  s.int1 x.ty x.a ((Nat.lor (v - Nat.land v mask) (Nat.land ((s.rd x.c).toNat * 2 ^ x.pos.toNat) mask) : Nat) : Int)

/-- SEXT: the low bits of the type, sign-extended (R206). -/
def execSext (x : T2) (s : State) : Out := .next (s.finish x.a (BitVec.ofInt 64 (s.ops x.ty x.b)))
/-- ZEXT: the low bits of the type, zero-extended (R206). -/
def execZext (x : T2) (s : State) : Out := .next (s.finish x.a (BitVec.ofNat 64 (s.opn x.ty x.b)))

/-! ### Class 0x00 (R46) -/

/-- NOP has no effect (R46). -/
def execNop (s : State) : Out := .next s.retire
/-- HINT has no effect (R46). -/
def execHint (_n : BitVec 6) (s : State) : Out := .next s.retire

end Sys2Proof.Machine
end

