-- ==== Sys2Proof/Machine/Slices.lean ====
section
/-!
DEFINITION. Machine/Slices.lean: the serialisation points: home slices, scratchpad ports, the host window
and their race trace rings (04 R85, R86, R97 to R99, R484), poison (03 R59, 18 R422), and the answers
that come back to a cell (R89, R105).
-/

namespace Sys2Proof.Machine

/-! ### Poison (R59, R422) -/

/-- Whether any byte of a range outside a mask is poisoned (R59, R422). -/
def State.badBut (s : State) (a n mask : Nat) : Bool :=
  (List.range n).any (fun i => !bit mask i && s.poison.contains ((a + i) / 8))

/-- Whether a masked write of `n` bytes at `a` writes every byte of `k` at `b`. -/
def covers (a n mask b k : Nat) : Bool := decide (a ≤ b) && decide (b + k ≤ a + n) && mask / 2 ^ (b - a) % 2 ^ k == fullMask k

/-- The poison marks after a masked write of `n` bytes: a global line is cleared by a write of all its
bytes, another word by a write of its eight (R59, R422). -/
def poisonWrite (p : List Nat) (glob : Bool) (a n mask : Nat) : List Nat :=
  p.filter (fun w => !(if glob then covers a n mask (w / 8 * 64) 64 else covers a n mask (w * 8) 8))

/-- Words marked poisoned: the whole line of global memory, or each word of a range (R59). -/
def poisonMark (p : List Nat) (glob : Bool) (a n : Nat) : List Nat :=
  let lo := if glob then a / 64 * 8 else a / 8
  let hi := if glob then (a + n + 63) / 64 * 8 else (a + n + 7) / 8
  p ++ ((List.range (hi - lo)).map (lo + ·)).filter (fun w => !p.contains w)

/-- A masked write at a memory key, with its effect on poison. -/
def State.poke (s : State) (glob : Bool) (a n data mask : Nat) : State :=
  { s with
    mem := memMask s.mem a n data mask
    poison := poisonWrite s.poison glob a n mask
    weak := if glob then s.weak.filter (fun l => !covers a n mask (l * 64) 64) else s.weak }

/-- The poison that a masked write of poisoned data leaves at a place: the whole line of global memory, or the words
that `bad` names, counted from the start of its line (R59, R422). -/
def State.spoil (s : State) (loc : Loc) (bad : Nat) : State :=
  if bad = 0 then s
  else
    match loc with
    | .home pa => { s with poison := poisonMark s.poison true (pa / 64 * 64) 64 }
    | _ => { s with poison := (List.range 8).foldl (fun p i =>
        if bit bad i then poisonMark p false (loc.key / 64 * 64 + 8 * i) 8 else p) s.poison }

/-! ### Race trace rings (R98, R99) -/

/-- The hash of the written bytes, in address order (R99). -/
def maskHash (n data mask h : Nat) : Nat :=
  match n with
  | 0 => h
  | n + 1 => maskHash n (data / 256) (mask / 2)
      (if mask % 2 = 1 then Nat.xor h (data % 256) * 0x01000193 % 2 ^ 32 else h)

/-- An entry of R99. -/
def ringEntry (gt addr n data mask asid src kind msgid : Nat) : Nat :=
  gt * 2 ^ 192 + addr % 2 ^ 64 * 2 ^ 128 + maskHash n data mask 0x811C9DC5 * 2 ^ 96 + asid % 2 ^ 16 * 2 ^ 80 +
    (dieOf src * 1024 + idxOf src) * 2 ^ 67 + kind * 2 ^ 56 + maskCount n mask * 2 ^ 48 + msgid * 2 ^ 16
where
  /-- The bytes that a mask names. -/
  maskCount (n mask : Nat) : Nat :=
    match n with
    | 0 => 0
    | n + 1 => mask % 2 + maskCount n (mask / 2)

/-- A ring: of a cluster's scratchpads, or of a home slice. -/
inductive RingId
  | pad (gclu : Nat)
  | slice (die n : Nat)
deriving DecidableEq, Repr

/-- The entries of a ring. -/
def State.ring (s : State) : RingId → List Nat
  | .pad c => (s.cluster c).ring
  | .slice d n => lookD (s.die d).hsRing n []

/-- A ring replaced. -/
def State.setRing (s : State) (r : RingId) (l : List Nat) : State :=
  match r with
  | .pad c => s.mapCluster c (fun x => { x with ring := l })
  | .slice d n => s.mapDie d (fun x => { x with hsRing := put x.hsRing n l })

/-- Whether a ring has no room (R99). -/
def State.ringFull (s : State) (r : RingId) : Bool := decide (4096 ≤ (s.ring r).length)

/-- The ring of a write that races: its place is a home slice, or a port reached from another cell or by a tongs
channel (R98). -/
def raceRing (src kind : Nat) : Loc → Option RingId
  | .home pa => some (.slice (homeDie pa) (homeSlice pa))
  | .port c _ => if c = src ∧ kind ≠ 4 ∧ kind ≠ 5 then none else some (.pad (gcluOf c))
  | _ => none

/-- The ring at which a write to a place is recorded, when it is: it races, and the writer's grid records (R98). -/
def State.ringOf (s : State) (gid src kind : Nat) (loc : Loc) : Option RingId :=
  if recording (s.lr gid) then raceRing src kind loc else none

/-- The address that a ring entry names (R99). -/
def Loc.ringAddr : Loc → Nat
  | .home pa => pa
  | .host pa => pa
  | .port c off => idxOf c * 2 ^ 18 + off
  | .hearth sid off => sid * 2 ^ 23 + off

/-- Whether a place is the grid information block, to which stores are ignored (R371). -/
def Loc.inInfo : Loc → Bool
  | .port _ off => decide (0x3FFC0 ≤ off)
  | _ => false

/-- Who writes, for a ring entry. -/
structure Writer where
  gid : Nat
  asid : Nat
  src : Nat
  msgid : Nat
deriving DecidableEq, Repr

/-- Whether a recorded kind and content are those of a race entry of a write (R99, R429, log 14). -/
def isRace (w : Writer) (loc : Loc) (kind k content : Nat) : Bool :=
  k == kind && content / 2 ^ 64 == loc.ringAddr % 2 ^ 64 &&
    content % 2 ^ 32 == w.asid % 2 ^ 16 * 2 ^ 16 + (dieOf w.src * 1024 + idxOf w.src) % 2 ^ 13 * 2 ^ 3

/-- A write that races has met the recording that its grid replays (R430). -/
def State.raceMeet (s : State) (w : Writer) (loc : Loc) (kind : Nat) : State :=
  if (raceRing w.src kind loc).isSome then s.replayMeet w.gid (fun r => isRace w loc kind r.2.1 r.2.2) else s

/-- Whether a write that races is held for its grid's replay: the next recorded arrival at its 64-byte line is
another (R430, log 14). -/
def State.raceHeld (s : State) (w : Writer) (loc : Loc) (kind : Nat) : Bool :=
  (raceRing w.src kind loc).isSome &&
    (s.replayFirst w.gid (fun k c => decide (k ≤ 8) && c / 2 ^ 64 / 64 == loc.ringAddr % 2 ^ 64 / 64)).any (fun r =>
      !isRace w loc kind r.1 r.2)

/-- A write arrives at its serialisation point: made, and recorded, and met by a replay (R86, R97, R98, R430). -/
def State.write (s : State) (w : Writer) (loc : Loc) (n data mask kind : Nat) : State :=
  if loc.inInfo then s
  else
    let s1 := s.poke loc.isGlobal loc.key n data mask
    let s2 := match s.ringOf w.gid w.src kind loc with
      | none => s1
      | some r => s1.setRing r (s1.ring r ++ [ringEntry s.gt.toNat loc.ringAddr n data mask w.asid w.src kind w.msgid])
    s2.raceMeet w loc kind

/-- Whether the ring of a write has no room for its entry (R99). -/
def State.ringLacks (s : State) (w : Writer) (loc : Loc) (kind : Nat) : Bool :=
  match s.ringOf w.gid w.src kind loc with
  | some r => s.ringFull r
  | none => false

/-- Whether a write must wait at its serialisation point: for room in the ring, or for the recorded arrivals before it
(R99, R430). -/
def State.ringWaits (s : State) (w : Writer) (loc : Loc) (kind : Nat) : Bool := s.ringLacks w loc kind || s.raceHeld w loc kind

/-- A try of a write that waits: one for a full ring counts in TRACE_STALL (R99, log 81). -/
def State.ringTry (s : State) (w : Writer) (loc : Loc) (kind : Nat) : State :=
  if s.ringLacks w loc kind then s.countDie loc.die w.gid 0x104 else s

/-- A place further on by some bytes. -/
def Loc.plus (l : Loc) (n : Nat) : Loc :=
  match l with
  | .home pa => .home (pa + n)
  | .port c off => .port c (off + n)
  | .hearth sid off => .hearth sid (off + n)
  | .host pa => .host (pa + n)

/-- The offset of a place within its 64-byte block. -/
def Loc.low : Loc → Nat
  | .home pa => pa % 64
  | .port _ off => off % 64
  | .hearth _ off => off % 64
  | .host pa => pa % 64

/-- Bytes written at consecutive places in pieces, none of which crosses a 64-byte block (R99). -/
def State.writeBlocks (s : State) (w : Writer) (loc : Loc) (data kind : Nat) : Nat → Nat → State
  | 0, _ => s
  | _ + 1, 0 => s
  | f + 1, n + 1 =>
    let p := Nat.min (n + 1) (64 - loc.low)
    (s.write w loc p (data % 2 ^ (8 * p)) (fullMask p) kind).writeBlocks w (loc.plus p) (data / 2 ^ (8 * p)) kind f (n + 1 - p)

/-- An engine's write of `n` bytes, which names no message (R99). -/
def State.engineWrite (s : State) (gid asid src : Nat) (loc : Loc) (n data : Nat) : State :=
  s.writeBlocks { gid := gid, asid := asid, src := src, msgid := 0 } loc data 8 (n + 1) n

/-! ### Arrivals -/

/-- The writer of an access. -/
def Access.writer (a : Access) : Writer := { gid := a.gid, asid := a.asid, src := a.cell, msgid := a.msgid }

/-- Whether two places share a 64-byte line, or one port. -/
def sameLine : Loc → Loc → Bool
  | .home p, .home q => p / 64 == q / 64
  | .host p, .host q => p / 64 == q / 64
  | .port c p, .port d q => c == d && p / 64 == q / 64
  | .hearth i p, .hearth j q => i == j && p / 64 == q / 64
  | _, _ => false

/-- The lines that an access touches, each with the mask of the bytes that it reads or writes there. -/
def Access.lines (a : Access) : List (Nat × Nat) :=
  let at_ (key m : Nat) : Nat × Nat := (key / 64, m * 2 ^ (key % 64))
  match a.op with
  | .store _ mask _ => [at_ a.loc.key mask]
  | .hbind _ key2 _ =>
    let k := Nat.min a.n (64 - a.loc.key % 64)
    [at_ a.loc.key (fullMask k), at_ key2 (fullMask (a.n - k))]
  | _ => [at_ a.loc.key (fullMask a.n)]

/-- Whether two accesses meet in a byte that they ask for or write. -/
def Access.meets (a b : Access) : Bool :=
  match a.loc, b.loc with
  | .hearth _ _, _ => sameLine a.loc b.loc
  | _, .hearth _ _ => false
  | _, _ => a.lines.any (fun x => b.lines.any (fun y => x.1 == y.1 && Nat.land x.2 y.2 != 0))

/-- A write of bytes that an L1 shows already: a write-back, or a write-through with its line (R89, R90). -/
def Access.ofL1 (a : Access) : Bool := (!a.task && a.op.isStore) || a.carry

/-- Whether an older access must arrive first: of one cell to a byte, of a cell to its own port, of one task to
pages of type 1 or 2, or of the cells that share an L1 to a byte, when either is a write of bytes that the L1 shows
(R64, R89, R94, R97, R142, R143, R150, R262). -/
def State.mustPrecede (s : State) (a b : Access) : Bool :=
  let meet := a.meets b
  (a.cell == b.cell &&
    (meet || (match a.loc, b.loc with | .port c _, .port d _ => c == d && c == a.cell | _, _ => false))) ||
    (a.task && b.task && a.unc && b.unc && a.act == b.act) ||
    (meet && (a.ofL1 || b.ofL1) && s.fused a.cell && gcluOf a.cell == gcluOf b.cell)

/-- The access that a flight still has to make. -/
def Flight.coming? : Flight → Option Access
  | .access a => some a
  | .fill a => some a
  | _ => none

/-- Whether an older access stands before an arrival. -/
def State.blocked (s : State) (n : Nat) (a : Access) : Bool :=
  s.fly.any (fun f => decide (f.n < n) && (match f.f.coming? with | some b => s.mustPrecede b a | none => false))

/-- `new` of R159 for AMO. -/
def amoNew (op : AmoOp) (ty : Ty) (old c : Nat) : Nat :=
  let w := Ty.width ty
  let x := sx old w
  let y := sx c w
  match op with
  | .add => (old + c) % 2 ^ w
  | .min => if x ≤ y then old else c
  | .max => if x ≤ y then c else old
  | .minn => min old c
  | .maxn => max old c
  | .and => Nat.land old c
  | .or => Nat.lor old c
  | .xor => Nat.xor old c
  | .swap => c

/-- `new` of R159 for AMOF: one rounding, or the min and max of R129. -/
def amofNew (op : AmoOp) (ty : Ty) (old c : Nat) : Nat :=
  let F := Ty.fmt ty
  match op with
  | .min => fMinMax F false old c
  | .max => fMinMax F true old c
  | _ => (fArith .add F .rne false old c 0).bits

/-- The value an atomic writes, if it writes (R159). -/
def AOp.newVal (o : AOp) (old : Nat) : Option Nat :=
  match o with
  | .atomic op ty c _ => some (amoNew op ty old c)
  | .cas _ c new _ => if old = c then some new else none
  | .amof op ty c _ => some (amofNew op ty old c)
  | _ => none

/-- MEM.UE of an access (R104, R409). -/
def Access.ueTrap (a : Access) : Trap :=
  { cause := .memUe, pc := a.pc, addr := a.ea, detail := a.loc.uePlace * 2 ^ 56, insn := a.insn }

/-! ### Barriers and ring control words at their port (R134 to R136, R268, R273) -/

/-- NET of a barrier word. -/
def bwNet (v : Nat) : Int := sx (fld v 127 64) 64
/-- STAT of a barrier word. -/
def bwStat (v : Nat) : Nat := fld v 15 8
/-- A barrier word of its fields. -/
def bwOf (net : Int) (expect stat : Nat) (posted : Bool) : Nat :=
  wrapN net 64 * 2 ^ 64 + expect % 2 ^ 48 * 2 ^ 16 + stat * 2 ^ 8 + (if posted then 1 else 0)

/-- `arrive(bw, n)` of R135. -/
def bwArrive (v n : Nat) : Nat :=
  if 1 < bwStat v then v
  else
    let net := sx (wrapN (bwNet v - (n : Int)) 64) 64
    let p := bit v 0
    bwOf net (fld v 63 16) (if p && net == 0 then 1 else if p && decide (net < 0) then 2 else bwStat v) p

/-- `post(bw, n)` of R135 on an open barrier. -/
def bwPost (v n : Nat) : Nat :=
  let net := sx (wrapN (bwNet v + (n : Int)) 64) 64
  bwOf net (fld v 63 16 + n) (if net = 0 then 1 else if net < 0 then 2 else 0) true

/-- The token of a BTEST on a complete barrier (R136). -/
def bwToken (v : Nat) : Nat :=
  (if bwStat v = 1 then 0 else 0x41 * 2 ^ 48) + wrapN ((fld v 63 16 : Int) - bwNet v) 48

/-- The wrap WR of a ring (R268). -/
def ringWrap (nslot : Nat) : Nat := nslot * (2 ^ 32 / nslot)
/-- The producer count. -/
def cwP (v : Nat) : Nat := fld v 31 0
/-- The consumer count. -/
def cwC (v : Nat) : Nat := fld v 63 32
/-- Filled slots of a control word; none when it is corrupt (R268). -/
def cwFilled (nslot v : Nat) : Option Nat :=
  let wr := ringWrap nslot
  let f := (cwP v + wr - cwC v) % wr
  if wr ≤ cwP v || wr ≤ cwC v || nslot < f then none else some f
/-- A control word with a count advanced (R268). -/
def cwAdvance (consumer : Bool) (nslot n v : Nat) : Nat :=
  let wr := ringWrap nslot
  if consumer then cwP v + (cwC v + n) % wr * 2 ^ 32 else (cwP v + n) % wr + cwC v * 2 ^ 32

/-- The update of R273: the word written, when one is, and the value answered. -/
def cwUpdate (consumer : Bool) (nslot n v : Nat) : Option Nat × Nat :=
  match cwFilled nslot v with
  | none => (none, 4 * 2 ^ 48 + (((cwP v : Int) - cwC v) % (ringWrap nslot : Int)).toNat)
  | some f =>
    if !consumer && decide (nslot < f + n) then (none, 2 * 2 ^ 48 + f)
    else if consumer && decide (f < n) then (none, 3 * 2 ^ 48 + f)
    else (some (cwAdvance consumer nslot n v), if consumer then f - n else f + n)

/-- An answer to a BTEST. -/
def btReply (w : Watch) (c v : Nat) : Flight :=
  .reply { cell := w.who.cell, hi := w.who.hi, gid := w.who.gid, asid := 0, msgid := w.who.msgid, act := w.who.act, pc := 0
           ea := w.off, loc := .port c w.off, n := 16, op := .btest w.dst } v none

/-- The waiting BTESTs of a port that a test selects are answered (R136). -/
def State.wake (s : State) (c : Nat) (p : Watch → Option Nat) : State :=
  let l := (s.cell c).watch
  let s1 := s.mapCell c (fun x => { x with watch := l.filter (fun w => (p w).isNone) })
  l.foldl (fun s w => match p w with | some v => s.send c (btReply w c v) | none => s) s1

/-- The BTESTs of a port whose barriers are complete are answered (R136). -/
def State.scanBars (s : State) (c : Nat) : State :=
  if (s.cell c).watch.isEmpty then s
  else
    s.wake c (fun w =>
      let v := memRead s.mem (padKey c w.off) 16
      if bwStat v = 0 then none else some (bwToken v))

/-- A barrier or ring operation at its port: the state, and what goes back. -/
def State.portOp (s : State) (a : Access) (c off : Nat) : State × Flight :=
  let key := padKey c off
  let v := memRead s.mem key a.n
  if s.bad key a.n && (match a.op with | .binit => false | _ => true) then (s, .reply a 0 (some a.ueTrap))
  else
    match a.op with
    | .binit =>
      ((s.wake c (fun w => if w.off = off then some (0x42 * 2 ^ 48) else none)).write a.writer a.loc 16 0 (fullMask 16) 3, .ack a)
    | .bpost n =>
      if bwStat v ≠ 0 then (s.countFor a.gid c 12, .ack a)
      else ((s.write a.writer a.loc 16 (bwPost v n) (fullMask 16) 3).scanBars c, .ack a)
    | .advance consumer n nslot _ =>
      let r := cwUpdate consumer nslot n v
      (match r.1 with | some w => s.write a.writer a.loc 8 w (fullMask 8) 3 | none => s, .reply a r.2 none)
    | _ => (s, .reply a v none)

/-- A memory access carried out at a key: the state, and what goes back (R86, R97, R140, R157). A load uses the
bytes that its cell does not supply; a poisoned line goes into no L1 (R59, R422). -/
def State.serveAt (s : State) (a : Access) (key : Nat) : State × Flight :=
  match a.op with
  | .store data mask kind => ((s.write a.writer a.loc a.n data mask kind).spoil a.loc a.bad, .ack a)
  | .load _ _ =>
    if s.badBut key a.n a.ovMask then (s, .reply a 0 (some a.ueTrap))
    else if a.op.wholeLine && !s.bad (key / 64 * 64) 64 then (s, .reply a (memRead s.mem (key / 64 * 64) 64) none)
    else (s, .reply { a with op := a.op.noFill } (memRead s.mem key a.n) none)
  | .atomic _ _ _ _ | .cas _ _ _ _ | .amof _ _ _ _ =>
    if s.bad key a.n then (s, .reply a 0 (some a.ueTrap))
    else
      let old := memRead s.mem key a.n
      match a.op.newVal old with
      | some v => (s.write a.writer a.loc a.n v (fullMask a.n) 3, .reply a old none)
      | none => (s, .reply a old none)
  | .hbind _ key2 _ =>
    let k := Nat.min a.n (64 - key % 64)
    if s.badBut key k a.ovMask || s.badBut key2 (a.n - k) (a.ovMask / 2 ^ k) then (s, .reply a 0 (some a.ueTrap))
    else (s, .reply a (memRead s.mem key k + 256 ^ k * memRead s.mem key2 (a.n - k)) none)
  | _ => (match a.loc with | .port c off => s.portOp a c off | _ => (s, .ack a))

/-- The kind of a ring entry of what an access writes. -/
def AOp.kind : AOp → Option Nat
  | .store _ _ kind => some kind
  | .atomic _ _ _ _ | .cas _ _ _ _ | .amof _ _ _ _ | .binit | .bpost _ | .advance _ _ _ _ => some 3
  | _ => none

/-- Whether an access would write and must wait first (R99, R430). -/
def State.accWaits (s : State) (a : Access) : Bool := a.op.kind.any (s.ringWaits a.writer a.loc)

/-- The lines that a home slice's cache holds (R85). -/
def State.hsLines (s : State) (pa : Nat) : List Nat := lookD (s.die (homeDie pa)).hs (homeSlice pa) []

/-- The set of a line in a home slice (R85). -/
def hsSet (line : Nat) : Nat := fld (line * 64) 21 18 * 64 + fld (line * 64) 11 6

/-- A line made the most recent of its slice, at most sixteen to a set (R85). -/
def State.hsTouch (s : State) (pa : Nat) : State :=
  let l := pa / 64
  let rest := (s.hsLines pa).filter (· != l)
  let out := (rest.filter (fun x => hsSet x == hsSet l)).drop 15
  s.mapDie (homeDie pa) (fun d => { d with hs := put d.hs (homeSlice pa) (l :: rest.filter (fun x => !out.contains x)) })

/-- A line read from its stack: a single-bit error in it is corrected, and counted for a grid (R58). -/
def State.correct (s : State) (g pa : Nat) : State :=
  if s.weak.contains (pa / 64) then
    { s.countDie (homeDie pa) g 0x105 with weak := s.weak.filter (· != pa / 64) }
  else s

/-- An access at once of a line at its home slice, for a grid and from a die: it takes a slot of the slice and the flits
to another die and back, and a miss a slot of the stack; none while they are spent (R58, R85, R86, R383, log 92). -/
def State.hsRead (s : State) (g d pa : Nat) : Option State :=
  (s.slot g (homeDie pa) .hs).bind (fun t => (t.roundTrip g d (homeDie pa)).bind (fun t =>
    if (t.hsLines pa).contains (pa / 64) then some ((t.countDie (homeDie pa) g 0x100).hsTouch pa)
    else (t.slot g (homeDie pa) .hbm).map (fun u => ((u.countDie (homeDie pa) g 0x101).correct g pa).hsTouch pa)))

/-- An access that reaches its serialisation point when nothing stands before it: served, its answer
on the way back. While its ring is full it waits, and each step that tries counts one in TRACE_STALL (R99,
log 81). -/
def State.arrive (s : State) (k n : Nat) (cell : Nat) (a : Access) (key : Nat) : State :=
  if s.accWaits a then s.ringTry a.writer a.loc (a.op.kind.getD 0)
  else
    let r := (s.land k).serveAt a key
    r.1.resend n cell r.2

/-- A BTEST at its port: answered where its barrier is no longer open or is poisoned, and else watched; none while 32
are (R136). -/
def State.btestAt (s : State) (n c d off : Nat) (a : Access) (dst : RegSpec) : Option State :=
  let v := memRead s.mem (padKey d off) 16
  let bad := s.bad (padKey d off) 16
  if bwStat v ≠ 0 ∨ bad then some (s.resend n c (if bad then .reply a 0 (some a.ueTrap) else .reply a (bwToken v) none))
  else if 32 ≤ (s.cell d).watch.length then none
  else
    let w : Who := { cell := a.cell, hi := a.hi, act := a.act, msgid := a.msgid, gid := a.gid }
    some (s.mapCell d (fun x => { x with watch := x.watch ++ [{ off := off, who := w, dst := dst }] }))

/-- PORT_ARRIVAL: an access enters the port of its cell in the port's order (R97, R98, R136, R273). A BTEST
on an open barrier is watched; it waits while 32 are, and one from another die while its flits are spent (R136,
R383). -/
def execPortArrival (k : Nat) (s : State) : Out :=
  match s.flight k with
  | some ⟨n, c, .access a⟩ =>
    match a.loc with
    | .port d off =>
      if s.blocked n a then .next s
      else if s.accWaits a then .next (s.arrive k n c a (padKey d off))
      else
        match s.roundTrip a.gid (dieOf a.cell) (dieOf d) with
        | none => .next s
        | some t =>
          match a.op with
          | .btest dst => .next (((t.land k).btestAt n c d off a dst).getD s)
          | .hstat _ => .next (t.arrive k n c a (padKey d off))
          | _ => .next ((t.arrive k n c a (padKey d off)).scanBars d)
    | _ => .next s
  | _ => .next s

/-- BARRIER_ARRIVE: the count of a landed piece reaches its barrier, a write from a tongs channel; one that has
more than its total counts no further (R98, R99, R135, log 65). -/
def execBarrierArrive (k : Nat) (s : State) : Out :=
  match s.flight k with
  | some ⟨_, src, .count c off n gid msgid⟩ =>
    let v := memRead s.mem (padKey c off) 16
    let w : Writer := { gid := gid, asid := asidOf (s.lr gid), src := src, msgid := msgid }
    if 1 < bwStat v then .next (s.land k)
    else if s.ringWaits w (.port c off) 4 then .next (s.ringTry w (.port c off) 4)
    else .next (((s.land k).write w (.port c off) 16 (bwArrive v n) (fullMask 16) 4).scanBars c)
  | _ => .next s

/-- The slots of an access at its home slice: one of the slice's die, and the flits of the request and its answer when
that is another die (R383, log 92). -/
def State.hsSlots (s : State) (a : Access) (pa : Nat) : Option State :=
  match s.slot a.gid (homeDie pa) .hs with
  | none => none
  | some t => t.roundTrip a.gid (dieOf a.cell) (homeDie pa)

/-- HOME_SLICE_ARRIVAL: a hit is served; a miss waits for its fill (R85, R86). -/
def execHomeSliceArrival (k : Nat) (s : State) : Out :=
  match s.flight k with
  | some ⟨n, c, .access a⟩ =>
    match a.loc with
    | .home pa =>
      if s.blocked n a then .next s
      else
        match s.hsSlots a pa with
        | none => .next s
        | some t =>
          let hit := (s.hsLines pa).contains (pa / 64)
          if hit && s.accWaits a then .next (s.arrive k n c a pa)
          else let s := t
          if hit then
            .next (((s.countDie (homeDie pa) a.gid 0x100).hsTouch pa).arrive k n c a pa)
          else .next (((s.land k).countDie (homeDie pa) a.gid 0x101).resend n c (.fill a))
    | _ => .next s
  | _ => .next s

/-- HOME_SLICE_FILL: the line arrives from memory and the access is served (R58, R86). -/
def execHomeSliceFill (k : Nat) (s : State) : Out :=
  match s.flight k with
  | some ⟨n, c, .fill a⟩ =>
    match a.loc with
    | .home pa =>
      if s.blocked n a then .next s
      else
        match s.slot a.gid (homeDie pa) .hbm with
        | none => .next s
        | some t =>
          if s.accWaits a then .next (s.arrive k n c a pa)
          else .next (((t.correct a.gid pa).hsTouch pa).arrive k n c a pa)
    | _ => .next s
  | _ => .next s

/-- HOST_WINDOW_ACCESS: the host die serves the accesses of one task in its order (R64, R484). -/
def execHostWindowAccess (k : Nat) (s : State) : Out :=
  match s.flight k with
  | some ⟨n, c, .access a⟩ =>
    match a.loc with
    | .host pa => if s.blocked n a then .next s else .next (s.arrive k n c a pa)
    | _ => .next s
  | _ => .next s

/-- TRACE_RING_DRAIN: the oldest entry of a ring goes to the recording area of its grid (R99, R429).
Rings 0 to 511 are the clusters', the others the home slices'. -/
def execTraceRingDrain (ring : Nat) (s : State) : Out :=
  let r : RingId := if ring < 512 then .pad ring else .slice ((ring - 512) / 64) ((ring - 512) % 64)
  match s.ring r with
  | [] => .next s
  | e :: rest =>
    match s.grids.find? (fun g => recording g.2.lr && asidOf g.2.lr == fld e 95 80) with
    | some g => .next ((s.setRing r rest).record g.1 (cellAt (fld e 79 77) (fld e 76 67)) e)
    | none => .next (s.setRing r rest)

/-! ### Answers -/

/-- Whether the task that made an access still runs. -/
def State.live (s : State) (c : Nat) (hi : Bool) (act : Nat) : Bool :=
  match (s.bank c hi).task with
  | some k => k.act == act
  | none => false

/-- A returned line placed in the L1: dirty bytes keep their values, and every other byte, a clean valid one too, takes
the home slice's (log 82); nothing is placed while a write of the line by the cluster's own cells is unanswered, nor
merged into a line that has left (R87, R88, R105, R142). -/
def State.l1Fill (s : State) (c pa data : Nat) (f : Fill) : State :=
  let own := s.l1Cells c
  let busy := s.fly.any (fun f => match f.f.acc? with
    | some b => own.contains b.cell && b.op.writes && sameLine b.loc (.home pa)
    | none => false)
  let old := s.l1Look c pa
  if busy || f == .none || (f == .merge && old.isNone) then s
  else
    let x := old.getD (.empty pa false)
    s.l1Put c { x with valid := fullMask 64, data := blend 64 data x.data x.dirty, keep := x.keep || f == .keep,
                       bad := Nat.land x.bad (wordsOf x.dirty) }

/-- The bytes of an answer that the access asked for. -/
def Access.part (a : Access) (data : Nat) : Nat :=
  let d := if a.op.wholeLine then a.cut data else data
  blend a.n d a.ovData a.ovMask

/-- Whether a ring descriptor breaks a rule of R267. -/
def ringBad (d : Nat) : Bool :=
  let sp := fld d 223 220
  let sz := fld d 191 160
  let ns := fld d 143 128
  let base := fld d 17 0
  fld d 255 224 != 0 || fld d 209 192 != 0 || fld d 159 144 != 0 || fld d 127 18 != 0 || sp == 0 || decide (3 < sp) ||
    (sp == 2 && fld d 219 214 != 0) || sz % 64 != 0 || decide (sz < 64) || decide (131072 < sz) || ns == 0 ||
    decide (4096 < ns) || base % 64 != 0 || decide (base < 64) || decide (262144 < base + ns * sz)

/-- The cell that owns a ring, for a binding cell (R267). -/
def ringOwner (c d : Nat) : Nat :=
  match fld d 223 220 with
  | 1 => c
  | 2 => cellIn (gcluOf c) (fld d 213 210)
  | _ => cellAt (dieOf c) (fld d 219 210)

/-- The binding of a handle and its status (R272). -/
def bindRing (lr c : Nat) (b : Bank) (h d : Nat) : Bank × Nat :=
  if ringBad d then (b, 1)
  else if !inRect lr (ringOwner c d) then (b, 2)
  else ({ b with hnd := put b.hnd h { desc := d, ctl := idxOf (ringOwner c d) * 2 ^ 18 + fld d 17 0 - 16 } }, 0)

/-- A token written in its bank: the register, no longer pending, and the acquire that each reading of it makes
(R124, R145). -/
def tokenBank (b : Bank) (r : RegSpec) (v : Word) (sc : Scope) : Bank :=
  let b1 := dropPend (writeReg b r v) r
  { b1 with tokens := put b1.tokens r.toNat sc }

/-- The registers that an access leaves pending no longer so: its destination, and the handle of HBIND, HADVP and
HADVC (R189, R191). -/
def Access.free (a : Access) (b : Bank) : Bank :=
  let b1 := match a.op.ret.dst? with | some r => dropPend b r | none => b
  match a.also with | some r => dropPend b1 r | none => b1

/-- An answer delivered to the bank of its task: a token for BTEST, a binding for HBIND, a value otherwise
(R105, R136, R145, R272). -/
def State.deliverTo (s : State) (a : Access) (data : Nat) : State :=
  let free := a.free
  s.mapBank a.cell a.hi (fun b =>
    match a.op with
    | .btest r => tokenBank b r (BitVec.ofNat 64 data) .die
    | .hbind h _ r =>
      let e := bindRing (s.lr a.gid) a.cell (free b) h (a.part data)
      writeReg e.1 r (BitVec.ofNat 64 e.2)
    | _ => deliver (free b) a.op.ret (a.part data))

/-- The line on its way to the L1s of some cells, which left its home slice before a write of theirs that is now
answered: it is not placed (R142). -/
def State.unfillLine (s : State) (c : Nat) (loc : Loc) : State :=
  { s with fly := s.fly.map (Fly.unfill (s.l1Cells c) (fun b => sameLine b.loc loc)) }

/-- LOAD_RETURN: the value is written, the line placed, and an acquire made; a poisoned read traps. An
answer to a task that has ended is dropped. A release that waited for this load sends its write-backs (R105, R106,
R146, R159, R422). -/
def execLoadReturn (k : Nat) (s : State) : Out :=
  match s.flight k with
  | some ⟨_, _, .reply a data t⟩ =>
    let s := s.land k
    let s := match a.loc, t, a.op with
      | .home pa, none, .load _ f => s.l1Fill a.cell pa data f
      | .home _, _, op => if op.writes then s.unfillLine a.cell a.loc else s
      | _, _, _ => s
    if a.op.isPrefetch then .next s
    else if !s.live a.cell a.hi a.act then .next (s.relsGo a.cell)
    else
      match t with
      | some t => .next (((s.mapBank a.cell a.hi a.free).takeTrap a.cell a.hi t).relsGo a.cell)
      | none =>
        let s := s.deliverTo a data
        .next ((match a.acq with | some sc => s.acquire a.cell sc | none => s).relsGo a.cell)
  | _ => .next s

/-- WRITE_THROUGH_ACK: a write is acknowledged; a line on its way to the writer's L1, which may lack the write, has
been dealt with before (R89, R90, R142). -/
def execWriteThroughAck (k : Nat) (s : State) : Out :=
  match s.flight k with
  | some ⟨n, _, .ack a⟩ =>
    let own := s.l1Cells a.cell
    if s.fly.any (fun f => match f.f with
        | .reply b _ _ => sameLine b.loc a.loc &&
            ((own.contains b.cell && b.op.wholeLine) || (decide (f.n < n) && b.cell == a.cell))
        | _ => false) then .next s
    else .next (s.land k)
  | _ => .next s

/-- L1_EVICTION: a line leaves its L1, its dirty bytes sent to the home slice (R92). -/
def execL1Eviction (c line : Nat) (s : State) : Out :=
  match (s.cell c).l1.find? (fun x => x.pa == line) with
  | none => .next s
  | some x => .next ((s.writeBack c x).mapCell c (fun y => { y with l1 := y.l1.filter (fun l => l.pa != line) }))

end Sys2Proof.Machine
end

