-- ==== Sys2Proof/Machine/Walk.lean ====
section
/-!
DEFINITION. Machine/Walk.lean: the caches of translations and the requests of engines, and the walk as the launch
unit makes it at once (03 R66, R67,
R69, R72, R73).
-/

namespace Sys2Proof.Machine

/-! ### TLBs (R72) -/

/-- A translation placed in a cell's TLB (R72, R73). -/
def State.cellTlb (s : State) (c : Nat) (e : TlbEnt) : State :=
  s.mapCell c (fun x => { x with tlb := tlbPut 64 x.tlb e })

/-- The sets of a cluster TLB in which an address may stand: one for each page size (R72). -/
def tlbSets (va : Nat) : List Nat := [fld va 19 12, fld va 23 16, fld va 28 21, fld va 37 30]

/-- The set of a translation (R72). -/
def TlbEnt.set (e : TlbEnt) : Nat := e.vpn % 256

/-- The entry of a cluster TLB that matches (R72). -/
def State.cluTlb? (s : State) (c asid va : Nat) : Option TlbEnt :=
  (tlbSets va).findSome? (fun k => (tlbFind (lookD (s.cluster (gcluOf c)).tlb k []) asid va).bind (fun e =>
    if e.set = k then some e else none))

/-- A translation placed in a cluster TLB, four to a set (R72). -/
def State.cluTlbPut (s : State) (c : Nat) (e : TlbEnt) : State :=
  s.mapCluster (gcluOf c) (fun x => { x with tlb := put x.tlb e.set (tlbPut 4 (lookD x.tlb e.set []) e) })

/-! ### Walk caches (R72) -/

/-- Keys of the walk caches (R72). -/
def wcKey (lvl va : Nat) : Nat := va / 2 ^ (12 + 9 * lvl)

/-- A walk cache of a die, by level. -/
def Die.wc (d : Die) (lvl : Nat) : List WalkEnt := if lvl = 4 then d.wc4 else if lvl = 3 then d.wc3 else d.wc2

/-- A pointer entry, or a 1 GiB leaf, read at an address, placed in its walk cache (R72). A full one loses the entry
that was placed longest ago; a hit refreshes none (log 6). -/
def Die.wcPut (d : Die) (lvl asid va pte at_ : Nat) : Die :=
  let ins (l : List WalkEnt) : List WalkEnt :=
    ({ asid := asid, key := wcKey lvl va, pte := pte, at_ := at_ } :: l.filter (fun e => !(e.asid == asid && e.key == wcKey lvl va))).take 256
  if lvl = 4 then { d with wc4 := ins d.wc4 } else if lvl = 3 then { d with wc3 := ins d.wc3 }
  else if lvl = 2 then { d with wc2 := ins d.wc2 } else d

/-- The walk-cache entry of a level that matches (R72). -/
def Die.wcHit (d : Die) (lvl asid va : Nat) : Option WalkEnt :=
  (d.wc lvl).find? (fun e => e.asid == asid && e.key == wcKey lvl va)

/-- The deepest walk-cache hit: the level below it and its table, or the level and table of a cached 1 GiB
leaf (R69, R72). -/
def Die.wcFind (d : Die) (asid va : Nat) : Option (Nat × Nat) :=
  let hit (lvl : Nat) : Option (Nat × Nat) :=
    (d.wcHit lvl asid va).map (fun e =>
      if bit e.pte 1 then (lvl, e.at_ / 4096 * 4096) else (lvl - 1, fld e.pte 51 12 * 4096))
  (hit 2).orElse (fun _ => (hit 3).orElse (fun _ => hit 4))

/-- A cached 1 GiB leaf that serves a read or a fetch without reading its entry again: a write reads it for its
DIRTY bit, and one that lacks the permission reads it for the fault (R66, R69, R72). -/
def Die.wcLeaf (d : Die) (asid va kind : Nat) : Option WalkEnt :=
  (d.wcHit 2 asid va).filter (fun e => bit e.pte 1 && !kindWrites kind && (pteFault e.pte 2 kind).isNone)

/-- The fill of a PF started under a translation, or dropped: where its page is not of type 0 or not readable, and where
it would meet poison (R59, R64, R108). -/
def State.prefetch (s : State) (a : Access) (e : TlbEnt) : State :=
  let pa := e.pa a.ea
  if e.mtype ≠ 0 || !permits e.read e.write e.exec e.mtype 0 || e.ue || s.bad (pa / 64 * 64) 64 then s
  else s.send a.cell (.access { a with loc := .home pa })

/-! ### Entries of the tables -/

/-- A leaf entry that a walk of die `d` has read and checked: its bits are set, a contiguous group merged, a 1 GiB leaf
placed in the walk cache, and its translation made; none while the read of a group's other line waits for a slot. Poison
of that other line, which only the merge check reads, raises nothing: the check takes the bytes that stand there (R66,
R67, R69, R72, log 83). -/
def State.leafRead (s : State) (d g asid va kind lvl table e : Nat) : Option (TlbEnt × State) :=
  let a := pteAddr table lvl va
  let t := leafEnt asid va e lvl a (bit e 9 || kindWrites kind)
  let group := lvl = 0 ∧ bit e 5
  let r := if group then mergeEnt s.mem table va t else (t, true)
  (if group then s.hsRead g d (Nat.xor (a / 64) 1 * 64) else some s).map (fun s1 =>
    let s2 := if r.2 then s1 else s1.countDie d g 0x106
    let s3 := if lvl = 2 then s2.mapDie d (fun x => x.wcPut 2 asid va (Nat.lor e (if kindWrites kind then 2 ^ 9 else 0)) a) else s2
    (r.1, s3.mapMem (fun m => accDirty m a e kind)))

/-- MEM.UE of a translation whose table line is poisoned (log 83). -/
def ptePoison (va : Nat) : Trap := { cause := .memUe, pc := 0, addr := va }

/-! ### Translations of the engines (R70, R73, R74) -/

/-- The requests for translations that a flight carries. -/
def Flight.xlats : Flight → List Xlat
  | .look x => [x]
  | .walk w => w.x :: w.joined
  | .wread w => w.x :: w.joined
  | .winst w _ => w.x :: w.joined
  | .dirty x _ => [x]
  | .xfail x _ => [x]
  | _ => []

/-- The fault that a flight brings an engine for a request. -/
def Flight.fault? (x : Xlat) : Flight → Option Trap
  | .xfail y t => if y = x then some t else none
  | _ => none

/-- The translation of an address for a command of an engine: from its cluster's TLB. Without one, and for a write whose
copy of DIRTY is clear, a request goes out, once, and the engine waits: no trap. A fault that has come back is taken
(R66, R70, R73, R74). -/
def State.engineXl (s : State) (k : Cmd) (asid a kind : Nat) : Except (Option Trap × State) (TlbEnt × State) :=
  let x : Xlat := { asid := asid, va := a, kind := kind, cell := k.cell, hi := k.hi, act := k.id, eng := true, gid := k.gid }
  let ask (f : Flight) : State := if s.fly.any (fun g => g.f.xlats.contains x) then s else s.send k.cell f
  if 2 ^ 57 ≤ a then .error (some (xltTrap .xltCanon a 15 kind 0), s)
  else
    match s.fly.findIdx? (fun f => (f.f.fault? x).isSome) with
    | some j => .error ((s.fly[j]?).bind (fun f => f.f.fault? x), s.land j)
    | none =>
      match s.cluTlb? k.cell asid a with
      | none => .error (none, ask (.look x))
      | some e =>
        if !permits e.read e.write e.exec e.mtype kind then .error (some (xltTrap .xltPerm a e.level kind (e.leafAt a)), s)
        else if kindWrites kind && !e.dirty then .error (none, ask (.dirty x e))
        else .ok (e, s.cluTlbPut k.cell e)

/-! ### A walk made at once -/

/-- The number under which the walks of the launch unit count: that of no grid (R433, log 87). -/
def noGrid : Nat := 2 ^ 64

/-- The walk of R69 from a level and a table, through the walker of die `d`; none where a read waits for a slot. -/
def State.walkGo (d g asid va kind : Nat) : Nat → Nat → State → Except (Option (Trap × State)) (TlbEnt × State)
  | lvl, table, s =>
    let a := pteAddr table lvl va
    let e := memRead s.mem a 8
    match s.hsRead g d a with
    | none => .error none
    | some s1 =>
      if s.bad a 8 then .error (some (ptePoison va, s1))
      else
        match pteFault e lvl kind with
        | some c => .error (some (xltTrap c va lvl kind a, s1))
        | none =>
          if pteLeaf e lvl then
            (match s1.leafRead d g asid va kind lvl table e with
             | some r => .ok r
             | none => .error none)
          else
            match lvl with
            | 0 => .error (some (xltTrap .xltInvalid va 0 kind a, s1))
            | l + 1 => State.walkGo d g asid va kind l (fld e 51 12 * 4096) (s1.mapDie d (fun x => x.wcPut (l + 1) asid va e a))

/-- The translation of an address for the launch unit, a hearth or a gate of die `d`, which hold none: the walker's, from
its walk caches or from the root, in one step and beside its 64 walks (log 87); none where a read waits for a slot. A root
outside global memory is XLT.PHYS at the level of the context entry (R69, R72, R383, log 73). -/
def State.walk (s : State) (d g asid va kind : Nat) : Except (Option (Trap × State)) (TlbEnt × State) :=
  if 2 ^ 57 ≤ va then .error (some (xltTrap .xltCanon va 15 kind 0, s))
  else
    match ctxRoot s.ctx asid with
    | none => .error (some (xltTrap .xltInvalid va 5 kind 0, s))
    | some root =>
      if !inGlobal root then .error (some (xltTrap .xltPhys va 5 kind 0, s))
      else
        match (s.die d).wcLeaf asid va kind with
        | some e => .ok (leafEnt asid va e.pte 2 e.at_ (bit e.pte 9), s.mapMem (fun m => accDirty m e.at_ (memRead m e.at_ 8) kind))
        | none =>
          let start := ((s.die d).wcFind asid va).getD (4, root)
          State.walkGo d g asid va kind start.1 start.2 s

end Sys2Proof.Machine
end

