-- ==== Sys2Proof/Machine/LoadStore.lean ====
section
/-!
DEFINITION. Machine/LoadStore.lean: classes 0x06, 0x07, 0x08 and 0x09: loads, stores, atomics, fences and
cache instructions (04 R105 to R113, 06 R156 to R160, 07 R176).
-/

namespace Sys2Proof.Machine

/-- The effective address of a memory operand (R35). -/
def State.ea (s : State) (m : MemRef) : Nat := Sys2Proof.Machine.ea s.rd m

/-! ### Class 0x06 -/

/-- LD (R105). -/
def execLd (x : MemR) (s : State) : Out :=
  .next (s.load x.sp x.sc x.hint (s.ea x.m) (Ty.width x.ty / 8) (.reg x.a x.ty) none)

/-- LDA: the load, then an acquire at its scope (R106). -/
def execLda (x : MemR) (s : State) : Out :=
  .next (s.load x.sp x.sc x.hint (s.ea x.m) (Ty.width x.ty / 8) (.reg x.a x.ty) (some x.sc))

/-- LEA (R107). -/
def execLea (x : LeaR) (s : State) : Out := .next (s.finish x.a (BitVec.ofNat 64 (s.ea x.m)))

/-- PF: a fill of the line is started, or dropped. It waits for nothing: where its cell holds no translation, one is
asked for on its account (R73, R74, R108). -/
def execPf (x : PfR) (s : State) : Out :=
  let ea := s.ea x.m
  let fill : Fill := match x.hint with | .normal => .line | .keep => .keep | _ => .none
  let a : Access := { s.acc ea (.home 0) 1 (.load .prefetch fill) with task := false }
  let out : State :=
    if x.sp ≠ .g ∨ 2 ^ 57 ≤ ea then s
    else
      match tlbFind (s.cell s.cur.cell).tlb s.asid ea with
      | some e => if e.read then (s.tlbUse ea).prefetch a e else s
      | none =>
        s.send s.cur.cell (.look { asid := s.asid, va := ea, kind := 0, cell := s.cur.cell, hi := s.cur.hi, act := s.act, pf := some a, gid := s.gid })
  .next out.retire

/-! ### Class 0x07 -/

/-- The stored bytes of a register (R109). -/
def State.stData (s : State) (x : MemR) : Nat := (s.rd x.a).toNat % 2 ^ Ty.width x.ty

/-- ST (R109). -/
def execSt (x : MemR) (s : State) : Out :=
  let n := Ty.width x.ty / 8
  .next (s.store x.sp x.sc x.hint (s.ea x.m) n (fullMask n) (s.stData x) 0)

/-- STL: the checks, a release at its scope, then the store (R110). -/
def execStl (x : MemR) (s : State) : Out :=
  let n := Ty.width x.ty / 8
  let ea := s.ea x.m
  match s.resolve x.sp ea n 1 with
  | .error t => .next t
  | .ok p =>
    match s.withSets [(p, n)] with
    | .error t => .next t
    | .ok _ =>
      match s.stateTrap x.sp ea n ea with
      | some t => .next t
      | none =>
      if s.putTraps p then .next (s.putTo p x.sc x.hint ea n (fullMask n) (s.stData x) 1)
      else
        match s.release x.sc with
        | .error t => .next t
        | .ok t => .next (t.putTo p x.sc x.hint ea n (fullMask n) (s.stData x) 1).retire

/-! ### Class 0x08 (R157 to R160, R176) -/

/-- The bytes of an atomic: w / 8 (R159). -/
def AOp.bytes (ty : Ty) : Nat := Ty.width ty / 8

/-- Whether an atomic's ordering releases (R159). -/
def Ord.rels : Ord → Bool
  | .rel | .ar => true
  | _ => false
/-- Whether an atomic's ordering acquires (R159). -/
def Ord.acqs : Ord → Bool
  | .acq | .ar => true
  | _ => false

/-- What taking a line for an atomic inside a held set uses at its home slice, when the buffer does not hold its bytes; none
while slots or flits are spent (R86, R176, R383). -/
def State.heldTake (s : State) (p : Spot) (n : Nat) : Option State :=
  match p.loc with
  | .home pa => if (s.bufBytes p n).1 = fullMask n then some s else s.hsRead s.gid (dieOf s.cur.cell) pa
  | _ => some s

/-- An atomic inside a held set: read through the buffer, computed and buffered; it waits until no
access of the cell to its line is under way (R176). -/
def State.heldAtomic (s : State) (p : Spot) (ea n : Nat) (op : AOp) : State :=
  let busy := s.fly.any (fun f => match f.f.acc? with
    | some b => b.cell == s.cur.cell && sameLine b.loc p.loc
    | none => false)
  if busy then s
  else if s.localBad p .die n || s.badBut p.loc.key n (s.overlay p n).1 then s.trap .memUe ea (p.loc.uePlace * 2 ^ 56)
  else
    match s.heldTake p n with
    | none => s
    | some s =>
    let s := s.used p ea
    let ov := s.overlay p n
    let old := blend n (memRead s.mem p.loc.key n) ov.2 ov.1
    let new := op.newVal old
    match commitPut s.serial s.b.commit p ((if new.isSome then fullMask n else 0) * 2 ^ (p.key % 64))
        (new.getD 0 * 2 ^ (8 * (p.key % 64))) with
    | none => s.ovf ea
    | some l => ((s.mapB (fun b => deliver { b with commit := l } op.ret old))).retire

/-- An atomic's access as it leaves the cell: the dirty bytes of its line go first (R92, R157). -/
def State.sendAtomic (s0 : State) (p : Spot) (sc : Scope) (ord : Ord) (ea n : Nat) (op : AOp) : State :=
  let s := s0.used p ea
  let s1 := match p.loc with
    | .home pa => if p.mt = 0 then (match s.l1Look s.cur.cell pa with
        | some x => (s.writeBack (s.l1Cell s.cur.cell pa) x).l1Drop s.cur.cell pa
        | none => s) else s
    | _ => s
  let a : Access := { s1.acc ea p.loc n op with acq := if Ord.acqs ord then some sc else none, unc := p.mt != 0 }
  ((s1.send s1.cur.cell (.access a)).mapB (fun b => match op.ret.dst? with | some r => addPend b r | none => b)).retire

/-- Whether an atomic would meet poisoned data: what stands at its place once the dirty bytes of its line have gone
there (R59, R92, R160). -/
def State.atomicBad (s : State) (p : Spot) (n : Nat) : Bool :=
  match p.loc with
  | .home pa =>
    (match (if p.mt = 0 then s.l1Look s.cur.cell pa else none) with
     | some x => Nat.land x.bad (wordsOf x.dirty) != 0 || (x.dirty != fullMask 64 && s.bad pa n)
     | none => s.bad pa n)
  | _ => s.bad p.loc.key n

/-- Whether a write of the executing cell to a place's line has not arrived there. -/
def State.writing (s : State) (p : Spot) : Bool :=
  s.fly.any (fun f => match f.f.coming? with
    | some b => (s.l1Cells s.cur.cell).contains b.cell && b.op.writes && sameLine b.loc p.loc
    | none => false)

/-- An atomic; one that releases first looks for poison, once the writes of its cell to the line have arrived, so that
it traps without a release (R159, R160, R174). -/
def State.atomic (s : State) (sp : Space) (sc : Scope) (ord : Ord) (ea n : Nat) (op : AOp) : State :=
  match s.resolve sp ea n 2 with
  | .error t => t
  | .ok p =>
    match s.withSets [(p, n)] with
    | .error t => t
    | .ok _ =>
      if s.inHeld p n then s.heldAtomic p ea n op
      else if s.holder then s.trap .asetIrrev ea 0
      else if Ord.rels ord then
        if s.writing p then s
        else if s.atomicBad p n then s.trap .memUe ea (p.loc.uePlace * 2 ^ 56)
        else
          match s.release sc with
          | .error t => t
          | .ok t => t.sendAtomic p sc ord ea n op
      else s.sendAtomic p sc ord ea n op

/-- The effective address of an atomic (R158). -/
def State.eaA (s : State) (x : AmoR) : Nat := eaAtomic s.rd x.b x.off

/-- The low bytes of an atomic's operand (R159). -/
def State.amoOp (s : State) (ty : Ty) (r : RegSpec) : Nat := (s.rd r).toNat % 2 ^ Ty.width ty

/-- AMO (R159). -/
def execAmo (x : AmoR) (s : State) : Out :=
  .next (s.atomic x.sp x.sc x.ord (s.eaA x) (AOp.bytes x.ty) (.atomic x.op x.ty (s.amoOp x.ty x.c) x.a))
/-- CAS (R159). -/
def execCas (x : AmoR) (s : State) : Out :=
  .next (s.atomic x.sp x.sc x.ord (s.eaA x) (AOp.bytes x.ty) (.cas x.ty (s.amoOp x.ty x.c) (s.amoOp x.ty x.a) x.a))
/-- AMOF (R159). -/
def execAmof (x : AmoR) (s : State) : Out :=
  .next (s.atomic x.sp x.sc x.ord (s.eaA x) (AOp.bytes x.ty) (.amof x.op x.ty (s.amoOp x.ty x.c) x.a))

/-! ### Class 0x09 -/

/-- A wait, begun once, until no older flight of a kind is under way. -/
def State.waitFor (s : State) (p : Flight → Bool) : Except State State :=
  match s.b.task with
  | none => .ok s
  | some k =>
    let m := k.rel.getD s.serial
    let s1 := s.mapT (fun k => { k with rel := some m })
    if s.fly.all (fun f => !(decide (f.n < m) && p f.f)) then .ok s1 else .error s1

/-- FENCE, by its kind: a release for which the task's later writes wait, an acquire after its earlier loads, both,
or a release that is complete, and every earlier access answered, before anything later issues (R156). -/
def execFence (x : FenceR) (s : State) : Out :=
  match x.kind with
  | .rel => .next (s.relBegin none x.sc).retire
  | .full =>
    (match s.release x.sc with
     | .error t => .next t
     | .ok t => .next (t.acquire t.cur.cell x.sc).retire)
  | k =>
    match s.waitFor (loadOf s.act) with
    | .error t => .next t
    | .ok t =>
      let t := if k = .ar then t.relBegin none x.sc else t
      .next (t.acquire t.cur.cell x.sc).retire

/-- Whether a flight is a scratchpad write of an activation not yet at its port: a store, an atomic, a barrier's BINIT
or BPOST, or a ring's advance (R111). -/
def padStoreOf (act : Nat) (f : Flight) : Bool :=
  match f.coming? with
  | some a => a.task && a.act == act && a.op.writes && (match a.loc with | .port _ _ => true | _ => false)
  | none => false

/-- SWF: waits for the task's scratchpad writes, then empties operand caches (R111). -/
def execSwf (clus : Bool) (s : State) : Out :=
  match s.waitFor (padStoreOf s.act) with
  | .error t => .next t
  | .ok t =>
    let cs := if clus then (List.range 16).map (cellIn (gcluOf t.cur.cell)) else [t.cur.cell]
    .next (cs.foldl (fun s c => s.mapCell c (fun x => { x with opc := [] })) t).retire

/-- The checks of CFLUSH and CINV: the form and a valid leaf of any permission (R112). -/
def State.lineSpot (s : State) (ea : Nat) : Except State Spot :=
  match s.xl ea 4 with
  | .error t => .error t
  | .ok e => .ok { loc := .home (e.pa ea), mt := e.mtype, sp := 0, key := ea }

/-- CFLUSH: the dirty bytes go home and the line is dropped; it ends when they are acknowledged (R112). -/
def execCflush (m : MemRef) (s : State) : Out :=
  match s.lineSpot (s.ea m) with
  | .error t => .next t
  | .ok p =>
    let pa := p.loc.key
    let s := s.used p (s.ea m)
    let s1 := match (if p.mt = 0 then s.l1Look s.cur.cell pa else none) with
      | some x => (s.writeBack (s.l1Cell s.cur.cell pa) x).l1Drop s.cur.cell pa
      | none => s
    let own := s.l1Cell s.cur.cell pa
    match s1.waitFor (fun f => match f.acc? with
        | some a => a.cell == own && a.op.isStore && sameLine a.loc p.loc
        | none => false) with
    | .error t => .next t
    | .ok t => .next t.retire

/-- CINV: the line is dropped, its dirty bytes lost (R112). -/
def execCinv (m : MemRef) (s : State) : Out :=
  match s.lineSpot (s.ea m) with
  | .error t => .next t
  | .ok p =>
    let s := s.used p (s.ea m)
    .next (if p.mt = 0 then s.l1Drop s.cur.cell p.loc.key else s).retire

/-- A place moved to the start of its line (R113). -/
def Spot.toLine (p : Spot) : Spot :=
  let loc := match p.loc with
    | .home pa => Loc.home (pa / 64 * 64)
    | .host pa => Loc.host (pa / 64 * 64)
    | .port c off => Loc.port c (off / 64 * 64)
    | .hearth i off => Loc.hearth i (off / 64 * 64)
  { p with loc := loc, key := p.key / 64 * 64 }

/-- CZERO: one write of 64 zero bytes at its scope (R113). -/
def execCzero (x : CzeroR) (s : State) : Out :=
  let ea := s.ea x.m
  match s.resolve x.sp ea 1 1 with
  | .error t => .next t
  | .ok p =>
    match s.withSets [(p.toLine, 64)] with
    | .error t => .next t
    | .ok _ =>
      if s.putTraps p.toLine then
        .next ((s.stateTrap x.sp (ea / 64 * 64) 64 ea).getD (s.putTo p.toLine x.sc .normal ea 64 (fullMask 64) 0 6))
      else .next (s.putTo p.toLine x.sc .normal ea 64 (fullMask 64) 0 6).retire

end Sys2Proof.Machine
end

