-- ==== Sys2Proof/Machine/Sequences.lean ====
section
/-!
DEFINITION. Machine/Sequences.lean: the sequence table of a crucible and the operations on it that ATSEQ
and the stream instructions share (12 R295, R296, R310, 17 R395, R400).
-/

namespace Sys2Proof.Machine

/-- Sequence maps of a crucible (R78). -/
def seqMaps : Nat := 131072
/-- Sequence entries of a crucible (R295). -/
def seqEntries : Nat := 65536

/-- The entry that a handle names (R295). -/
def hEntry (h : Nat) : Nat := fld h 15 0

/-- GEN of an entry, 1 at first (R295). -/
def Crucible.gen (k : Crucible) (e : Nat) : Nat := lookD k.gens e 1

/-- The handle of an entry of a crucible (R295). -/
def Crucible.handle (k : Crucible) (cb e : Nat) : Nat := k.gen e * 2 ^ 18 + cb * 2 ^ 16 + e

/-- The sequence that a handle names for an ASID (R295). -/
def State.seq? (s : State) (asid h : Nat) : Option Seq :=
  if 2 ^ 32 ≤ h then none
  else
    let k := s.cruc (hCruc h)
    (look k.seqs (hEntry h)).filter (fun q => q.asid == asid && k.gen (hEntry h) == fld h 31 18)

/-- An entry freed: its GEN advances and skips 0, and its parent loses it (R295, R296). -/
def Crucible.dropSeq (k : Crucible) (e : Nat) : Crucible :=
  let g := (k.gen e + 1) % 2 ^ 14
  let up := (look k.seqs e).bind (·.parent)
  let seqs := del k.seqs e
  { k with
    gens := put k.gens e (if g = 0 then 1 else g)
    seqs := match up.bind (fun p => (look seqs p).map (fun q => (p, q))) with
      | some (p, q) => put seqs p { q with children := q.children.filter (· != e) }
      | none => seqs }

/-- A sequence and its descendants freed, deepest first; the number freed (R310). -/
def Crucible.freeSeq : Nat → Crucible → Nat → Crucible × Nat
  | 0, k, _ => (k, 0)
  | fuel + 1, k, e =>
    match look k.seqs e with
    | none => (k, 0)
    | some q =>
      let r := q.children.foldl (fun r c => let t := Crucible.freeSeq fuel r.1 c; (t.1, r.2 + t.2)) (k, 0)
      (({ r.1 with pool := r.1.pool.release q.map } : Crucible).dropSeq e, r.2 + 1)

/-- `.free` on a live entry (R310). -/
def Crucible.free (k : Crucible) (e : Nat) : Crucible × Nat := k.freeSeq (k.seqs.length + 1) e

/-- The lowest free entries of the sequence table. -/
def Crucible.freeEntries (k : Crucible) (n : Nat) : List Nat :=
  let rec go (fuel i n : Nat) (acc : List Nat) : List Nat :=
    match fuel with
    | 0 => acc.reverse
    | fuel + 1 =>
      if n = 0 then acc.reverse
      else if (look k.seqs i).isSome then go fuel (i + 1) n acc
      else go fuel (i + 1) (n - 1) (i :: acc)
  go seqEntries 0 n []

/-- Statuses of the crucible (R312). -/
def crNoseq : Nat := 0x6A

/-- `.fork` of an entry into `n` children, which belong to the grid that forks: their entries, or a status (R19, R310). -/
def Crucible.fork (k : Crucible) (gid e n : Nat) : Except Nat (List Nat × Crucible) :=
  match look k.seqs e with
  | none => .error 0x61
  | some q =>
    if 8 < q.children.length + n then .error 0x6C
    else
      match k.pool.fork seqMaps q.map n with
      | .error .depth => .error 0x68
      | .error .nomap => .error 0x69
      | .ok (maps, pool) =>
        let es := k.freeEntries n
        if es.length < n then .error crNoseq
        else
          let child (m : Nat) : Seq := { q with gid := gid, map := m, parent := some e, children := [], stream := none, ctr := [] }
          let seqs := (es.zip maps).foldl (fun a (c, m) => put a c (child m)) k.seqs
          .ok (es, { k with pool := pool, seqs := put seqs e { q with children := q.children ++ es } })

/-- `.commit` of child entry `c` into entry `e`; the children of the child are freed with its entry, so that the parent
is not frozen after it (R310, log 12). None when `c` is not a live child. -/
def Crucible.commit (k : Crucible) (e c : Nat) (flat : Bool) : Option Crucible :=
  match look k.seqs e with
  | none => none
  | some q =>
    if !q.children.contains c then none
    else
      let below := ((look k.seqs c).map (·.children)).getD []
      let k1 := (q.children.filter (· != c) ++ below).foldl (fun k x => (k.free x).1) k
      match look k1.seqs c with
      | none => none
      | some w =>
        let pool := k1.pool.release q.map
        let k2 := ({ k1 with pool := pool } : Crucible).dropSeq c
        let k3 : Crucible := { k2 with
          seqs := put k2.seqs e { q with map := w.map, len := w.len, floor := w.floor, children := [] } }
        some (if flat then { k3 with pool := k3.pool.flatten w.map } else k3)

/-- A sequence freed by its handle, when it is live; whether it was (R310). -/
def State.freeHandle (s : State) (asid h : Nat) : State × Bool :=
  match s.seq? asid h with
  | none => (s, false)
  | some _ => (s.mapCruc (hCruc h) (fun k => (k.free (hEntry h)).1), true)

/-- Whether an append to a sequence has started and not ended; nothing else may stop or overtake it then, so a fork, a
commit, a trim or another append of the sequence waits (R309, log 19). -/
def State.appending (s : State) (n h : Nat) : Bool :=
  s.fly.any (fun f => f.n != n && (match f.f with
    | .cruc k => k.op == .atapp && k.started && fld k.arg 255 224 == h
    | _ => false))

/-- The stream to which a sequence is linked (R296). -/
def State.linkSeq (s : State) (h : Nat) (sid : Option Nat) : State :=
  s.mapCruc (hCruc h) (fun k => match look k.seqs (hEntry h) with
    | some q => { k with seqs := put k.seqs (hEntry h) { q with stream := sid } }
    | none => k)

end Sys2Proof.Machine
end

