-- ==== Sys2Proof/Machine/Engine.lean ====
section
/-!
DEFINITION. Machine/Engine.lean: what the engine commands share: the capture of a descriptor (05 R118), the
queues (02 R45), the issue release (06 R145), guards (11 R287) and tokens (05 R124).
-/

namespace Sys2Proof.Machine

/-- Whether every access of a cell to its own port has arrived there (R97, R118). -/
def State.portClear (s : State) (c : Nat) : Bool :=
  !s.fly.any (fun f => match f.f.coming? with
    | some a => a.cell == c && (match a.loc with | .port d _ => d == c | _ => false)
    | none => false)

/-- Bytes of the issuing cell's scratchpad with the task's own buffered bytes over them (R142, R175). -/
def State.ownBytes (s : State) (off n data : Nat) : Nat :=
  s.b.commit.foldl (fun d l =>
    let lo := l.key % 2 ^ 18
    if l.dsp && l.key / 2 ^ 18 == idxOf s.cur.cell then
      (if off ≤ lo then blend n d (l.data * 2 ^ (8 * (lo - off))) (l.mask * 2 ^ (lo - off))
       else blend n d (l.data / 2 ^ (8 * (off - lo))) (l.mask / 2 ^ (off - lo)))
    else d) data

/-- `n` bytes of the issuing cell's scratchpad at the offset that a register holds, as an instruction
captures them at issue; the state when the offset traps, the cell's own writes are still on their way,
or a word is poisoned (R118, R422). -/
def State.descr (s : State) (r : Word) (align n : Nat) : Except State Nat :=
  match offsetTrap r align n with
  | some cause => .error (s.trap cause r.toNat 0)
  | none =>
    if !s.portClear s.cur.cell then .error s
    else
      let key := padKey s.cur.cell r.toNat
      if s.bad key n then .error (s.trap .memUe r.toNat (2 ^ 56))
      else .ok (s.ownBytes r.toNat n (memRead s.mem key n))

/-- A value the specification does not state (log 7), and the state with the counter advanced. -/
def State.freeVal (s : State) : Nat × State :=
  ((Config.freeWord s.fresh).toNat, { s with fresh := s.fresh + 1 })

/-! ### Issue -/

/-- A command of the executing task: s0 or DET detaches it (R124). -/
def State.cmd (s : State) (op : CmdOp) (g : BitVec 4) (a : RegSpec) (det : Bool) (sc : Scope) (arg : Nat) : Cmd :=
  { op := op, guard := g.toNat, cell := s.cur.cell, hi := s.cur.hi, gid := s.gid, msgid := s.msgid, act := s.act,
    pc := s.b.pc.toNat, tok := if det || a == 0#8 then none else some a, sc := sc, arg := arg,
    insn := insnAt s.b s.b.pc.toNat }

/-- A queue of a cell. -/
def Cell.queue (x : Cell) : QueueId → List Cmd
  | .tongs => x.tongs
  | .anvil => x.anvil
  | .crucible => x.cruc
  | .coll => x.coll
  | .gen => x.gen

/-- A queue of a cell replaced. -/
def Cell.setQueue (x : Cell) (q : QueueId) (l : List Cmd) : Cell :=
  match q with
  | .tongs => { x with tongs := l }
  | .anvil => { x with anvil := l }
  | .crucible => { x with cruc := l }
  | .coll => { x with coll := l }
  | .gen => { x with gen := l }

/-- A command enters its queue: its issue release is begun, its token is pending (R45, R124, R145, R146). -/
def State.enqueue (s : State) (k : Cmd) : State :=
  let id := s.serial
  let s1 := s.tick.relBegin (some id) k.sc
  let k1 := { k with id := id }
  let q := k.op.queue
  let s2 := s1.mapCell s.cur.cell (fun x => x.setQueue q (x.queue q ++ [k1]))
  (match k.tok with | some r => s2.mapB (fun b => addPend b r) | none => s2).retire

/-- A queue's head removed. -/
def State.popQueue (s : State) (c : Nat) (q : QueueId) : State :=
  s.mapCell c (fun x => x.setQueue q ((x.queue q).drop 1))

/-- Whether the issue release of a command is complete (R145, R146). -/
def State.released (s : State) (k : Cmd) : Bool := (s.cell k.cell).rels.all (fun r => r.cmd != some k.id || s.relDone k.cell r)

/-- What a command's guard says at the head: none while it is unresolved. What it said at the end of the task decides
for a command that outlives its task (R287, log 13). -/
def State.verdict (s : State) (k : Cmd) : Option Bool :=
  if k.void then some false
  else if k.guard = 15 then some true
  else look (s.bank k.cell k.hi).guards k.guard

/-! ### Completion -/

/-- A command completes: its token is on the way (R124). -/
def State.complete (s : State) (k : Cmd) (status val : Nat) : State :=
  s.send k.cell (.token { cmd := k, status := status, val := val % 2 ^ 48 })

/-- An aborting trap that the issuing task is to raise at its next instruction boundary, or its grid's error
counter when it has ended (R280, R307, R345, R433). -/
def State.boundaryTrap (s : State) (k : Cmd) (cause : Cause) (detail csr : Nat) : State :=
  if s.live k.cell k.hi k.act then
    s.mapBank k.cell k.hi (fun b => b.mapTask (fun t =>
      { t with pendTrap := t.pendTrap.orElse (fun _ =>
          some { cause := cause, pc := k.pc, detail := detail, insn := k.insn }) }))
  else s.countFor k.gid k.cell csr

/-- Status NOLEGAL of SMPL (R344). -/
def gsNolegal : Nat := 0x91

/-- The effects of a NOLEGAL completion: st, the trap, or GEN_DETERR (R336). -/
def State.nolegal (s : State) (k : Cmd) : State :=
  let live := s.live k.cell k.hi k.act
  let s1 := if live then s.mapBank k.cell k.hi (fun b => { b with st := b.st ||| 0x20#64 }) else s
  if live && bit (s.bank k.cell k.hi).st.toNat 13 then s1.boundaryTrap k .genNolegal 0 8
  else if !live || k.tok.isNone then s1.countFor k.gid k.cell 8
  else s1

/-- What a record of a crucible command's completion holds beside its crucible: cell, handle and status
(R429, log 14). -/
def Tok.crucRest (t : Tok) : Nat :=
  let k := t.cmd
  let h := match k.op with
    | .atq => fld k.arg 223 192
    | .atapp => fld k.arg 255 224
    | .atseq 0 => t.val % 2 ^ 32
    | .atseq _ => fld k.arg 255 224
    | _ => fld k.arg 31 0
  k.cell * 2 ^ 48 + h * 2 ^ 16 + t.status % 2 ^ 16

/-! ### Copy channels as a completion leaves them (R125, R131) -/

/-- A channel of a cell. -/
def Cell.chan (x : Cell) (ch : Nat) : Chan := lookD x.chans ch {}
/-- A channel replaced. -/
def State.setChan (s : State) (c ch : Nat) (x : Chan) : State := s.mapCell c (fun y => { y with chans := put y.chans ch x })

/-- The progress of a copy without the translations that it holds (R77). -/
def Work.free (w : Work) : Work := { w with src := none, dst := none }

/-- The word of `chan.read` (R131). -/
def Cell.chanWord (x : Cell) (ch : Nat) : Nat :=
  let h := x.chan ch
  (if h.cmd.isSome then 2 ^ 63 else 0) + x.tongs.length % 128 * 2 ^ 56 + h.status % 256 * 2 ^ 48 +
    (if h.cmd.isSome then h.w.landed else h.bytes) % 2 ^ 48

/-- A channel whose command has completed: idle, with its status, count and address; then the registers of the CHAN
aborts that waited for it are written (R116, R125, R131). -/
def State.chanDone (s : State) (c ch st : Nat) : State :=
  let h := (s.cell c).chan ch
  let s1 := s.setChan c ch { status := st, bytes := h.w.landed, addr := match h.stop with | some x => x.2 | none => 0 }
  h.waits.foldl (fun s (hi, act, r) =>
    if s.live c hi act then
      s.mapBank c hi (fun b => writeReg (dropPend b r) r (BitVec.ofNat 64 ((s.cell c).chanWord ch)))
    else s) s1

/-- Bytes that a command writes into the issuing cell's scratchpad (R485). -/
def State.cmdWrite (s : State) (k : Cmd) (off n data : Nat) : State :=
  (s.engineWrite k.gid (asidOf (s.lr k.gid)) k.cell (.port k.cell off) n data).scanBars k.cell

/-- The writer of what a command writes as an engine (R99). -/
def State.engineOf (s : State) (k : Cmd) : Writer := { gid := k.gid, asid := asidOf (s.lr k.gid), src := k.cell, msgid := 0 }

/-- Whether what a token brings with it is held: the cell's grid is switched out (R307). -/
def State.outWaits (s : State) (t : Tok) : Bool := t.out.isSome && (s.cell t.cmd.cell).grid != some t.cmd.gid

/-- TOKEN_WRITE: the token register is written while the issuing task runs; a detached command's
token is dropped; a copy channel is idle from then on, so that its commands finish in issue order (R116, R124, R131,
R171, R336). The completion of a crucible command is recorded, and held in a replay; what it writes into the scratchpad
is written first, and held while the cell's grid is switched out (R307, R429, R430). -/
def execTokenWrite (k : Nat) (s : State) : Out :=
  match s.flight k with
  | some ⟨_, _, .token t⟩ =>
    let c := t.cmd
    let isCruc := c.op.queue == .crucible
    if isCruc && s.replayHolds c.gid 18 c.crucible t.crucRest then .next s
    else if s.outWaits t then .next s
    else
    let s0 := match t.out with
      | some o => (s.land k).cmdWrite c o.1 o.2.1 o.2.2
      | none => s.land k
    let s1 := if isCruc then s0.recordKind c.gid c.cell 18 c.crucible t.crucRest else s0
    let s2 := match c.tok with
      | some r =>
        if s1.live c.cell c.hi c.act then
          s1.mapBank c.cell c.hi (fun b => tokenBank b r (BitVec.ofNat 64 (t.status * 2 ^ 48 + t.val)) c.sc)
        else s1
      | none =>
        if c.op.queue == .tongs && t.status != 0 && t.status != 0x30 then s1.countFor c.gid c.cell 5 else s1
    let s3 := match t.chan with | some ch => s2.chanDone c.cell ch t.status | none => s2
    .next (if c.op = .smpl ∧ t.status = gsNolegal then s3.nolegal c else s3)
  | _ => .next s

end Sys2Proof.Machine
end

