-- ==== Sys2Proof/Machine/ASets.lean ====
section
/-!
DEFINITION. Machine/ASets.lean: atomic sets (07 R161 to R187): declarations, lock entries, wounds, aborts,
the drain and the release, class 0x25.
-/

namespace Sys2Proof.Machine

/-! ### Declarations (R161, R185, R186) -/

/-- Whether the extents of two sets meet in one space. -/
def setsMeet (d1 : Bool) (b1 z1 : Nat) (e : SetSlot) : Bool :=
  d1 == e.dsp && decide (b1 < e.base + 64 * 2 ^ e.sz) && decide (e.base < b1 + 64 * 2 ^ z1)

/-- The checks of R186 but for HELD, on a set for tasks of a die: 0 OK, 2 OVERLAP, 3 ALIGN, 4 RANGE. -/
def setCheck (lr die : Nat) (dsp : Bool) (base sz : Nat) (others : List SetSlot) : Nat :=
  if base % (64 * 2 ^ sz) ≠ 0 then 3
  else if (if dsp then decide (2 ^ 28 ≤ base) || !inRect lr (cellAt die (fld base 27 18)) else decide (2 ^ 57 ≤ base)) then 4
  else if others.any (setsMeet dsp base sz) then 2
  else 0

/-- ADECL (R186). -/
def execAdecl (x : AdeclR) (s : State) : Out :=
  let base := (s.rd x.b).toNat
  let n := x.slot.toNat
  let st :=
    if (look s.slots n).any (·.held) then 1
    else setCheck s.myLr (dieOf s.cur.cell) x.dsp base x.sz.toNat ((s.slots.filter (fun e => e.1 != n)).map (·.2))
  let s1 := if st = 0 then
      s.mapT (fun k => { k with slots := put k.slots n { dsp := x.dsp, base := base, sz := x.sz.toNat } })
    else s
  .next (s1.finish x.a (BitVec.ofNat 64 st))

/-- The word of ASTAT for a slot (R187). -/
def slotWord (e : SetSlot) : Nat :=
  2 ^ 63 + (if e.held then 2 ^ 62 else 0) + e.sz * 2 ^ 58 + (if e.dsp then 2 ^ 57 else 0) + e.base % 2 ^ 57

/-- ASTAT (R187). -/
def execAstat (x : TinfoR) (s : State) : Out :=
  let sel := x.sel.toNat
  let v :=
    if sel < 4 then ((look s.slots sel).map slotWord).getD 0
    else if sel = 4 then s.b.commit.length * 2 ^ 56 + (s.slots.filter (fun e => e.2.held)).length * 2 ^ 52
    else lookD (((look s.grids s.gid).map (·.aset)).getD []) sel 0
  .next (s.finish x.a (BitVec.ofNat 64 v))

/-! ### Lock entries (R166, R167) -/

/-- Where a lock entry stands: a home slice, or a cell's port. -/
inductive LockAt
  | slice (d n : Nat)
  | port (c : Nat)
deriving DecidableEq, Repr

/-- Where the entry of a claim stands (R166). DESIGN CHOICE (log 103): R166 names the home slice of the base's physical
address, and a frame in the host window (type 2) has no home slice in the spec; its entry stands at the slice that the same
bits of the address give. -/
def LockMsg.home (q : LockMsg) : LockAt :=
  if q.dsp then .port ((q.place - 2 ^ 41) / 2 ^ 18) else .slice (homeDie q.place) (homeSlice q.place)

/-- The die of a lock store. -/
def LockAt.die : LockAt → Nat
  | .slice d _ => d
  | .port c => dieOf c

/-- The flit that a claim, or its grant on the way back, takes between the party's cell and the store of its set when they
stand on two dies; none while the flits of the sending die are spent (R383, log 92). -/
def State.lockFlit (s : State) (q : LockMsg) (back : Bool) : Option State :=
  if back then s.flits q.who.gid q.home.die (dieOf q.who.cell) 1 else s.flits q.who.gid (dieOf q.who.cell) q.home.die 1

/-- The entries of a lock store. -/
def State.locksAt (s : State) : LockAt → List Lock
  | .slice d n => lookD (s.die d).locks n []
  | .port c => (s.cell c).locks

/-- The entries of a lock store replaced. -/
def State.setLocks (s : State) (p : LockAt) (l : List Lock) : State :=
  match p with
  | .slice d n => s.mapDie d (fun x => { x with locks := put x.locks n l })
  | .port c => s.mapCell c (fun x => { x with locks := l })

/-- Whether an entry is that of a claim (R164). -/
def Lock.isOf (e : Lock) (q : LockMsg) : Bool :=
  e.asid == q.asid && e.dsp == q.dsp && e.base == q.base && e.sz == q.sz

/-- Where a new entry may stand: none when its store and spill area are full, else whether it spills
(R166). -/
def State.lockRoom (s : State) (p : LockAt) : Option Bool :=
  let l := s.locksAt p
  match p with
  | .port _ => if l.length < 32 then some false else none
  | .slice d _ =>
    if (l.filter (fun e => !e.spill)).length < 256 then some false
    else if (lookD s.plat.lockArea d (0, 0)).2 ≠ 0 ∧ (l.filter (·.spill)).length < 16384 then some true
    else none

/-- A use of the spill area counted (R167). -/
def State.spillUse (s : State) (g : Nat) (spill : Bool) : State := if spill then s.countAset g 10 1 else s

/-- The place of a claim in a record of kind 20 (log 14). -/
def LockMsg.spot (q : LockMsg) : Nat := (if q.dsp then 2 ^ 63 else 0) + q.base

/-- A grant on its way to a party, counted and recorded (R168, R184, R429). -/
def State.grantTo (s : State) (q : LockMsg) (w : Party) : State :=
  ((s.send w.cell (.grant { q with who := w, release := false })).countAset w.gid 5 1).recordKind w.gid w.cell 20 q.spot
    (w.msgid * 2 ^ 32 + w.msgid)

/-- Whether the first party is older (R169). -/
def Party.older (a b : Party) : Bool := Sys2Proof.Machine.older a.age a.msgid b.age b.msgid

/-- A waiter put in its place by age (R170). -/
def addWaiter (l : List Party) (w : Party) : List Party :=
  match l with
  | [] => [w]
  | x :: r => if w.older x then w :: x :: r else x :: addWaiter r w

/-- Whether a request wounds under R172: the high bank against the low task of its cell. -/
def bankWound (w h : Party) : Bool := w.cell == h.cell && w.hi && !h.hi

/-- Whether a wound against a holder has an effect: it still runs, is not wounded and has not begun its drain (R170,
R178). -/
def State.woundable (s : State) (h : Party) : Bool :=
  match (s.bank h.cell h.hi).task with
  | none => false
  | some k => k.act == h.act && !k.wounded && k.ending == .none

/-- A holder wounded, unless it already is or its drain has begun (R170, R172, R178). -/
def State.wound (s : State) (q : LockMsg) (w h : Party) : State :=
  if !s.woundable h then s
  else
    let s0 := s.mapBank h.cell h.hi (fun b => b.mapTask (fun k => { k with wounded := true }))
    let s1 := (s0.countAset h.gid 6 1).recordKind h.gid h.cell 20 q.spot (h.msgid * 2 ^ 32 + w.msgid)
    if bankWound w h then s1.countAset h.gid 8 1 else s1

/-- LOCK_REQUEST: a set request is granted, or waits and may wound the holder; it waits at the store
while no entry is free or the flits to the store are spent, and in a replay while another grant of its set, or another
wound where its own would have an effect, comes first (R166, R170, R172, R383, R430). -/
def execLockRequest (k : Nat) (s : State) : Out :=
  match s.flight k with
  | some ⟨_, _, .lock q⟩ =>
    if q.release then .next s
    else
    match s.lockFlit q false with
    | none => .next s
    | some t =>
      let p := q.home
      let l := s.locksAt p
      match l.find? (·.isOf q) with
      | none =>
        (match s.lockRoom p with
         | none => .next s
         | some spill =>
           let e : Lock := { asid := q.asid, dsp := q.dsp, base := q.base, sz := q.sz, place := q.place, spill := spill
                             holder := some q.who, waiters := [] }
           if s.replayHolds q.who.gid 20 q.spot (q.who.msgid * 2 ^ 32 + q.who.msgid) then .next s
           else .next ((((t.land k).setLocks p (l ++ [e])).spillUse q.who.gid spill).grantTo q q.who))
      | some e =>
        let s1 := ((t.land k).setLocks p (l.map (fun x => if x.isOf q then { x with waiters := addWaiter x.waiters q.who } else x))).spillUse
          q.who.gid e.spill
        match e.holder with
        | none => .next s1
        | some h =>
          if (bankWound q.who h || q.who.older h) && s.woundable h then
            if s.replayHolds h.gid 20 q.spot (h.msgid * 2 ^ 32 + q.who.msgid) then .next s else .next (s1.wound q q.who h)
          else .next s1
  | _ => .next s

/-- The waiter to which a free set goes: the oldest, or in a replay the one that the recording names next (R168,
R430). -/
def State.nextParty (s : State) (q : LockMsg) (e : Lock) : Option Party :=
  e.waiters.find? (fun w => !s.replayHolds w.gid 20 q.spot (w.msgid * 2 ^ 32 + w.msgid))

/-- A free lock entry passes to a waiter, the oldest where a replay would still hold them all, or goes when it has none; a
low-bank task that gets it while the high-bank task of its cell waits for it is wounded at once (R166, R168, R172). -/
def State.passOn (s : State) (q : LockMsg) (e : Lock) : State :=
  let p := q.home
  let l := s.locksAt p
  match (s.nextParty q e).orElse (fun _ => e.waiters.head?) with
  | none => s.setLocks p (l.filter (fun x => !x.isOf q))
  | some w =>
    let s1 :=
      (s.setLocks p (l.map (fun x => if x.isOf q then { x with holder := some w, waiters := x.waiters.erase w } else x))).grantTo q w
    match e.waiters.find? (fun v => bankWound v w) with
    | some v => s1.wound q v w
    | none => s1

/-- A release at its lock entry: a waiter is granted the set, or the entry is freed (R166, R168); none while a replay
holds the grant (R430). -/
def State.unlock (s : State) (q : LockMsg) : Option State :=
  match (s.locksAt q.home).find? (·.isOf q) with
  | none => some s
  | some e =>
    if (e.holder.map (·.act)) != some q.who.act then some s
    else if !e.waiters.isEmpty && (s.nextParty q e).isNone then none
    else some ((s.spillUse q.who.gid e.spill).passOn q e)

/-- Cycles since a mark. -/
def since (gt : Word) (m : Option Nat) : Nat := match m with | some g => gt.toNat - g | none => 0

/-- A grant that reaches its task: the set is held, and the waiting cycles are counted once no request
is left (R165, R173). DESIGN CHOICE (log 104): R173 gives no moment at which the cycles of a wait enter ASET_WAITCYC; they
enter it whole, when the wait ends with its last grant or with the task's abort, so ASTAT read during a wait lacks them. -/
def State.granted (s : State) (q : LockMsg) : State :=
  let w := q.who
  if !s.live w.cell w.hi w.act then s
  else
    let s1 := s.mapBank w.cell w.hi (fun b => b.mapTask (fun k =>
      { k with slots := k.slots.map (fun (n, e) => (n, if n = w.slot then { e with held := true } else e)) }))
    match (s1.bank w.cell w.hi).task with
    | none => s1
    | some k =>
      if k.slots.any (fun e => e.2.asked && !e.2.held) then s1
      else
        let n := since s.gt k.waitFrom
        ((s1.mapBank w.cell w.hi (fun b => b.mapTask (fun k =>
          { k with waited := k.waited + n, waitFrom := none }))).includeTask w.cell w.hi).countAset w.gid 9 n

/-- SET_GRANT: a release reaches its lock entry and passes the set on, or a grant reaches its task, from another die once
its flit is had (R168, R383). -/
def execSetGrant (k : Nat) (s : State) : Out :=
  match s.flight k with
  | some ⟨_, _, .lock q⟩ =>
    if q.release then .next (((s.lockFlit q false).bind (fun t => (t.land k).unlock q)).getD s) else .next s
  | some ⟨_, _, .grant q⟩ =>
    (match s.lockFlit q true with
     | none => .next s
     | some t => .next ((t.land k).granted q))
  | _ => .next s

/-! ### Aborts, drain, release, limit (R171, R173, R178) -/

/-- TASK_ABORT: a wounded task is aborted and placed back among its cell's ready tasks (R171, R374). -/
def execTaskAbort (c : Nat) (hi : Bool) (s : State) : Out :=
  match (s.bank c hi).task with
  | some k =>
    if k.wounded then
      .next ((s.abortTask c hi 0).mapCell c (fun x => { x with again := x.again ++ [k.again hi true] }))
    else .next s
  | none => .next s

/-- A line of the commit buffer on its way: a write-through at the wider of the TEND scope and die, or a
write to its port (R89, R178). -/
def State.drainLine (s : State) (l : CommitLine) : State :=
  let loc : Loc := if l.dsp then .port ((l.dst - 2 ^ 41) / 2 ^ 18) ((l.dst - 2 ^ 41) % 2 ^ 18) else .home l.dst
  s.doStore { loc := loc, sp := if l.dsp then 1 else 0, key := l.key } .die .normal l.key 64 l.mask l.data 7 l.bad

/-- COMMIT_DRAIN: the commit buffer goes out in the order its entries were taken (R178). -/
def execCommitDrain (c : Nat) (hi : Bool) (s : State) : Out :=
  match (s.bank c hi).task with
  | some k =>
    if k.ending = .draining ∧ !k.wounded then
      let s1 : State := { s with cur := { s.cur with cell := c, hi := hi } }
      let s2 := (s.bank c hi).commit.foldl State.drainLine s1
      .next { s2.mapBank c hi (fun b => { b with commit := [] }.mapTask (fun k => { k with ending := .drained })) with cur := s.cur }
    else .next s
  | none => .next s

/-- Whether a flight is an unacknowledged write of an activation. -/
def storeOf (act : Nat) (f : Flight) : Bool :=
  match f.acc? with
  | some a => a.task && a.act == act && a.op.isStore
  | none => false

/-- SET_RELEASE: once every drained write is acknowledged the sets are released (R178). -/
def execSetRelease (c : Nat) (hi : Bool) (s : State) : Out :=
  match (s.bank c hi).task with
  | some k =>
    if k.ending = .drained ∧ !s.fly.any (fun f => storeOf k.act f.f) then
      .next ((s.releaseSets c hi k).mapBank c hi (fun b => b.mapTask (fun k => { k with ending := .releasing, slots := [] })))
    else .next s
  | none => .next s

/-- ASET_WAIT_LIMIT: a task whose set waits exceed AWAIT raises ASET.WAIT (R173). -/
def execAsetWaitLimit (c : Nat) (hi : Bool) (s : State) : Out :=
  match (s.bank c hi).task with
  | some k =>
    let lim := fld (s.lr k.gid) 511 480
    (match k.waitFrom, k.slots.find? (fun e => e.2.asked && !e.2.held) with
     | some g, some (n, e) =>
       if lim ≠ 0 ∧ lim < k.waited + (s.gt.toNat - g) then
         .next (s.takeTrap c hi
           { cause := .asetWait, pc := (s.bank c hi).pc.toNat, addr := e.base, detail := n,
             insn := insnAt (s.bank c hi) (s.bank c hi).pc.toNat })
       else .next s
     | _, _ => .next s)
  | none => .next s

end Sys2Proof.Machine
end

