-- ==== Sys2Proof/Machine/Tables.lean ====
section
/-!
DEFINITION. Machine/Tables.lean: the exponential and logarithm table functions, 09 R223 to R225. The
entries are the patterns of R223's exact values, each rounded once to FP32.
-/

namespace Sys2Proof.Machine

/-- 2^(seg/64) (R223). -/
def tabC0 : List Nat :=
  [0x3F800000, 0x3F8164D2, 0x3F82CD87, 0x3F843A29, 0x3F85AAC3, 0x3F871F62, 0x3F88980F, 0x3F8A14D5] ++
  [0x3F8B95C2, 0x3F8D1ADF, 0x3F8EA43A, 0x3F9031DC, 0x3F91C3D3, 0x3F935A2B, 0x3F94F4F0, 0x3F96942D] ++
  [0x3F9837F0, 0x3F99E046, 0x3F9B8D3A, 0x3F9D3EDA, 0x3F9EF532, 0x3FA0B051, 0x3FA27043, 0x3FA43516] ++
  [0x3FA5FED7, 0x3FA7CD94, 0x3FA9A15B, 0x3FAB7A3A, 0x3FAD583F, 0x3FAF3B79, 0x3FB123F6, 0x3FB311C4] ++
  [0x3FB504F3, 0x3FB6FD92, 0x3FB8FBAF, 0x3FBAFF5B, 0x3FBD08A4, 0x3FBF179A, 0x3FC12C4D, 0x3FC346CD] ++
  [0x3FC5672A, 0x3FC78D75, 0x3FC9B9BE, 0x3FCBEC15, 0x3FCE248C, 0x3FD06334, 0x3FD2A81E, 0x3FD4F35B] ++
  [0x3FD744FD, 0x3FD99D16, 0x3FDBFBB8, 0x3FDE60F5, 0x3FE0CCDF, 0x3FE33F89, 0x3FE5B907, 0x3FE8396A] ++
  [0x3FEAC0C7, 0x3FED4F30, 0x3FEFE4BA, 0x3FF28177, 0x3FF5257D, 0x3FF7D0DF, 0x3FFA83B3, 0x3FFD3E0C]

/-- 64 times the rise of 2^x over a segment (R223). -/
def tabC1 : List Nat :=
  [0x3F3268FA, 0x3F345A52, 0x3F365116, 0x3F384D52, 0x3F3A4F17, 0x3F3C5675, 0x3F3E637A, 0x3F407637] ++
  [0x3F428EBC, 0x3F44AD18, 0x3F46D15C, 0x3F48FB98, 0x3F4B2BDE, 0x3F4D623D, 0x3F4F9EC7, 0x3F51E18D] ++
  [0x3F542AA1, 0x3F567A13, 0x3F58CFF7, 0x3F5B2C5D, 0x3F5D8F58, 0x3F5FF8FA, 0x3F626955, 0x3F64E07E] ++
  [0x3F675E86, 0x3F69E380, 0x3F6C6F80, 0x3F6F029A, 0x3F719CE2, 0x3F743E6A, 0x3F76E748, 0x3F799791] ++
  [0x3F7C4F58, 0x3F7F0EB2, 0x3F80EADB, 0x3F82523B, 0x3F83BD86, 0x3F852CC5, 0x3F86A004, 0x3F88174E] ++
  [0x3F8992AE, 0x3F8B122F, 0x3F8C95DE, 0x3F8E1DC6, 0x3F8FA9F1, 0x3F913A6E, 0x3F92CF46, 0x3F946888] ++
  [0x3F96063E, 0x3F97A875, 0x3F994F3B, 0x3F9AFA9A, 0x3F9CAAA2, 0x3F9E5F5D, 0x3FA018DA, 0x3FA1D726] ++
  [0x3FA39A4E, 0x3FA5625F, 0x3FA72F68, 0x3FA90176, 0x3FAAD897, 0x3FACB4DA, 0x3FAE964C, 0x3FB07CFD]

/-- log2(1 + seg/64) (R223). -/
def tabD0 : List Nat :=
  [0x00000000, 0x3CB73CB4, 0x3D35D69C, 0x3D8759C5, 0x3DB31FB8, 0x3DDE4212, 0x3E0462C4, 0x3E19574F] ++
  [0x3E2E00D2, 0x3E42615F, 0x3E567AF1, 0x3E6A4F72, 0x3E7DE0B6, 0x3E88983F, 0x3E92203D, 0x3E9B8926] ++
  [0x3EA4D3C2, 0x3EAE00D2, 0x3EB7110E, 0x3EC0052B, 0x3EC8DDD4, 0x3ED19BB0, 0x3EDA3F60, 0x3EE2C97D] ++
  [0x3EEB3A9F, 0x3EF39355, 0x3EFBD42B, 0x3F01FED4, 0x3F060828, 0x3F0A0650, 0x3F0DF989, 0x3F11E20F] ++
  [0x3F15C01A, 0x3F1993E3, 0x3F1D5DA0, 0x3F211D84, 0x3F24D3C2, 0x3F28808C, 0x3F2C2411, 0x3F2FBE80] ++
  [0x3F335004, 0x3F36D8CB, 0x3F3A58FF, 0x3F3DD0C8, 0x3F41404F, 0x3F44A7BA, 0x3F480731, 0x3F4B5ED7] ++
  [0x3F4EAED0, 0x3F51F740, 0x3F553848, 0x3F587209, 0x3F5BA4A4, 0x3F5ED039, 0x3F61F4E5, 0x3F6512C7] ++
  [0x3F6829FB, 0x3F6B3A9F, 0x3F6E44CD, 0x3F7148A1, 0x3F744636, 0x3F773DA4, 0x3F7A2F04, 0x3F7D1A71]

/-- 64 times the rise of log2 over a segment (R223). -/
def tabD1 : List Nat :=
  [0x3FB73CB4, 0x3FB47083, 0x3FB1B9DD, 0x3FAF17CB, 0x3FAC8969, 0x3FAA0DDB, 0x3FA7A455, 0x3FA54C16] ++
  [0x3FA30466, 0x3FA0CC97, 0x3F9EA408, 0x3F9C8A1B, 0x3F9A7E3F, 0x3F987FE8, 0x3F968E92, 0x3F94A9BF] ++
  [0x3F92D0F7, 0x3F9103CA, 0x3F8F41CB, 0x3F8D8A93, 0x3F8BDDC1, 0x3F8A3AF6, 0x3F88A1DB, 0x3F87121A] ++
  [0x3F858B61, 0x3F840D63, 0x3F8297D7, 0x3F812A75, 0x3F7F89F4, 0x3F7CCE48, 0x3F7A216B, 0x3F7782E6] ++
  [0x3F74F247, 0x3F726F20, 0x3F6FF908, 0x3F6D8F9A, 0x3F6B3276, 0x3F68E13F, 0x3F669B9B, 0x3F646134] ++
  [0x3F6231B8, 0x3F600CD8, 0x3F5DF246, 0x3F5BE1B9, 0x3F59DAEB, 0x3F57DD96, 0x3F55E979, 0x3F53FE55] ++
  [0x3F521BEC, 0x3F504204, 0x3F4E7062, 0x3F4CA6D1, 0x3F4AE51B, 0x3F492B0C, 0x3F477874, 0x3F45CD21] ++
  [0x3F4428E6, 0x3F428B96, 0x3F40F506, 0x3F3F650B, 0x3F3DDB7D, 0x3F3C5834, 0x3F3ADB0B, 0x3F3963DD]

/-- The floor of `±m·2^e`. -/
def floorOf (neg : Bool) (m : Nat) (e : Int) : Int :=
  let v : Int := if neg then -(m : Int) else m
  if 0 ≤ e then v * ((2 ^ e.toNat : Nat) : Int) else v.fdiv ((2 ^ (-e).toNat : Nat) : Int)

/-- An exact integer multiple of a power of two. -/
def Num.dyadic (v : Int) (e : Int) : Num := .fin (decide (v < 0)) v.natAbs e false

/-- `exp_tab` of R224 on FP32 patterns. -/
def expTab (x : Nat) : Nat :=
  let a := decodeF fmt32 x
  if a.isNan then qnan fmt32
  else
    match decodeF fmt32 (rne fmt32 (Num.mul a (decodeF fmt32 0x3FB8AA3B)).1) with
    | .nan => qnan fmt32
    | .inf n => if n then 0 else infBits fmt32 false
    | .fin n m e _ =>
      let n1 := floorOf n m e
      if 128 ≤ n1 then infBits fmt32 false
      else if n1 < -150 then 0
      else
        let v : Int := if n then -(m : Int) else m
        let w : Nat := (-e).toNat
        let frac : Int := v * ((2 ^ e.toNat : Nat) : Int) - n1 * ((2 ^ w : Nat) : Int)
        let seg := (frac * 64 / ((2 ^ w : Nat) : Int)).toNat
        let rest := Num.dyadic (frac * 64 - (seg : Int) * ((2 ^ w : Nat) : Int)) (-(w : Int) - 6)
        let prod := (Num.mul (decodeF fmt32 (tabC1.getD seg 0)) rest).1
        match decodeF fmt32 (rne fmt32 (Num.add false (decodeF fmt32 (tabC0.getD seg 0)) prod).1) with
        | .fin s k f st => rne fmt32 (.fin s k (f + n1) st)
        | _ => qnan fmt32

/-- `log2_tab` of R225 on FP32 patterns. -/
def log2Tab (x : Nat) : Nat :=
  match decodeF fmt32 x with
  | .nan => qnan fmt32
  | .inf n => if n then qnan fmt32 else infBits fmt32 false
  | .fin n m e _ =>
    if m == 0 then infBits fmt32 true
    else if n then qnan fmt32
    else
      let k := Nat.log2 m
      let frac : Nat := m - 2 ^ k
      let seg := frac * 64 / 2 ^ k
      let rest := Num.dyadic ((frac * 64 - seg * 2 ^ k : Nat) : Int) (-(k : Int) - 6)
      let prod := (Num.mul (decodeF fmt32 (tabD1.getD seg 0)) rest).1
      let t := rne fmt32 (Num.add false (decodeF fmt32 (tabD0.getD seg 0)) prod).1
      rne fmt32 (Num.add false (Num.ofInt ((k : Int) + e)) (decodeF fmt32 t)).1

end Sys2Proof.Machine
end

