-- ==== Sys2Proof/Machine/Tensor.lean ====
section
/-!
DEFINITION. Machine/Tensor.lean: tensor identifiers (09 R227 to R235): the checks of TIDSET, and class 0x0D with its
replicas.
-/

namespace Sys2Proof.Machine

/-! ### The checks of R232 -/

/-- Whether an address of an entry fits its form and names cells of the grid. -/
def tReach (lr space a : Nat) : Bool :=
  fitsForm space a && (space == 1 || !isPad space || inRect lr (formCell (originOf lr) space a))

/-- Whether a signed number is a multiple. -/
def multipleOf (x : Int) (z : Nat) : Bool := x % (z : Int) == 0

/-- The status of R232: 0 for an image that passes. -/
def tidCheck (lr e : Nat) : Nat :=
  let z := tElem e
  let r := tRank e
  let ks := List.range 4
  if fld e 5 0 ≠ 0 then 1
  else if 13 < tFmt e then 2
  else if ks.any (fun k => if k < r then tDim e k == 0 || tTs e k == 0 else tDim e k != 1 || tTs e k != 1) then 3
  else if 5 < tSpace e || (tScMode e != 0 && tFmt e != 11 && tFmt e != 12) ||
      (tScMode e != 0 && (tScSpace e == 4 || decide (5 < tScSpace e))) then 4
  else if tBase e % z != 0 || ks.any (fun k => 0 < k && k < r && !multipleOf (tStr e k) z) ||
      !multipleOf (tPoolStr e) z || (tScMode e != 0 && tScBase e % 4 != 0) then 5
  else if !tReach lr (tSpace e) (tBase e) || (tScMode e != 0 && !tReach lr (tScSpace e) (tScBase e)) then 6
  else if bit e 15 != (tPoolN e != 0) then 7
  else 0

/-! ### The table and its replicas (R227, R235) -/

/-- The die of a grid's serialisation point. -/
def homeDieOf (lr : Nat) : Nat := dieOf (originOf lr)

/-- An entry of a die's replica of a grid's table; an invalid one is 0. -/
def State.tidEnt (s : State) (g d id : Nat) : Nat := ((look s.grids g).map (fun x => lookD x.tid (d * 4096 + id) 0)).getD 0

/-- An entry of a die's replica replaced. -/
def State.setTid (s : State) (g d id e : Nat) : State :=
  s.mapGrid g (fun x => { x with tid := if tValid e then put x.tid (d * 4096 + id) e else del x.tid (d * 4096 + id) })

/-- CUR of an entry replaced. -/
def tSetCur (e cur : Nat) : Nat := setFld e 9 6 cur

/-- An entry as an engine command of the executing task captures it: of a tensor that its spawn declared,
the assigned buffer stands for CUR (R118, R378). -/
def State.tid (s : State) (id : Nat) : Nat :=
  let e := s.tidEnt s.gid (dieOf s.cur.cell) id
  match (s.b.task.map (·.bufs)).bind (fun m => look m id) with
  | some b => if tValid e then tSetCur e b else e
  | none => e

/-- A version on its way to the replicas of a grid's other dies, or its answer when there is none. DESIGN CHOICE (log 106):
R227 gives no order in which one version reaches the dies; it reaches them in the ascending order of their numbers. -/
def State.toReplicas (s : State) (w : Who) (id img status : Nat) (dst : RegSpec) : State :=
  let lr := s.lr w.gid
  s.send w.cell (.tid w id (.copy img status ((diesOf lr).filter (· != homeDieOf lr))) dst)

/-- TIDSET and TIDINV on their way: the register is pending until every replica holds the version (R235). -/
def State.sendTid (s : State) (id : Nat) (o : TidOp) (r : RegSpec) : State :=
  ((s.send s.cur.cell (.tid s.who id o r)).mapB (fun b => addPend b r)).retire

/-- TIDSET (R234). -/
def execTidset (x : TidR) (s : State) : Out :=
  if s.holder then .next (s.trap .asetIrrev 0 0)
  else
    match s.descr (s.rd x.b) 64 64 with
    | .error t => .next t
    | .ok e => .next (s.sendTid x.id.toNat (.set e) x.a)

/-- TIDINV (R234). -/
def execTidinv (x : TidinvR) (s : State) : Out :=
  if s.holder then .next (s.trap .asetIrrev 0 0) else .next (s.sendTid x.id.toNat .inv x.a)

/-- TIDGET: the issuing die's replica is stored to .l, under a holder's buffer like any store (R234). -/
def execTidget (x : TidR) (s : State) : Out :=
  let off := (s.rd x.b).toNat
  match s.resolve .l off 64 1 with
  | .error t => .next t
  | .ok p =>
    match s.withSets [(p, 64)] with
    | .error t => .next t
    | .ok _ =>
      let e := s.tidEnt s.gid (dieOf s.cur.cell) x.id.toNat
      if s.putTraps p then .next (s.putTo p .cell .normal off 64 (fullMask 64) e 0)
      else .next ((s.putTo p .cell .normal off 64 (fullMask 64) e 0).finish x.a (if tValid e then 0 else 8))

/-- Whether a version that the serialisation point made earlier, of any entry, is still on its way to a die: a replica
is updated in the order of that point (R227). -/
def copyBefore (n g d : Nat) (f : Fly) : Bool :=
  decide (f.n < n) && (match f.f with
    | .tid w _ (.copy _ _ l) _ => w.gid == g && l.contains d
    | _ => false)

/-- Whether an earlier TIDSET or TIDINV of the same task to the same entry has not reached the serialisation point:
those of one task keep program order (log 97), and R235 orders those of different tasks by arrival. -/
def tidBefore (n : Nat) (w : Who) (id : Nat) (f : Fly) : Bool :=
  decide (f.n < n) && (match f.f with
    | .tid _ _ (.copy _ _ _) _ => false
    | .tid v i _ _ => v == w && i == id
    | _ => false)

/-- A status written to a register of a task that still runs. -/
def State.answerReg (s : State) (w : Who) (r : RegSpec) (v : Nat) : State :=
  if s.live w.cell w.hi w.act then
    s.mapBank w.cell w.hi (fun b => writeReg (dropPend b r) r (BitVec.ofNat 64 v))
  else s

/-- The flits of a step of TIDSET or TIDINV: of the request to the serialisation point and its answer, or of a version to
the next die (R383, log 92). -/
def State.tidFlits (s : State) (w : Who) (o : TidOp) : Option State :=
  let d0 := homeDieOf (s.lr w.gid)
  match o with
  | .copy _ _ [] => some s
  | .copy _ _ (d :: _) => s.flits w.gid d0 d 1
  | _ => s.roundTrip w.gid (dieOf w.cell) d0

/-- TID_REPLICA_UPDATE: a TIDSET or TIDINV takes effect at the serialisation point; a version reaches the
next replica, in the order of that point; or the register is written, every replica being updated. A step to another die
waits for its flits (R227, R232, R235, R383). -/
def execTidReplicaUpdate (k : Nat) (s : State) : Out :=
  match s.flight k with
  | some ⟨n, _, .tid w id o dst⟩ =>
    let d0 := homeDieOf (s.lr w.gid)
    let old := s.tidEnt w.gid d0 id
    match s.tidFlits w o with
    | none => .next s
    | some t =>
    let s1 := t.land k
    let inv (st : Nat) : State := (s1.setTid w.gid d0 id 0).toReplicas w id 0 st dst
    match o with
    | .inv => if s.fly.any (tidBefore n w id) then .next s else .next (inv (if tValid old then 0 else 8))
    | .set e =>
      if s.fly.any (tidBefore n w id) then .next s
      else if !tValid e then .next (inv 0)
      else
        let st := tidCheck (s.lr w.gid) e
        if st ≠ 0 then .next (s1.answerReg w dst st)
        else .next ((s1.setTid w.gid d0 id (tSetCur e 0)).toReplicas w id (tSetCur e 0) 0 dst)
    | .copy e st left =>
      (match left with
       | [] => .next (s1.answerReg w dst st)
       | d :: rest =>
         if s.fly.any (copyBefore n w.gid d) then .next s
         else .next ((s1.setTid w.gid d id e).resend n w.cell (.tid w id (.copy e st rest) dst)))
  | _ => .next s

end Sys2Proof.Machine
end

