-- ==== Sys2Proof/Machine/Anvil.lean ====
section
/-!
DEFINITION. Machine/Anvil.lean: the joint matrix array (11 R264 to R286, R291 to R294): gangs and their wired
barrier, the step and its sums, the operand cache and the broadcast bus, accumulators, and class 0x18.
-/

namespace Sys2Proof.Machine

/-! ### Rings as an engine reads them (R267 to R270) -/

/-- The handle that a specifier of a handle position names, when it is bound (R269). -/
def handleOf (b : Bank) (r : RegSpec) : Option Ring :=
  if 0xA0 ≤ r.toNat ∧ r.toNat < 0xB0 then look b.hnd (r.toNat - 0xA0) else none

/-- The cell that owns a ring, for a cell of its die. -/
def Ring.owner (r : Ring) (c : Nat) : Nat := cellAt (dieOf c) (r.ctl / 2 ^ 18)
/-- SLOTSZ. -/
def Ring.slotSz (r : Ring) : Nat := fld r.desc 191 160
/-- NSLOT. -/
def Ring.slots (r : Ring) : Nat := fld r.desc 143 128
/-- The place of the control word. -/
def Ring.ctlLoc (r : Ring) (c : Nat) : Loc := .port (r.owner c) (r.ctl % 2 ^ 18)
/-- The place of the slot of a count. -/
def Ring.slotLoc (r : Ring) (c x : Nat) : Loc := .port (r.owner c) (r.ctl % 2 ^ 18 + 16 + x % r.slots * r.slotSz)

/-- The control word of a ring. -/
def State.ringWord (s : State) (r : Ring) (c : Nat) : Nat := memRead s.mem (r.ctlLoc c).key 8

/-- An advance of a ring by an engine, at the owning port (R268). -/
def State.ringStep (s : State) (k : Cmd) (r : Ring) (consumer : Bool) : State :=
  let loc := r.ctlLoc k.cell
  match (cwUpdate consumer r.slots 1 (s.ringWord r k.cell)).1 with
  | none => s
  | some v =>
    let w : Writer := { gid := k.gid, asid := asidOf (s.lr k.gid), src := k.cell, msgid := 0 }
    (s.write w loc 8 v (fullMask 8) 3).scanBars (r.owner k.cell)

/-- Whether an engine's advance of a ring must wait (R99, R430). -/
def State.ringStepWaits (s : State) (k : Cmd) (r : Ring) : Bool := s.ringWaits (s.engineOf k) (r.ctlLoc k.cell) 3

/-- A try of an advance that waits (R99). -/
def State.ringStepTry (s : State) (k : Cmd) (r : Ring) : State := s.ringTry (s.engineOf k) (r.ctlLoc k.cell) 3

/-! ### Gangs (R264) -/

/-- The side of a gang of a size code. -/
def sideOf (size : Nat) : Nat := 2 ^ size
/-- Slice column of a cell in its cluster. -/
def slx (c : Nat) : Nat := cicOf c % 4
/-- Slice row of a cell in its cluster. -/
def sly (c : Nat) : Nat := cicOf c / 4

/-- The member cells of a gang, in order of position. -/
def GangStep.cells (t : GangStep) : List Nat :=
  (List.range t.side).flatMap (fun gy => (List.range t.side).map (fun gx => cellIn t.cluster (4 * (t.oy + gy) + (t.ox + gx))))

/-- Whether two steps are of one gang. -/
def sameGang (a b : GangStep) : Bool := a.cluster == b.cluster && a.ox == b.ox && a.oy == b.oy && a.side == b.side

/-- The gang of a cell, as an empty step. -/
def State.gangOf (s : State) (c : Nat) : GangStep :=
  let side := sideOf (s.cell c).gang
  { cluster := gcluOf c, ox := slx c / side * side, oy := sly c / side * side, side := side, joined := [], since := s.gt.toNat,
    phase := .joining }

/-- The joined command of a member. -/
def GangStep.cmdOf (t : GangStep) (c : Nat) : Option Cmd := look t.joined c
/-- The first member's command, which stands for all once the parameters agree. -/
def GangStep.lead (t : GangStep) : Option Cmd := t.joined.head?.map (·.2)

/-- ACC of a step word or read word. -/
def wAcc (w : Nat) : Nat := fld w 63 62
/-- SKA. -/
def Cmd.ska (k : Cmd) : Nat := fld k.cnt 8 5
/-- SKB. -/
def Cmd.skb (k : Cmd) : Nat := fld k.cnt 4 1

/-! ### Formats and statuses (R274 to R276, R278, R281, R294) -/

/-- K, element bytes and accumulator kind of a pairing (R274). -/
def stepForm (fa fb : Nat) : Option (Nat × Nat × AccKind) :=
  if (fa = 11 ∨ fa = 12) ∧ (fb = 11 ∨ fb = 12) then some (128, 1, .fp32)
  else if (fa = 5 ∨ fa = 6) ∧ (fb = 5 ∨ fb = 6) then some (128, 1, .int32)
  else if fa ≠ fb then none
  else if fa = 10 ∨ fa = 9 then some (64, 2, .fp32)
  else if fa = 8 then some (32, 4, .fp32)
  else if fa = 7 then some (16, 8, .fp64)
  else none

/-- Whether a format is FP8. -/
def isFp8 (f : Nat) : Bool := f == 11 || f == 12

/-- Whether a step word breaks a rule of R276. -/
def stepBad (w ea eb : Nat) : Bool :=
  bit w 60 || (tValid ea && tValid eb && isFp8 (tFmt ea) && isFp8 (tFmt eb) && (tScMode ea != 0 || tScMode eb != 0) &&
    fld w 59 40 % 128 != 0)

/-- Whether a ring cannot serve a step: unbound, outside the cluster, too small, or corrupt (R269, R270,
R275). -/
def State.ringUnfit (s : State) (c bytes : Nat) (r : Option Ring) : Bool :=
  match r with
  | none => true
  | some r => gcluOf (r.owner c) != gcluOf c || decide (r.slotSz < bytes) || (cwFilled r.slots (s.ringWord r c)).isNone

/-- Bytes that the B slot of a step holds (R275, R285). -/
def State.bSlot (s : State) (t : GangStep) : Nat := if (s.cluster t.cluster).bus then 16384 else 4096 * t.side

/-- The kind that a buffer of a cell has for its next step: what the last step under way leaves in it
(R277, R281). -/
def State.kindOf (s : State) (c acc : Nat) : AccKind :=
  s.steps.foldl (fun kd t =>
    if t.phase = .joining then kd
    else
      match t.cmdOf c with
      | some k => if wAcc k.arg = acc then (match stepForm (tFmt k.ea) (tFmt k.eb) with | some f => f.2.2 | none => kd) else kd
      | none => kd) (lookD (s.cell c).acc acc {}).kind

/-- The place of a scale of an entry, in a server of the cluster; none when it stands elsewhere (R231,
R278). -/
def scalePlace (c e k0 i1 : Nat) : Option Nat :=
  let sp := tScSpace e
  let base := tScBase e
  if sp ≠ 2 ∧ sp ≠ 3 then none
  else
    let srv := formCell c sp base
    match tScale e k0 i1 0 0 with
    | none => none
    | some a => if gcluOf srv ≠ gcluOf c ∨ base % 2 ^ 18 + (a - base) + 4 > 2 ^ 18 then none
                else some (padKey srv (base % 2 ^ 18 + (a - base)))

/-- First row index of the A tensor, or column index of the B tensor, of a member's block; on the
broadcast bus a slice's columns are those of its place in the cluster (R278, R285, log 17). -/
def State.blockAt (s : State) (t : GangStep) (w c : Nat) (isB : Bool) : Nat :=
  if isB then
    fld w 19 0 + 32 * (if (s.cluster t.cluster).bus then slx c else slx c - t.ox)
  else fld w 39 20 + 32 * (sly c - t.oy)

/-- Whether some scale of a step has no place (R278). -/
def State.scaleBad (s : State) (t : GangStep) (k : Cmd) : Bool :=
  let bad (e : Nat) (isB : Bool) : Bool :=
    tScMode e != 0 && t.cells.any (fun c => (List.range 32).any (fun i =>
      (scalePlace c e (fld k.arg 59 40) (s.blockAt t k.arg c isB + i)).isNone))
  isFp8 (tFmt k.ea) && (bad k.ea false || bad k.eb true)

/-- The status of a step whose members agree: 0 when it may start (R294). -/
def State.stepStatus (s : State) (t : GangStep) (k : Cmd) : Nat :=
  if stepBad k.arg k.ea k.eb then 0x50
  else if !(tValid k.ea && tValid k.eb) then 0x52
  else
    match stepForm (tFmt k.ea) (tFmt k.eb) with
    | none => 0x51
    | some f =>
      if s.ringUnfit k.cell (4096 * t.side) k.ringC || s.ringUnfit k.cell (s.bSlot t) k.ringD then 0x53
      else if !bit k.arg 61 && t.cells.any (fun c => s.kindOf c (wAcc k.arg) != .none && s.kindOf c (wAcc k.arg) != f.2.2) then 0x55
      else if s.scaleBad t k then 0x54
      else 0

/-! ### The sums (R277) -/

/-- An exact sum; a zero sum is −0 only when every term is. -/
def exactSum (l : List Num) : Num :=
  match l with
  | [] => Num.zero false
  | x :: r => r.foldl (fun a b => (Num.add false a b).1) x

/-- Whether a value is finite. -/
def Num.isFinite (x : Num) : Bool := !x.isNan && !x.isInf

/-- What a step makes of an element: its new pattern, and whether NAN, OF and WRAP are to be set (R277,
R281). -/
structure StepEl where
  bits : Nat
  nan : Bool := false
  of : Bool := false
  wrap : Bool := false

/-- The result of a float step, with its flags: `fin` when every value that entered is finite. -/
def stepOut (F : Fmt) (v : Nat) (fin : Bool) : StepEl :=
  let x := decodeF F v
  { bits := v, nan := x.isNan, of := x.isInf && fin }

/-- The step on one element: elements of A and B as patterns, their scales, whether INIT, and the
element's pattern (R277). -/
def stepEl (fa fb : Nat) (a b : List Nat) (sa sb : Nat) (init : Bool) (acc : Nat) : StepEl :=
  let ta := (Ty.ofNat? fa).getD .f32
  let tb := (Ty.ofNat? fb).getD .f32
  let prods (l : List (Nat × Nat)) : Num := exactSum (l.map (fun p => (Num.mul (decodeF (Ty.fmt ta) p.1) (decodeF (Ty.fmt tb) p.2)).1))
  let ab := a.zip b
  let add (F : Fmt) (x y : Nat) : Nat := (fArith .add F .rne false x y 0).bits
  let mul (F : Fmt) (x y : Nat) : Nat := (fArith .mul F .rne false x y 0).bits
  let fin := a.all (fun x => (decodeF (Ty.fmt ta) x).isFinite) && b.all (fun x => (decodeF (Ty.fmt tb) x).isFinite)
  if isFp8 fa then
    let q := mul fmt32 (rne fmt32 (prods ab)) (mul fmt32 sa sb)
    stepOut fmt32 (if init then q else add fmt32 acc q)
      (fin && (decodeF fmt32 sa).isFinite && (decodeF fmt32 sb).isFinite && (init || (decodeF fmt32 acc).isFinite))
  else if fa = 5 ∨ fa = 6 then
    let t : Int := (ab.map (fun p => Ty.readInt ta p.1 * Ty.readInt tb p.2)).foldl (· + ·) (if init then 0 else sx acc 32)
    { bits := wrapN t 32, wrap := sx (wrapN t 32) 32 != t }
  else if fa = 9 ∨ fa = 10 then
    let g0 := rne fmt32 (prods (ab.take 32))
    let g1 := rne fmt32 (prods (ab.drop 32))
    stepOut fmt32 (add fmt32 (if init then g0 else add fmt32 acc g0) g1) (fin && (init || (decodeF fmt32 acc).isFinite))
  else
    let F := Ty.fmt ta
    let fma (x : Nat) (p : Nat × Nat) : Nat := (fArith .fma F .rne false p.1 p.2 x).bits
    let v := match init, ab with
      | true, p :: r => r.foldl fma (mul F p.1 p.2)
      | _, l => l.foldl fma acc
    stepOut F v (fin && (init || (decodeF F acc).isFinite))

/-- The elements of a line of an operand part: `n` of `z` bytes at a line of 128 bytes. -/
def partLine (data line n z : Nat) : List Nat :=
  let v := data / 2 ^ (1024 * line)
  (List.range n).map (fun i => v / 2 ^ (8 * z * i) % 2 ^ (8 * z))

/-- A member's buffer after a step (R277, R281). -/
def stepAcc (k : Cmd) (f : Nat × Nat × AccKind) (a b : Nat) (sa sb : Nat → Nat) (x : Acc) : Acc :=
  let init := bit k.arg 61
  let rows := (List.range 32).map (fun i => partLine a i f.1 f.2.1)
  let cols := (List.range 32).map (fun j => partLine b j f.1 f.2.1)
  let els := (List.range 1024).map (fun n => stepEl (tFmt k.ea) (tFmt k.eb) (rows.getD (n / 32) []) (cols.getD (n % 32) [])
    (sa (n / 32)) (sb (n % 32)) init (if x.kind = .none then 0 else lookD x.el n 0))
  { kind := f.2.2
    el := (List.range 1024).zip (els.map (·.bits))
    nan := x.nan || els.any (·.nan)
    of := x.of || els.any (·.of)
    wrap := x.wrap || els.any (·.wrap) }

/-! ### Joining and starting (R279, R280, R285) -/

/-- A command taken out of its cell's queue. -/
def State.unqueue (s : State) (k : Cmd) : State :=
  s.mapCell k.cell (fun x => x.setQueue k.op.queue ((x.queue k.op.queue).filter (fun j => j.id != k.id)))

/-- Whether a command has joined a barrier. -/
def State.hasJoined (s : State) (k : Cmd) : Bool := s.steps.any (fun t => t.joined.any (fun j => j.2.id == k.id))

/-- The joined list in the order of the gang's positions. -/
def GangStep.join (t : GangStep) (k : Cmd) : GangStep :=
  { t with joined := t.cells.filterMap (fun c => if c = k.cell then some (c, k) else (t.cmdOf c).map (fun j => (c, j))) }

/-- The steps that start, and fail, with those of a gang: its own, or on the broadcast bus every gang's of the cluster
(R285). -/
def State.joiningWith (s : State) (g : GangStep) : List GangStep :=
  s.steps.filter (fun t => t.phase == .joining && (if (s.cluster g.cluster).bus then t.cluster == g.cluster else sameGang t g))

/-- A command of class 0x18 completes; the low 48 bits of a failing AMMA's token are not stated (R291, log
7). -/
def State.ammaFail (s : State) (k : Cmd) (status : Nat) : State :=
  let v := s.freeVal
  v.2.complete k status (if status = 3 then 0 else v.1)

/-- Every member's command leaves its queue and completes with a status. -/
def State.stepFails (s : State) (t : GangStep) (status : Nat) : State :=
  t.joined.foldl (fun s j =>
    let s1 := (s.unqueue j.2).ammaFail j.2 status
    if status = 0x56 then s1.boundaryTrap j.2 .anvMismatch 0x56 6 else s1) s

/-- A member joined: where it comes more than 65,536 cycles after the first, the step fails at every member that has
joined (R280, R285). DESIGN CHOICE (log 109): R285 does not say whose first join starts the limit of a broadcast; each gang's
own first join starts that of its step, and a member that joins once the limit of any gang of the cluster has passed fails
every joining step of the cluster. -/
def State.joinLimit (s : State) (g : GangStep) : State :=
  let l := s.joiningWith g
  if l.any (fun t => decide (t.since + 65536 < s.gt.toNat)) then
    { l.foldl (fun s t => s.stepFails t 0x56) s with steps := s.steps.filter (fun t => !l.contains t) }
  else s

/-- AMMA_JOIN: an AMMA at the head of its queue joins the wired barrier of its gang, with the outcome of
its guard (R279, R287). -/
def execAmmaJoin (c : Nat) (s : State) : Out :=
  match (s.cell c).anvil with
  | [] => .next s
  | k :: _ =>
    if k.op ≠ .amma ∨ s.hasJoined k then .next s
    else
      match s.verdict k with
      | none => .next s
      | some v =>
        let k1 := { k with started := v }
        let g := s.gangOf c
        if s.steps.any (fun t => sameGang t g && t.phase == .joining) then
          .next (({ s with steps := s.steps.map (fun t => if sameGang t g && t.phase == .joining then t.join k1 else t) } : State).joinLimit g)
        else .next (({ s with steps := s.steps ++ [g.join k1] } : State).joinLimit g)

/-- The parameters compared (R279). -/
def ammaKey (k : Cmd) : Nat × Option Ring × Option Ring × Nat × Nat × Nat × Bool :=
  (k.arg, k.ringC, k.ringD, k.ta, k.tb, k.cnt, k.started)

/-- Whether every member has joined. -/
def GangStep.full (t : GangStep) : Bool := decide (t.joined.length = t.side * t.side)

/-- Whether the members of a full step agree. -/
def GangStep.agrees (t : GangStep) : Bool :=
  match t.joined with
  | [] => true
  | j :: r => r.all (fun x => ammaKey x.2 == ammaKey j.2)

/-- A full step started, discarded or refused: the step that goes on, and the state (R279, R280, R287,
R294). DESIGN CHOICE (log 110): where every guard is false and another parameter disagrees, the spec does not say whether
DISCARDED or MISMATCH results; it is MISMATCH. -/
def State.startStep (s : State) (t : GangStep) : Option GangStep × State :=
  match t.lead with
  | none => (none, s)
  | some k =>
    if !t.agrees then (none, s.stepFails t 0x56)
    else if !k.started then (none, s.stepFails t 3)
    else
      let st := s.stepStatus t k
      if st ≠ 0 then (none, s.stepFails t st)
      else (some { t with phase := .ready, wave := s.serial }, t.joined.foldl (fun s j => s.unqueue j.2) s)

/-- Whether the steps of a broadcast name one B ring (R285); their generations are compared at its fetch. -/
def oneB (l : List GangStep) : Bool :=
  match l.filterMap (·.lead) with
  | [] => true
  | k :: r => r.all (fun x => x.ringD == k.ringD)

/-- Whether every member that a step needs has joined: its gang, or on the broadcast bus all sixteen cells (R279,
R285). -/
def State.allJoined (s : State) (t : GangStep) : Bool :=
  if (s.cluster t.cluster).bus then
    (s.joiningWith t).all (·.full) && ((s.joiningWith t).map (fun u => u.joined.length)).foldl (· + ·) 0 == 16
  else t.full

/-- AMMA_STEP_START: the step of a full gang starts, once the issue releases of its commands are complete, before
which no ring is read; on the broadcast bus the steps of all sixteen cells start together (R145, R265, R279, R285).
DESIGN CHOICE (log 111): R285 does not say whether a gang whose guards are all false has issued its step of a broadcast; it
has, and the steps of the other gangs go on. -/
def execAmmaStepStart (i : Nat) (s : State) : Out :=
  match s.steps[i]? with
  | none => .next s
  | some t =>
    let l := s.joiningWith t
    if t.phase ≠ .joining ∨ !s.allJoined t ∨ !l.all (fun u => u.joined.all (fun j => s.released j.2)) then .next s
    else if !(s.cluster t.cluster).bus then
      let r := s.startStep t
      .next { r.2 with steps := match r.1 with | some x => s.steps.set i x | none => s.steps.eraseIdx i }
    else
      let rest := s.steps.filter (fun u => !l.contains u)
      if !oneB (l.filter (fun u => u.agrees && (u.lead.map (·.started)).getD false)) then
        .next { l.foldl (fun s u => s.stepFails u 0x56) s with steps := rest }
      else
        let r := l.foldl (fun (acc : List GangStep × State) u =>
          let x := acc.2.startStep u
          (acc.1 ++ (x.1.map (fun y => { y with wave := s.serial })).toList, x.2)) ([], s)
        .next { r.2 with steps := rest ++ r.1, serial := r.2.serial + 1 }

/-- GANG_TIMEOUT: 65,536 cycles after the first member joined, a step that some member has not joined fails (R280,
R285). Each gang's step has the limit of its own first join (DESIGN CHOICE, log 109). -/
def execGangTimeout (i : Nat) (s : State) : Out :=
  match s.steps[i]? with
  | some t =>
    if t.phase = .joining ∧ t.since + 65536 ≤ s.gt.toNat ∧ !s.allJoined t then
      .next { s.stepFails t 0x56 with steps := s.steps.eraseIdx i }
    else .next s
  | none => .next s

/-! ### Fetch (R270, R278, R283 to R286) -/

/-- The steps that fetch with a step: itself, or its broadcast. -/
def State.fetchGroup (s : State) (t : GangStep) (p : Phase) : GangStep → Bool :=
  if (s.cluster t.cluster).bus then (fun u => u.cluster == t.cluster && u.phase == p && u.wave == t.wave) else (fun u => u == t)

/-- Whether a step comes before another of its gang, or on the broadcast bus of its cluster. -/
def State.inTurn (s : State) (u t : GangStep) : Bool :=
  if (s.cluster t.cluster).bus then u.cluster == t.cluster && u.wave != t.wave else sameGang u t

/-- Advances of a ring that the earlier steps of a step's gang have still to make, which count as made (R286). -/
def State.advAhead (s : State) (i : Nat) (t : GangStep) (r : Ring) : Nat :=
  (((s.steps.take i).filter (fun u => sameGang u t && u.phase == .fetching)).map (fun u => match u.lead with
    | some k => (if bit k.cnt 10 && (k.ringC.map (·.ctl)) == some r.ctl then 1 else 0) +
        (if bit k.cnt 9 && (k.ringD.map (·.ctl)) == some r.ctl then 1 else 0)
    | none => 0)).foldl (· + ·) 0

/-- Whether the rings of a step hold the slots it names, beyond those that `ahead` frees; none when one is corrupt
(R270, R286). -/
def State.slotsReady (s : State) (ahead : Ring → Nat) (k : Cmd) : Option Bool :=
  match k.ringC, k.ringD with
  | some a, some b =>
    (match cwFilled a.slots (s.ringWord a k.cell), cwFilled b.slots (s.ringWord b k.cell) with
     | some fa, some fb => some (decide (k.ska + ahead a < fa) && decide (k.skb + ahead b < fb))
     | _, _ => none)
  | _, _ => none

/-- The generation of the slot that a step reads (R268, R286). -/
def State.genOf (s : State) (ahead : Ring → Nat) (k : Cmd) (r : Ring) (sk : Nat) : Nat :=
  (cwC (s.ringWord r k.cell) + sk + ahead r) % ringWrap r.slots

/-- Whether the steps of a broadcast read one generation of the B ring, as far as its control word is sound (R285). -/
def State.oneGen (s : State) (ahead : GangStep → Ring → Nat) (l : List GangStep) : Bool :=
  let gens := l.filterMap (fun u => u.lead.bind (fun k => k.ringD.bind (fun r =>
    (cwFilled r.slots (s.ringWord r k.cell)).map (fun _ => s.genOf (ahead u) k r k.skb))))
  gens.all (· == gens.headD 0)

/-- The scales of a member's rows or columns, 1.0 without scales (R278). -/
def State.scalesOf (s : State) (t : GangStep) (k : Cmd) (isB : Bool) : Map Nat :=
  let e := if isB then k.eb else k.ea
  t.cells.flatMap (fun c => (List.range 32).map (fun i =>
    (c * 32 + i, if tScMode e = 0 then 0x3F800000
      else match scalePlace c e (fld k.arg 59 40) (s.blockAt t k.arg c isB + i) with
        | some a => memRead s.mem a 4
        | none => 0x3F800000)))

/-- Whether a scale of a step is poisoned (R422). -/
def State.scalesBad (s : State) (t : GangStep) (k : Cmd) : Bool :=
  isFp8 (tFmt k.ea) && [false, true].any (fun isB =>
    let e := if isB then k.eb else k.ea
    tScMode e != 0 && t.cells.any (fun c => (List.range 32).any (fun i =>
      match scalePlace c e (fld k.arg 59 40) (s.blockAt t k.arg c isB + i) with
      | some a => s.bad a 4
      | none => false)))

/-- The tokens of a step that met poison: a status that the specification does not state (R422, log 7). -/
def State.stepPoisoned (s : State) (t : GangStep) : State :=
  t.joined.foldl (fun s j => let v := s.freeVal; v.2.ammaFail j.2 (0x10000 + v.1 % 2 ^ 16)) s

/-- AMMA_FETCH: the step's fetch begins after that of the step before it, which need not have ended, when its issue
releases are complete and the rings hold its slots; its scales are read. The steps of a broadcast that would read different
generations of the B ring do not start: they end with MISMATCH (R145, R270, R278, R280, R284, R285, R286). -/
def execAmmaFetch (i : Nat) (s : State) : Out :=
  match s.steps[i]? with
  | none => .next s
  | some t =>
    let g := s.fetchGroup t .ready
    let l := s.steps.filter g
    let before := (s.steps.take i).any (fun u => s.inTurn u t && u.phase == .ready)
    let ahead (u : GangStep) : Ring → Nat := s.advAhead i u
    if t.phase ≠ .ready ∨ before ∨ !l.all (fun u => u.joined.all (fun j => s.released j.2)) then .next s
    else if !s.oneGen ahead l then
      .next { l.foldl (fun s u => s.stepFails u 0x56) s with steps := s.steps.filter (fun u => !g u) }
    else
      let corrupt := l.filter (fun u => u.lead.any (fun k => (s.slotsReady (ahead u) k).isNone))
      if !corrupt.isEmpty then
        .next { corrupt.foldl (fun s u => u.joined.foldl (fun s j => s.ammaFail j.2 0x53) s) s with
                steps := s.steps.filter (fun u => !corrupt.contains u) }
      else if l.any (fun u => u.lead.any (fun k => s.slotsReady (ahead u) k != some true)) then .next s
      else
        let begin_ (u : GangStep) : GangStep :=
          match u.lead with
          | some k => { u with
              phase := .fetching
              genA := match k.ringC with | some r => s.genOf (ahead u) k r k.ska | none => 0
              genB := match k.ringD with | some r => s.genOf (ahead u) k r k.skb | none => 0
              scA := s.scalesOf u k false
              scB := s.scalesOf u k true }
          | none => u
        let poisoned := l.filter (fun u => u.lead.any (fun k => s.scalesBad u k))
        if !poisoned.isEmpty then
          .next { poisoned.foldl (fun s u => s.stepPoisoned u) s with steps := s.steps.filter (fun u => !poisoned.contains u) }
        else .next { s with steps := s.steps.map (fun u => if g u then begin_ u else u) }

/-- A slice's part of a slot: from its operand cache when it holds it, or read and then installed (R283);
whether it was read poisoned. -/
def State.part (s : State) (c : Nat) (bus : Bool) (r : Ring) (gen off : Nat) (isB : Bool) : Nat × Bool × State :=
  let key := (r.slotLoc c gen).key + off
  let hit (e : OpEnt) : Bool := e.ctl == r.ctl && e.gen == gen && e.roleB == isB
  match (if bus then none else (s.cell c).opc.find? hit) with
  | some e => (e.data, false, s.mapCell c (fun x => { x with opc := e :: x.opc.filter (fun y => !hit y) }))
  | none =>
    let d := memRead s.mem key 4096
    let e : OpEnt := { ctl := r.ctl, gen := gen, roleB := isB, data := d }
    (d, s.bad key 4096, if bus || s.bad key 4096 then s else s.mapCell c (fun x => { x with opc := (e :: x.opc).take 8 }))

/-- The operands of a step read for each of its members (R275, R283, R285). -/
def State.fetchParts (s : State) (t : GangStep) (a b : Ring) : GangStep × Bool × State :=
  let bus := (s.cluster t.cluster).bus
  t.cells.foldl (fun (u, bad, s) c =>
    let x := s.part c bus a t.genA (4096 * (sly c - t.oy)) false
    let y := x.2.2.part c bus b t.genB (4096 * (if bus then slx c else slx c - t.ox)) true
    ({ u with opA := put u.opA c x.1, opB := put u.opB c y.1 }, bad || x.2.1 || y.2.1, y.2.2)) (t, false, s)

/-- One step's fetch ends: its consumer counts advance (R286). -/
def State.fetchEnd (s : State) (t : GangStep) : Option GangStep × State :=
  match t.lead with
  | some k =>
    (match k.ringC, k.ringD with
     | some a, some b =>
       let r := s.fetchParts t a b
       if r.2.1 then (none, r.2.2.stepPoisoned t)
       else
         let s1 := if bit k.cnt 10 then r.2.2.ringStep k a true else r.2.2
         let s2 := if bit k.cnt 9 then s1.ringStep k b true else s1
         (some { r.1 with phase := .fetched }, s2)
     | _, _ => (none, s))
  | none => (none, s)

/-- An advance of a step that waits at its ring (R99, R430). -/
def State.advWaits (s : State) (t : GangStep) : Option (Cmd × Ring) :=
  t.lead.bind (fun k =>
    (((if bit k.cnt 10 then k.ringC.toList else []) ++ (if bit k.cnt 9 then k.ringD.toList else [])).find? (s.ringStepWaits k)).map
      (fun r => (k, r)))

/-- AMMA_FETCH_END: the operands are in, after those of the step before, and ADVA and ADVB are made (R283, R284,
R286). -/
def execAmmaFetchEnd (i : Nat) (s : State) : Out :=
  match s.steps[i]? with
  | none => .next s
  | some t =>
    if t.phase ≠ .fetching ∨ (s.steps.take i).any (fun u => s.inTurn u t && u.phase == .fetching) then .next s
    else
      let g := s.fetchGroup t .fetching
      match (s.steps.filter g).findSome? s.advWaits with
      | some w => .next (s.ringStepTry w.1 w.2)
      | none =>
        let r := s.steps.foldl (fun (acc : List GangStep × State) u =>
          if g u then (let x := acc.2.fetchEnd u; (acc.1 ++ x.1.toList, x.2)) else (acc.1 ++ [u], acc.2)) ([], s)
        .next { r.2 with steps := r.1 }

/-- AMMA_COMPUTE_END: the step's sums go to the members' buffers in the order of the gang's steps, and
each member's token is on its way (R277, R281, R284, R291). -/
def execAmmaComputeEnd (i : Nat) (s : State) : Out :=
  match s.steps[i]? with
  | none => .next s
  | some t =>
    if t.phase ≠ .fetched ∨ (s.steps.take i).any (fun u => sameGang u t) then .next s
    else
      let s1 : State := { s with steps := s.steps.eraseIdx i }
      .next (t.joined.foldl (fun s (c, k) =>
        match stepForm (tFmt k.ea) (tFmt k.eb) with
        | none => s
        | some f =>
          let acc := wAcc k.arg
          let sc (m : Map Nat) (j : Nat) : Nat := lookD m (c * 32 + j) 0x3F800000
          let lead := t.lead.getD k
          let upd (x : Cell) : Acc := stepAcc lead f (lookD t.opA c 0) (lookD t.opB c 0) (sc t.scA) (sc t.scB) (lookD x.acc acc {})
          (s.mapCell c (fun x => { x with acc := put x.acc acc (upd x) })).complete k 0 t.genA) s1)

/-! ### ARD (R292, R293) -/

/-- The vector registers that an ARD command writes (R293). -/
def ardRegs (k : Cmd) : List RegSpec := ardDst k.tok.isSome k.arg

/-- Whether a read word is a DESC for a buffer of a kind (R292). -/
def ardBad (k : Cmd) (kd : AccKind) : Bool :=
  let w := k.arg
  let t := ardTy w
  bit w 36 || decide (31 < fld w 61 57 + fld w 56 52) || fld w 43 42 == 3 || fld w 35 18 % 64 != 0 ||
    (fld w 43 42 == 1 && fld w 17 0 % 64 != 0) || kd == .none ||
    (match kd with
     | .int32 => !(t == 1 || t == 8 || t == 9 || t == 10)
     | _ => !(decide (7 ≤ t) && decide (t ≤ 12))) ||
    (t == 1 && (bit w 47 || bit w 46 || bit w 45)) || (bit w 46 && kd != .fp32) ||
    (fld w 43 42 == 0 && (k.tok.isNone || decide (32 < fld w 41 37 + (ardBytes w + 63) / 64)))

/-- RANGE: the output, or the read-path block, passes the end of the scratchpad (R293, log 18). -/
def ardRange (w : Nat) : Bool :=
  (fld w 43 42 == 1 && decide (2 ^ 18 < fld w 17 0 + ardBytes w)) ||
    (bit w 47 && decide (2 ^ 18 < fld w 35 18 + 4 * (fld w 61 57 + ardRows w))) ||
    (bit w 45 && decide (2 ^ 18 < fld w 35 18 + 132))

/-- One output element (R293). -/
def ardEl (k : Cmd) (kd : AccKind) (x row scale : Nat) : Nat :=
  let w := k.arg
  if ardTy w = 1 then x
  else
    let F := if kd = .fp64 then fmt64 else fmt32
    let x0 := if kd = .int32 then rne fmt32 (Num.ofInt (sx x 32)) else x
    let x1 := if bit w 47 then rne F (Num.add false (decodeF F x0) (decodeF fmt32 row).negate).1 else x0
    let x2 := if bit w 45 then rne F (Num.mul (decodeF F x1) (decodeF fmt32 scale)).1 else x1
    let x3 := if bit w 46 then expTab x2 else x2
    let md : Rnd := match fld k.cnt 1 0 with | 0 => .rne | 1 => .rz | 2 => .rd | _ => .ru
    (fCvt (Ty.fmt ((Ty.ofNat? (ardTy w)).getD .f32)) F md (bit k.cnt 2) x3).bits

/-- The rows of the output (R293). -/
def State.ardOut (s : State) (k : Cmd) (x : Acc) : List Nat :=
  let w := k.arg
  let z := (ardSize w).getD 0
  let blk := padKey k.cell (fld w 35 18)
  let scale := memRead s.mem (blk + 128) 4
  (List.range (ardRows w)).map (fun i =>
    let r := fld w 61 57 + i
    let rv := memRead s.mem (blk + 4 * r) 4
    (List.range 32).foldr (fun c acc => ardEl k x.kind (lookD x.el (32 * r + c) 0) rv scale + 2 ^ (8 * z) * acc) 0)

/-- Whether the read-path block that an ARD uses is poisoned (R422). -/
def State.ardPoison (s : State) (k : Cmd) : Bool :=
  let blk := padKey k.cell (fld k.arg 35 18)
  (bit k.arg 47 && s.bad (blk + 4 * fld k.arg 61 57) (4 * ardRows k.arg)) || (bit k.arg 45 && s.bad (blk + 128) 4)

/-- The flags of a buffer in [34:32] of ARD's value (R293). -/
def accFlags (x : Acc) : Nat := (if x.nan then 1 else 0) + (if x.of then 2 else 0) + (if x.wrap then 4 else 0)

/-- An ARD completes: its registers are pending no longer (R189, R293). -/
def State.ardDone (s : State) (k : Cmd) (status bytes flags : Nat) : State :=
  let s1 := if s.live k.cell k.hi k.act then
      s.mapBank k.cell k.hi (fun b => (ardRegs k).foldl dropPend b)
    else s
  s1.complete k status (flags * 2 ^ 32 + bytes)

/-- An ARD at the head of its queue: refused, held by its ring, or started (R270, R292 to R294). -/
def State.startArd (s : State) (k : Cmd) : State :=
  let c := k.cell
  let acc := wAcc k.arg
  let x := lookD (s.cell c).acc acc {}
  let fails (st : Nat) : State := (s.unqueue k).ardDone k st 0 (accFlags x)
  let go (loc : Option Loc) : State :=
    if s.ardPoison k then (let v := s.freeVal; ((v.2.unqueue k).ardDone k (v.1 % 2 ^ 16) 0 (accFlags x)))
    else
      let rows := s.ardOut k x
      let first := 32 * fld k.arg 61 57
      let el := if bit k.arg 44 then x.el.map (fun e => if first ≤ e.1 ∧ e.1 < first + 32 * ardRows k.arg then (e.1, 0) else e) else x.el
      (s.unqueue k).mapCell c (fun y => { y with
        acc := if bit k.arg 44 then put y.acc acc { x with el := el } else y.acc
        ard := some { cmd := k, size := 32 * (ardSize k.arg).getD 0, rows := rows, loc := loc, flags := accFlags x } })
  if ardBad k x.kind then fails 0x50
  else if ardRange k.arg then fails 0x58
  else if fld k.arg 43 42 = 0 then go none
  else if fld k.arg 43 42 = 1 then go (some (.port c (fld k.arg 17 0)))
  else
    match k.ringD with
    | none => fails 0x53
    | some r =>
      if s.ringUnfit c (ardBytes k.arg) (some r) then fails 0x53
      else if cwFilled r.slots (s.ringWord r c) == some r.slots then s
      else go (some (r.slotLoc c (cwP (s.ringWord r c))))

/-- ARD_ROW_LAND: a row lands; after the last the ring's producer count is raised, or the vector registers
are written, and the token follows (R293). -/
def execArdRowLand (c : Nat) (s : State) : Out :=
  match (s.cell c).ard with
  | none => .next s
  | some a =>
    let k := a.cmd
    let w : Writer := { gid := k.gid, asid := asidOf (s.lr k.gid), src := c, msgid := 0 }
    let loc := a.loc.map (fun l => match l with | .port d off => Loc.port d (off + a.row * a.size) | l => l)
    let last := decide (a.rows.length ≤ a.row + 1)
    let rows := loc.filter (fun l => s.ringWaits w l 8)
    let ends := (if last && fld k.arg 43 42 == 2 then k.ringD else none).filter (s.ringStepWaits k)
    match rows, ends with
    | some l, _ => .next (s.ringTry w l 8)
    | _, some r => .next (s.ringStepTry k r)
    | _, _ =>
      let s1 := match loc with
        | some l => (s.engineWrite w.gid w.asid c l a.size (a.rows.getD a.row 0)).scanBars (match l with | .port d _ => d | _ => c)
        | none => s
      if !last then .next (s1.mapCell c (fun x => { x with ard := some { a with row := a.row + 1 } }))
      else
        let s2 := s1.mapCell c (fun x => { x with ard := none })
        let all := (a.rows.foldr (fun r acc => r + 2 ^ (8 * a.size) * acc) 0)
        let s3 := if a.loc.isNone && s2.live c k.hi k.act then
            s2.mapBank c k.hi (fun b => (List.range (ardRegs k).length).foldl (fun b i =>
              writeVec b (BitVec.ofNat 8 (64 + fld k.arg 41 37 + i)) (BitVec.ofNat 512 (all / 2 ^ (512 * i)))) b)
          else s2
        let s4 := match (if fld k.arg 43 42 = 2 then k.ringD else none) with
          | some r => s3.ringStep k r false
          | none => s3
        .next (s4.ardDone k 0 (ardBytes k.arg) a.flags)

/-! ### The head of the anvil queue (R265, R281, R291) -/

/-- Whether a step under way writes one of a cell's buffers. -/
def State.stepsOn (s : State) (c : Nat) (acc : Nat → Bool) : Bool :=
  s.steps.any (fun t => t.phase != .joining && (t.cmdOf c).any (fun k => acc (wAcc k.arg)))

/-- Every buffer, the gang size and the operand cache of a cell as at admission (R266). -/
def Cell.clearAnvil (x : Cell) : Cell := { x with acc := [], gang := 0, opc := [] }

/-- The head of a cell's anvil queue, other than AMMA: discarded, held, or started (R265, R287, R291). -/
def State.anvilHead (s : State) (c : Nat) : State :=
  match (s.cell c).anvil with
  | [] => s
  | k :: _ =>
    if k.op = .amma then s
    else
      match s.verdict k with
      | none => s
      | some false => (s.unqueue k).ardDone k 3 0 0
      | some true =>
        if !s.released k then s
        else
          match k.op with
          | .acfg =>
            if s.stepsOn c (fun _ => true) || (s.cell c).ard.isSome then s
            else ((s.unqueue k).mapCell c (fun x => { x with gang := k.cnt % 4, opc := [] })).complete k 0 0
          | .azero =>
            if s.stepsOn c (fun a => bit k.cnt a) then s
            else ((s.unqueue k).mapCell c (fun x => { x with acc := x.acc.filter (fun e => !bit k.cnt e.1) })).complete k 0 0
          | .ard => if s.stepsOn c (fun a => a == wAcc k.arg) || (s.cell c).ard.isSome then s else s.startArd k
          | _ => s

/-! ### Issue (R291) -/

/-- ACFG. -/
def execAcfg (x : AcfgR) (s : State) : Out :=
  .next (s.irrev 0 (s.enqueue { s.cmd .acfg x.g x.a x.det .clus 0 with cnt := x.size.toNat }))

/-- AMMA: the step word, handles and entries are captured (R118, R269, R276). -/
def execAmma (x : AmmaR) (s : State) : Out :=
  .next (s.irrev 0 (s.enqueue { s.cmd .amma x.g x.a x.det .clus (s.rd x.b).toNat with
    ea := s.tid x.ta.toNat
    eb := s.tid x.tb.toNat
    ta := x.ta.toNat
    tb := x.tb.toNat
    ringC := handleOf s.b x.c
    ringD := handleOf s.b x.d
    cnt := bitOfB x.adva * 2 ^ 10 + bitOfB x.advb * 2 ^ 9 + x.ska.toNat * 2 ^ 5 + x.skb.toNat * 2 }))
where
  /-- A truth value as a bit. -/
  bitOfB (p : Bool) : Nat := if p then 1 else 0

/-- AZERO. -/
def execAzero (x : AzeroR) (s : State) : Out :=
  .next (s.irrev 0 (s.enqueue { s.cmd .azero x.g x.a x.det .clus 0 with cnt := x.mask.toNat }))

/-- ARD: the read word and the output ring are captured; the vector registers are pending (R292, R293). -/
def execArd (x : ArdR) (s : State) : Out :=
  let md : Nat := match x.rnd with | .rne => 0 | .rz => 1 | .rd => 2 | .ru => 3
  let k := { s.cmd .ard x.g x.a x.det .clus (s.rd x.b).toNat with
    ringD := handleOf s.b x.d
    cnt := md + (if x.sat then 4 else 0) }
  .next (s.irrev 0 ((s.mapB (fun b => (ardRegs k).foldl addPend b)).enqueue k))

end Sys2Proof.Machine
end

