-- ==== Sys2Proof/Machine/Hearth.lean ====
section
/-!
DEFINITION. Machine/Hearth.lean: state space: streams as entries of a die's table, accesses to their pages at
the hearth slice, and the paging of state (04 R100 to R103, 03 R78 to R84, 17 R392, R393).
-/

namespace Sys2Proof.Machine

/-! ### Stream entries (R392, R393) -/

/-- Stream maps of a die (R78). -/
def streamMaps : Nat := 32768
/-- An entry replaced. -/
def State.setStream (s : State) (sid : Nat) (e : Stream) : State :=
  s.mapDie (sidDie sid) (fun d => { d with streams := put d.streams (sidEntry sid) e })

/-- An entry freed. -/
def State.delStream (s : State) (sid : Nat) : State :=
  s.mapDie (sidDie sid) (fun d => { d with streams := del d.streams (sidEntry sid) })

/-- The sibling group of a stream's children, pruned ones among them, by id in rising order. -/
def State.kids (s : State) (sid : Nat) : List (Nat × Stream) :=
  ((s.die (sidDie sid)).streams.filter (fun p => p.2.pv && p.2.parent == sid)).map
    (fun p => (sidDie sid * 2 ^ 14 + p.1, p.2))

/-- The pruned entries that a stream holds, those that they hold among them (R394). -/
def State.prunedBelow (s : State) : Nat → Nat → List Nat
  | 0, _ => []
  | fuel + 1, sid => ((s.kids sid).filter (fun c => c.2.status == .pruned)).flatMap (fun c => c.1 :: s.prunedBelow fuel c.1)

/-- Fuel for a family of streams of a die. -/
def State.sFuel (s : State) (sid : Nat) : Nat := (s.die (sidDie sid)).streams.length + 1

/-- Some entries freed. A child that lives on belongs to no sibling group any more (R393, R394, log 12). -/
def State.freeEntries (s : State) (sids : List Nat) : State :=
  sids.foldl (fun s i =>
    let t := s.delStream i
    (t.kids i).foldl (fun t c => t.setStream c.1 { c.2 with pv := false }) t) s

/-- The code of a status (R393). -/
def SStat.code : SStat → Nat
  | .free => 0
  | .live => 1
  | .atGate => 2
  | .waitJoin => 3
  | .done => 4
  | .pruned => 5

/-- A truth value as a bit. -/
def bitOf (p : Bool) : Nat := if p then 1 else 0

/-- The 64-byte report of an entry (R393); a pruned stream has no map. -/
def State.report (s : State) (sid : Nat) (e : Stream) : Nat :=
  let kids := s.kids sid
  let m : OMap := if e.status = .pruned then { parent := none, depth := 0, count := 0, owned := false, ents := [] }
    else ((s.die (sidDie sid)).pool.map? e.map).getD { parent := none, depth := 0, count := 0, owned := false, ents := [] }
  e.ret * 2 ^ 480 + e.disc * 2 ^ 448 + e.jval * 2 ^ 416 + e.jwin % 2 ^ 17 * 2 ^ 399 + e.parent % 2 ^ 17 * 2 ^ 382 +
    bitOf e.pv * 2 ^ 381 + (kids.filter (fun p => p.2.status != .pruned)).length % 16 * 2 ^ 377 +
    (kids.filter (fun p => p.2.status == .pruned)).length % 16 * 2 ^ 373 + e.horizon % 2 ^ 16 * 2 ^ 357 +
    e.steps % 2 ^ 16 * 2 ^ 341 + e.layer % 2 ^ 10 * 2 ^ 331 + e.queue.length % 128 * 2 ^ 324 +
    e.owner % 2 ^ 13 * 2 ^ 311 + m.depth % 8 * 2 ^ 308 + m.count % 2 ^ 32 * 2 ^ 276 + m.ents.length % 2 ^ 9 * 2 ^ 267 +
    (if e.lnk then e.seq % 2 ^ 32 * 2 ^ 235 + 2 ^ 234 else 0) + bitOf e.pers * 2 ^ 233 + bitOf e.disp * 2 ^ 232 +
    bitOf e.mig * 2 ^ 231 + e.status.code * 2 ^ 228 + e.age.toNat

/-! ### Paging (R103) -/

/-- Pages of a die that are in use and stand in a spill slot. -/
def Die.out (x : Die) : List Nat := x.spilled.filter (fun p => x.pool.count p != 0)

/-- Frames of a die that hold no page. -/
def Die.freeFrames (x : Die) : Nat := hearthFrames - (x.pool.pages.length - x.out.length)

/-- Pages visible to a stream. -/
def Die.pagesOf (x : Die) (e : Stream) : List Nat := (x.pool.visible 4 e.map).map (·.2)

/-- Pages pinned by streams at a gate (R103). -/
def Die.pins (x : Die) : List Nat :=
  (x.streams.filter (fun p => p.2.status == .atGate && p.2.pinned)).flatMap (fun p => x.pagesOf p.2)

/-- A page made the most recent. -/
def Die.touch (x : Die) (p : Nat) : Die := { x with recent := p :: x.recent.filter (· != p) }

/-- A page brought into a frame. -/
def Die.bring (x : Die) (p : Nat) : Die := { x.touch p with spilled := x.spilled.filter (· != p) }

/-- The grid of a stream that sees a page, for its counters. -/
def Die.pageGrid (x : Die) (p : Nat) : Nat :=
  ((x.streams.find? (fun e => (x.pagesOf e.2).contains p)).map (fun e => e.2.gid)).getD 0

/-- The least recently used page of a die that stands in a frame and is not pinned (R103). -/
def Die.oldPage (x : Die) : Option Nat :=
  let pins := x.pins
  (x.recent.reverse.filter (fun p => x.pool.count p != 0 && !x.spilled.contains p && !pins.contains p)).head?

/-- Whether a line of memory, by its number, is one of a physical state page. -/
def pageLine (d p l : Nat) : Bool := decide (hearthKey d p 0 ≤ l * 64) && decide (l * 64 < hearthKey d p 0 + 32768)

/-- A page moved to a spill slot, counted. The slot marks poison by the line, as global memory does, and is written
whole: a line of which a word is poisoned is poisoned, and no error that waits for a read is left (R58, R59, R103, log
101). -/
def State.spillPage (s : State) (d p : Nat) : State :=
  let bad := ((s.poison.map (· / 8)).filter (pageLine d p)).eraseDups
  let s1 : State := { s with
    poison := bad.foldl (fun q l => poisonMark q true (l * 64) 64) s.poison
    weak := s.weak.filter (fun l => !pageLine d p l) }
  (s1.mapDie d (fun y => { y with spilled := p :: y.out, recent := y.recent.filter (· != p) })).countDie d
    ((s.die d).pageGrid p) 0x102

/-- HEARTH_SPILL: the least recently used unpinned page moves to a spill slot when fewer than 64 frames
are free (R103). -/
def execHearthSpill (d : Nat) (s : State) : Out :=
  let x := s.die d
  match x.oldPage with
  | some p => if x.freeFrames < 64 ∧ x.out.length < s.spillSlots d then .next (s.spillPage d p) else .next s
  | none => .next s

/-- A spilled page brought back into a free frame, counted; a single-bit error in a line of its slot is corrected as it
is read, and counted (R58, R103). -/
def State.bringPage (s : State) (d p : Nat) : State :=
  let g := (s.die d).pageGrid p
  let due := s.weak.filter (pageLine d p)
  let s1 := due.foldl (fun s _ => s.countDie d g 0x105) { s with weak := s.weak.filter (fun l => !pageLine d p l) }
  (s1.mapDie d (·.bring p)).countDie d g 0x103

/-- A spilled page filled back: into a free frame, or, when there is none, in exchange for the least recently
used unpinned page, which takes its slot (R103). -/
def State.fillPage (s : State) (d p : Nat) : State :=
  let x := s.die d
  if !x.out.contains p then s
  else if 0 < x.freeFrames then s.bringPage d p
  else
    match x.oldPage with
    | some q => (s.spillPage d q).bringPage d p
    | none => s

/-- HEARTH_FILL: a spilled page returns to a frame (R103). -/
def execHearthFill (d page : Nat) (s : State) : Out := .next (s.fillPage d page)

/-! ### Accesses at the hearth slice (R101, R102, R104) -/

/-- A state-space access that traps. -/
def Access.traps (a : Access) (c : Cause) (detail : Nat) : Flight :=
  .reply a 0 (some { cause := c, pc := a.pc, addr := a.ea, detail := detail, insn := a.insn })

/-- A state load: zero where no level holds the page; none while the page is out (R79, R103, R422). -/
def State.stateLoad (s : State) (a : Access) (sid off : Nat) (e : Stream) : Option (State × Flight) :=
  let d := sidDie sid
  match (s.die d).pool.find e.map (off / 2 ^ 15) with
  | none => some (s, .reply a 0 none)
  | some (g, _) =>
    let key := hearthKey d g (off % 2 ^ 15)
    if (s.die d).out.contains g then none
    else if s.bad key a.n then some (s, a.traps .memUe (3 * 2 ^ 56))
    else some (s.mapDie d (·.touch g), .reply a (memRead s.mem key a.n) none)

/-- The page of a write made ready: copied or zeroed when it is new (R81). -/
def State.pageReady (s : State) (d : Nat) (w : PageWrite) : State :=
  let k := hearthKey d w.page 0
  let s1 := s.mapDie d (fun x => { x with pool := w.pool }.bring w.page)
  if !w.fresh then s1
  else
    match w.src with
    | some p =>
      { s1 with mem := memCopy s1.mem k (hearthKey d p 0) 32768
                poison := poisonCopy s1.poison k (hearthKey d p 0) 32768 }
    | none => { s1 with mem := memClear s1.mem k 32768, poison := poisonOff s1.poison k 32768 }

/-- A state store: OVL.FROZEN, OVL.NOPAGE, or the write of R81; none while a page or a frame is awaited. -/
def State.stateStore (s : State) (a : Access) (sid off : Nat) (e : Stream) (data mask : Nat) : Option (State × Flight) :=
  let d := sidDie sid
  let x := s.die d
  if e.mig || x.pool.frozen e.map then some (s, a.traps .ovlFrozen 0)
  else
    match x.pool.write (s.statePages d) [] e.map (off / 2 ^ 15) with
    | none => some (s, a.traps .ovlNopage 0)
    | some w =>
      if (w.fresh && x.freeFrames == 0) || (!w.fresh && x.out.contains w.page) ||
          (match w.src with | some p => x.out.contains p | none => false) then none
      else
        let s1 := s.pageReady d w
        some (s1.poke false (hearthKey d w.page (off % 2 ^ 15)) a.n data mask, .ack a)

/-- A plain access to state at its hearth slice, its traps in the order of R104. -/
def State.stateAccess (s : State) (a : Access) (sid off : Nat) : Option (State × Flight) :=
  match s.stream? a sid with
  | none => some (s, a.traps .stateDead 0)
  | some e =>
    if !e.readable then some (s, a.traps .stateDead 0)
    else if off % a.n ≠ 0 then some (s, a.traps .memAlign 0)
    else
      match a.op with
      | .store data mask _ => s.stateStore a sid off e data mask
      | _ => s.stateLoad a sid off e

end Sys2Proof.Machine
end

