-- ==== Sys2Proof/Machine/MaskUnit.lean ====
section
/-!
DEFINITION. Machine/MaskUnit.lean: the 18 mask instructions (13 R316 to R321) over the unit's interval and
tri-state registers, and a program run to its result.
-/

namespace Sys2Proof.Machine

/-- The clamp of R319: a bound and its saturation mark, in tile mode. -/
def clampB (tile : Bool) (v : Int) (mark : Bool) : Int × Bool :=
  let S : Int := 2 ^ 31 - 1
  if !tile then (v, false) else if S < v then (S, true) else if v < -S then (-S, true) else (v, mark)

/-- An interval register written: each bound clamped (R319). -/
def MaskU.setX (u : MaskU) (d : BitVec 3) (lo hi : Int) (slo shi : Bool) : MaskU :=
  let a := clampB u.inp.tile lo slo
  let b := clampB u.inp.tile hi shi
  { u with x := put u.x d.toNat { lo := a.1, hi := b.1, slo := a.2, shi := b.2 }, at_ := u.at_ + 1 }

/-- An interval register; unset ones hold [0, 0] (log 1). -/
def MaskU.getX (u : MaskU) (r : BitVec 3) : Ival := lookD u.x r.toNat {}

/-- A tri-state register; unset ones hold F (log 1). -/
def MaskU.getB (u : MaskU) (r : BitVec 3) : Tri := lookD u.b r.toNat .f

/-- A tri-state register written. -/
def MaskU.setB (u : MaskU) (d : BitVec 3) (v : Tri) : MaskU := { u with b := put u.b d.toNat v, at_ := u.at_ + 1 }

/-- A load (R319). -/
def MaskU.load (u : MaskU) (d : BitVec 3) (v : Ival) : MaskU := u.setX d v.lo v.hi false false

/-- MLQ (R319). -/
def muMlq (d : BitVec 3) (u : MaskU) : MaskU := u.load d u.inp.q
/-- MLK (R319). -/
def muMlk (d : BitVec 3) (u : MaskU) : MaskU := u.load d u.inp.k
/-- MLDQ (R319). -/
def muMldq (d : BitVec 3) (u : MaskU) : MaskU := u.load d u.inp.dq
/-- MLDK (R319). -/
def muMldk (d : BitVec 3) (u : MaskU) : MaskU := u.load d u.inp.dk
/-- MLA (R319). -/
def muMla (d : BitVec 3) (u : MaskU) : MaskU := u.load d u.inp.at_
/-- MLP (R319). -/
def muMlp (d : BitVec 3) (imm : BitVec 17) (u : MaskU) : MaskU :=
  let v := u.inp.par.getD imm.toNat 0
  u.setX d v v false false
/-- MLI (R319). -/
def muMli (d : BitVec 3) (imm : BitVec 17) (u : MaskU) : MaskU := u.setX d imm.toInt imm.toInt false false
/-- MADD (R319). -/
def muMadd (x : MaskR) (u : MaskU) : MaskU :=
  let a := u.getX x.a
  let b := u.getX x.b
  u.setX x.d (a.lo + b.lo + x.imm.toInt) (a.hi + b.hi + x.imm.toInt) (a.slo || b.slo) (a.shi || b.shi)
/-- MSUB (R319). -/
def muMsub (x : MaskR) (u : MaskU) : MaskU :=
  let a := u.getX x.a
  let b := u.getX x.b
  u.setX x.d (a.lo - b.hi + x.imm.toInt) (a.hi - b.lo + x.imm.toInt) (a.slo || b.shi) (a.shi || b.slo)
/-- MMIN (R319). -/
def muMmin (x : Mask3) (u : MaskU) : MaskU :=
  let a := u.getX x.a
  let b := u.getX x.b
  u.setX x.d (min a.lo b.lo) (min a.hi b.hi) (a.slo || b.slo) (a.shi || b.shi)
/-- MMAX (R319). -/
def muMmax (x : Mask3) (u : MaskU) : MaskU :=
  let a := u.getX x.a
  let b := u.getX x.b
  u.setX x.d (max a.lo b.lo) (max a.hi b.hi) (a.slo || b.slo) (a.shi || b.shi)

/-- A comparison: M when a bound is saturated (R320). -/
def MaskU.cmp (u : MaskU) (x : Mask3) (t f : Ival → Ival → Bool) : MaskU :=
  let a := u.getX x.a
  let b := u.getX x.b
  u.setB x.d (if a.slo || a.shi || b.slo || b.shi then .m else if t a b then .t else if f a b then .f else .m)

/-- MCLT (R320). -/
def muMclt (x : Mask3) (u : MaskU) : MaskU := u.cmp x (fun a b => decide (a.hi < b.lo)) (fun a b => decide (b.hi ≤ a.lo))
/-- MCLE (R320). -/
def muMcle (x : Mask3) (u : MaskU) : MaskU := u.cmp x (fun a b => decide (a.hi ≤ b.lo)) (fun a b => decide (b.hi < a.lo))
/-- MCEQ (R320). -/
def muMceq (x : Mask3) (u : MaskU) : MaskU :=
  u.cmp x (fun a b => a.lo == a.hi && b.lo == b.hi && a.lo == b.lo) (fun a b => decide (a.hi < b.lo) || decide (b.hi < a.lo))
/-- MBAND (R320). -/
def muMband (x : Mask3) (u : MaskU) : MaskU :=
  u.setB x.d (match u.getB x.a, u.getB x.b with
    | .t, .t => .t
    | .f, _ => .f
    | _, .f => .f
    | _, _ => .m)
/-- MBOR (R320). -/
def muMbor (x : Mask3) (u : MaskU) : MaskU :=
  u.setB x.d (match u.getB x.a, u.getB x.b with
    | .f, .f => .f
    | .t, _ => .t
    | _, .t => .t
    | _, _ => .m)
/-- MBNOT (R320). -/
def muMbnot (d a : BitVec 3) (u : MaskU) : MaskU :=
  u.setB d (match u.getB a with | .t => .f | .f => .t | .m => .m)
/-- MVIS: the register is the result, and the program ends (R321). -/
def muMvis (a : BitVec 3) (u : MaskU) : MaskU := { u with res := some (u.getB a), at_ := u.prog.length }

/-- The unit of the crucible whose word executes, changed. -/
def State.mu (s : State) (f : MaskU → MaskU) : Out := .next (s.mapCruc s.cur.cb (fun k => { k with mu := f k.mu }))

/-- MLQ: the positions of the rows (R319). -/
def execMlq (d : BitVec 3) (s : State) : Out := s.mu (muMlq d)
/-- MLK: the positions of the slots (R319). -/
def execMlk (d : BitVec 3) (s : State) : Out := s.mu (muMlk d)
/-- MLDQ: the document ids of the rows (R319). -/
def execMldq (d : BitVec 3) (s : State) : Out := s.mu (muMldq d)
/-- MLDK: the document ids of the slots (R319). -/
def execMldk (d : BitVec 3) (s : State) : Out := s.mu (muMldk d)
/-- MLA: the attributes of the slots (R319). -/
def execMla (d : BitVec 3) (s : State) : Out := s.mu (muMla d)
/-- MLP: a parameter of the query (R319). -/
def execMlp (d : BitVec 3) (imm : BitVec 17) (s : State) : Out := s.mu (muMlp d imm)
/-- MLI: the immediate (R319). -/
def execMli (d : BitVec 3) (imm : BitVec 17) (s : State) : Out := s.mu (muMli d imm)
/-- MADD (R319). -/
def execMadd (x : MaskR) (s : State) : Out := s.mu (muMadd x)
/-- MSUB (R319). -/
def execMsub (x : MaskR) (s : State) : Out := s.mu (muMsub x)
/-- MMIN (R319). -/
def execMmin (x : Mask3) (s : State) : Out := s.mu (muMmin x)
/-- MMAX (R319). -/
def execMmax (x : Mask3) (s : State) : Out := s.mu (muMmax x)
/-- MCLT (R320). -/
def execMclt (x : Mask3) (s : State) : Out := s.mu (muMclt x)
/-- MCLE (R320). -/
def execMcle (x : Mask3) (s : State) : Out := s.mu (muMcle x)
/-- MCEQ (R320). -/
def execMceq (x : Mask3) (s : State) : Out := s.mu (muMceq x)
/-- MBAND (R320). -/
def execMband (x : Mask3) (s : State) : Out := s.mu (muMband x)
/-- MBOR (R320). -/
def execMbor (x : Mask3) (s : State) : Out := s.mu (muMbor x)
/-- MBNOT (R320). -/
def execMbnot (d a : BitVec 3) (s : State) : Out := s.mu (muMbnot d a)
/-- MVIS (R321). -/
def execMvis (a : BitVec 3) (s : State) : Out := s.mu (muMvis a)

/-- A mask instruction's effect on the unit; nothing for any other instruction. -/
def maskStep (i : Instr) (u : MaskU) : MaskU :=
  match i with
  | .mlq d => muMlq d u
  | .mlk d => muMlk d u
  | .mldq d => muMldq d u
  | .mldk d => muMldk d u
  | .mla d => muMla d u
  | .mlp d imm => muMlp d imm u
  | .mli d imm => muMli d imm u
  | .madd x => muMadd x u
  | .msub x => muMsub x u
  | .mmin x => muMmin x u
  | .mmax x => muMmax x u
  | .mclt x => muMclt x u
  | .mcle x => muMcle x u
  | .mceq x => muMceq x u
  | .mband x => muMband x u
  | .mbor x => muMbor x u
  | .mbnot d a => muMbnot d a u
  | .mvis a => muMvis a u
  | _ => u

/-- The registers an instruction of the unit reads, x by number and b by 8 + number (R318, R326). -/
def maskReads : Instr → List Nat
  | .madd x => [x.a.toNat, x.b.toNat]
  | .msub x => [x.a.toNat, x.b.toNat]
  | .mmin x => [x.a.toNat, x.b.toNat]
  | .mmax x => [x.a.toNat, x.b.toNat]
  | .mclt x => [x.a.toNat, x.b.toNat]
  | .mcle x => [x.a.toNat, x.b.toNat]
  | .mceq x => [x.a.toNat, x.b.toNat]
  | .mband x => [8 + x.a.toNat, 8 + x.b.toNat]
  | .mbor x => [8 + x.a.toNat, 8 + x.b.toNat]
  | .mbnot _ a => [8 + a.toNat]
  | .mvis a => [8 + a.toNat]
  | _ => []

/-- The register an instruction of the unit writes. -/
def maskWrites : Instr → Option Nat
  | .mlq d => some d.toNat
  | .mlk d => some d.toNat
  | .mldq d => some d.toNat
  | .mldk d => some d.toNat
  | .mla d => some d.toNat
  | .mlp d _ => some d.toNat
  | .mli d _ => some d.toNat
  | .madd x => some x.d.toNat
  | .msub x => some x.d.toNat
  | .mmin x => some x.d.toNat
  | .mmax x => some x.d.toNat
  | .mclt x => some (8 + x.d.toNat)
  | .mcle x => some (8 + x.d.toNat)
  | .mceq x => some (8 + x.d.toNat)
  | .mband x => some (8 + x.d.toNat)
  | .mbor x => some (8 + x.d.toNat)
  | .mbnot d _ => some (8 + d.toNat)
  | _ => none

/-- Whether an instruction is MVIS. -/
def isMvis : Instr → Bool
  | .mvis _ => true
  | _ => false

/-- A program run on its inputs to its result (R316, R321). -/
def runMask (prog : List (BitVec 32)) (inp : MaskIn) : MaskU :=
  prog.foldl (fun u w => match decodeMask w with | .ok i => maskStep i u | .error _ => u) { prog := prog, inp := inp }

/-- The statuses of R326 for a program's words. -/
inductive MaskErr
  | op | reg | unset | novis
deriving DecidableEq, Repr

/-- The checks of orders 5 to 7 of R326, word by word, with the registers written so far. -/
def maskWords : List (BitVec 32) → Nat → List Nat → Option (MaskErr × Nat)
  | [], _, _ => none
  | w :: r, k, seen =>
    match decodeMask w with
    | .error .func => some (.op, k)
    | .error _ => some (.reg, k)
    | .ok i =>
      if (maskReads i).all seen.contains then
        maskWords r (k + 1) (match maskWrites i with | some d => d :: seen | none => seen)
      else some (.unset, k)

/-- The place of the first MVIS. -/
def firstVis (l : List (BitVec 32)) : Option Nat :=
  l.findIdx? (fun w => match decodeMask w with | .ok i => isMvis i | .error _ => false)

/-- The checks of orders 5 to 8 of R326. -/
def maskCheck (l : List (BitVec 32)) : Option (MaskErr × Nat) :=
  match maskWords l 0 [] with
  | some e => some e
  | none =>
    match firstVis l with
    | none => some (.novis, l.length)
    | some k => if k + 1 = l.length then none else some (.novis, k)

end Sys2Proof.Machine
end

