-- ==== Sys2Proof/Machine/Float.lean ====
section
/-!
DEFINITION. Machine/Float.lean: classes 0x04 and 0x05: scalar float and conversion (08 R207 to R216). The
arithmetic is Num.lean's; results and flags are written later (R189, R190).
-/

namespace Sys2Proof.Machine

/-- A float source's pattern: the low bits of the register (R207). -/
def State.opf (s : State) (ty : Ty) (r : RegSpec) : Nat := (s.rd r).toNat % 2 ^ Ty.width ty

/-- A rounded result with its flags, written later (R190). -/
def State.flt (s : State) (a : RegSpec) (r : Fl) : Out := .next (s.later a r.bits r.flags true)

/-- FADD (R208). -/
def execFadd (x : FR3) (s : State) : Out :=
  s.flt x.a (fArith .add (Ty.fmt x.ty) x.rnd x.sat (s.opf x.ty x.b) (s.opf x.ty x.c) 0)
/-- FSUB (R208). -/
def execFsub (x : FR3) (s : State) : Out :=
  s.flt x.a (fArith .sub (Ty.fmt x.ty) x.rnd x.sat (s.opf x.ty x.b) (s.opf x.ty x.c) 0)
/-- FMUL (R208). -/
def execFmul (x : FR3) (s : State) : Out :=
  s.flt x.a (fArith .mul (Ty.fmt x.ty) x.rnd x.sat (s.opf x.ty x.b) (s.opf x.ty x.c) 0)
/-- FFMA (R208). -/
def execFfma (x : FR4) (s : State) : Out :=
  s.flt x.a (fArith .fma (Ty.fmt x.ty) x.rnd x.sat (s.opf x.ty x.b) (s.opf x.ty x.c) (s.opf x.ty x.d))
/-- FDIV (R208). -/
def execFdiv (x : FR3) (s : State) : Out :=
  s.flt x.a (fArith .div (Ty.fmt x.ty) x.rnd x.sat (s.opf x.ty x.b) (s.opf x.ty x.c) 0)
/-- FSQRT (R208). -/
def execFsqrt (x : FR2) (s : State) : Out :=
  s.flt x.a (fArith .sqrt (Ty.fmt x.ty) x.rnd x.sat (s.opf x.ty x.b) 0 0)
/-- FMIN: −0 below +0, a lone NaN loses (R210). -/
def execFmin (x : T3) (s : State) : Out :=
  .next (s.later x.a (fMinMax (Ty.fmt x.ty) false (s.opf x.ty x.b) (s.opf x.ty x.c)) 0 true)
/-- FMAX (R210). -/
def execFmax (x : T3) (s : State) : Out :=
  .next (s.later x.a (fMinMax (Ty.fmt x.ty) true (s.opf x.ty x.b) (s.opf x.ty x.c)) 0 true)
/-- FCMP (R211). -/
def execFcmp (x : CmpR) (s : State) : Out :=
  .next (s.later x.a (if fCond x.cond (decodeF (Ty.fmt x.ty) (s.opf x.ty x.b)) (decodeF (Ty.fmt x.ty) (s.opf x.ty x.c))
                      then 1 else 0) 0 true)
/-- FCLASS (R211). -/
def execFclass (x : T2) (s : State) : Out := .next (s.later x.a (fClass (Ty.fmt x.ty) (s.opf x.ty x.b)) 0 true)
/-- FABS (R210). -/
def execFabs (x : T2) (s : State) : Out := .next (s.later x.a (fSign (Ty.fmt x.ty) false (s.opf x.ty x.b)) 0 true)
/-- FNEG (R210). -/
def execFneg (x : T2) (s : State) : Out := .next (s.later x.a (fSign (Ty.fmt x.ty) true (s.opf x.ty x.b)) 0 true)

/-- FCVT (R213). -/
def execFcvt (x : CvtR) (s : State) : Out :=
  s.flt x.a (fCvt (Ty.fmt x.dt) (Ty.fmt x.st) x.rnd x.sat (s.opf x.st x.b))
/-- FCVTI: extended by the sign of its type (R214). -/
def execFcvti (x : CvtR) (s : State) : Out :=
  let r := fCvtI x.dt (Ty.fmt x.st) x.rnd x.sat (s.opf x.st x.b)
  .next (s.later x.a (BitVec.ofInt 64 r.1).toNat (flagBits r.2.1 false false false r.2.2) true)
/-- ICVTF (R215). -/
def execIcvtf (x : CvtR) (s : State) : Out :=
  s.flt x.a (iCvtF (Ty.fmt x.dt) x.st x.rnd x.sat (s.opn x.st x.b))
/-- FRND (R216). -/
def execFrnd (x : FrndR) (s : State) : Out := .next (s.later x.a (fRnd (Ty.fmt x.ty) x.rnd (s.opf x.ty x.b)) 0 true)

/-- RESULT_WRITEBACK: a result reaches its register, unless it would trap before an earlier float result
of its task (R189, R195). -/
def execResultWriteback (k : Nat) (s : State) : Out :=
  match s.flight k with
  | some ⟨n, _, .result w⟩ =>
    let st := (s.bank w.cell w.hi).st
    let earlier := s.fly.any (fun f => decide (f.n < n) && floatOf w.act f.f)
    if (arithCause st w.flags).isSome && earlier then .next s
    else .next ((s.land k).writeback w)
  | _ => .next s

end Sys2Proof.Machine
end

