-- ==== Sys2Proof/Machine/Vector.lean ====
section
/-!
DEFINITION. Machine/Vector.lean: classes 0x10, 0x11, 0x12, 0x13 and 0x15: vector integer, float, compare
and permute, reduction and mask instructions (10 R236 to R259).
-/

namespace Sys2Proof.Machine

/-! ### Shared forms -/

/-- A lane result merged into the destination under the mask, written later (R238, R240). -/
def State.vec (s : State) (ty : Ty) (a : RegSpec) (msk : BitVec 3) (f : Nat → Nat) : Out :=
  .next (s.later a (merge s.b msk a (Ty.width ty) f).toNat 0 false)

/-- A lane result written to every lane (R251). -/
def State.vecAll (s : State) (ty : Ty) (a : RegSpec) (f : Nat → Nat) : Out :=
  .next (s.later a (ofLanes (Ty.width ty) ((List.range (lanes (Ty.width ty))).map f)).toNat 0 false)

/-- An integer lane operation on signed or unsigned readings by the type (R243). -/
def State.vint (s : State) (x : V3) (f : Int → Int → Int) : Out :=
  s.vec x.ty x.a x.msk (fun i =>
    wrapN (f (Ty.readInt x.ty (s.vs x.b (Ty.width x.ty) i)) (Ty.readInt x.ty (s.vs x.c (Ty.width x.ty) i))) (Ty.width x.ty))

/-- An integer lane operation on unsigned readings (R243). -/
def State.vnat (s : State) (x : V3) (f : Nat → Nat → Nat) : Out :=
  s.vec x.ty x.a x.msk (fun i => f (s.vs x.b (Ty.width x.ty) i) (s.vs x.c (Ty.width x.ty) i))

/-- `sat_i` or `sat_n` by the type (R243). -/
def satBy (ty : Ty) (v : Int) : Int := if Ty.signed ty then satI v (Ty.width ty) else satN v (Ty.width ty)

/-! ### Class 0x10 (R243) -/

/-- VADD (R243). -/
def execVadd (x : V3) (s : State) : Out := s.vint x (fun p q => p + q)
/-- VSUB (R243). -/
def execVsub (x : V3) (s : State) : Out := s.vint x (fun p q => p - q)
/-- VMUL (R243). -/
def execVmul (x : V3) (s : State) : Out := s.vint x (fun p q => p * q)
/-- VMULH (R243). -/
def execVmulh (x : V3) (s : State) : Out :=
  s.vint x (fun p q => Int.fdiv (p * q) ((2 ^ Ty.width x.ty : Nat) : Int))
/-- VMIN (R243). -/
def execVmin (x : V3) (s : State) : Out := s.vint x (fun p q => min p q)
/-- VMAX (R243). -/
def execVmax (x : V3) (s : State) : Out := s.vint x (fun p q => max p q)
/-- VABS, saturated with SAT (R243). -/
def execVabs (x : VabsR) (s : State) : Out :=
  s.vec x.ty x.a x.msk (fun i =>
    let v := Ty.readInt x.ty (s.vs x.b (Ty.width x.ty) i)
    wrapN (if x.sat && Ty.signed x.ty then satI v.natAbs (Ty.width x.ty) else v.natAbs) (Ty.width x.ty))
/-- VSADD (R243). -/
def execVsadd (x : V3) (s : State) : Out := s.vint x (fun p q => satBy x.ty (p + q))
/-- VSSUB (R243). -/
def execVssub (x : V3) (s : State) : Out := s.vint x (fun p q => satBy x.ty (p - q))
/-- VSHL (R243). -/
def execVshl (x : V3) (s : State) : Out := s.vnat x (fun p q => p * 2 ^ (q % Ty.width x.ty))
/-- VSHR (R243). -/
def execVshr (x : V3) (s : State) : Out := s.vnat x (fun p q => p / 2 ^ (q % Ty.width x.ty))
/-- VSAR, signed whatever the type (R243). -/
def execVsar (x : V3) (s : State) : Out :=
  s.vnat x (fun p q => wrapN (Int.fdiv (sx p (Ty.width x.ty)) ((2 ^ (q % Ty.width x.ty) : Nat) : Int)) (Ty.width x.ty))
/-- VAND (R243). -/
def execVand (x : V3) (s : State) : Out := s.vnat x Nat.land
/-- VOR (R243). -/
def execVor (x : V3) (s : State) : Out := s.vnat x Nat.lor
/-- VXOR (R243). -/
def execVxor (x : V3) (s : State) : Out := s.vnat x Nat.xor
/-- VNOT (R243). -/
def execVnot (x : V2) (s : State) : Out :=
  s.vec x.ty x.a x.msk (fun i => 2 ^ Ty.width x.ty - 1 - s.vs x.b (Ty.width x.ty) i)

/-! ### Class 0x11 (R244 to R250) -/

/-- A rounding lane operation of two or three sources (R245). -/
def State.vfl (s : State) (op : FOp) (ty : Ty) (rnd : Rnd) (sat : Bool) (a b c d : RegSpec) (msk : BitVec 3) : Out :=
  let w := Ty.width ty
  s.vec ty a msk (fun i => (fArith op (Ty.fmt ty) rnd sat (s.vs b w i) (s.vs c w i) (s.vs d w i)).bits)

/-- VFADD (R245). -/
def execVfadd (x : VF3) (s : State) : Out := s.vfl .add x.ty x.rnd x.sat x.a x.b x.c 0 x.msk
/-- VFSUB (R245). -/
def execVfsub (x : VF3) (s : State) : Out := s.vfl .sub x.ty x.rnd x.sat x.a x.b x.c 0 x.msk
/-- VFMUL (R245). -/
def execVfmul (x : VF3) (s : State) : Out := s.vfl .mul x.ty x.rnd x.sat x.a x.b x.c 0 x.msk
/-- VFMA (R245). -/
def execVfma (x : VF4) (s : State) : Out := s.vfl .fma x.ty x.rnd x.sat x.a x.b x.c x.d x.msk
/-- VFMIN (R245). -/
def execVfmin (x : V3) (s : State) : Out := s.vnat x (fMinMax (Ty.fmt x.ty) false)
/-- VFMAX (R245). -/
def execVfmax (x : V3) (s : State) : Out := s.vnat x (fMinMax (Ty.fmt x.ty) true)
/-- VFABS (R245). -/
def execVfabs (x : V2) (s : State) : Out :=
  s.vec x.ty x.a x.msk (fun i => fSign (Ty.fmt x.ty) false (s.vs x.b (Ty.width x.ty) i))
/-- VFNEG (R245). -/
def execVfneg (x : V2) (s : State) : Out :=
  s.vec x.ty x.a x.msk (fun i => fSign (Ty.fmt x.ty) true (s.vs x.b (Ty.width x.ty) i))

/-- One converted element (R248). -/
def convElem (dt st : Ty) (rnd : Rnd) (sat : Bool) (v : Nat) : Nat :=
  if Ty.isF6 st then
    if Ty.isF6 dt then (fCvt (Ty.fmt dt) (Ty.fmt st) rnd sat v).bits
    else wrapN (fCvtI dt (Ty.fmt st) rnd sat v).1 (Ty.width dt)
  else (iCvtF (Ty.fmt dt) st rnd sat v).bits

/-- VFCVT (R248 to R250). -/
def execVfcvt (x : VfcvtR) (s : State) : Out :=
  let wd := Ty.width x.dt
  let ws := Ty.width x.st
  let n := 512 / max wd ws
  let p := x.part.toNat % (max wd ws / min wd ws)
  let conv (i : Nat) : Nat := convElem x.dt x.st x.rnd x.sat (s.vs x.b ws i)
  let old := readVec s.b x.a
  let out (i : Nat) : Nat :=
    if wd < ws then
      (if p * n ≤ i ∧ i < p * n + n ∧ active s.b x.msk (i - p * n) then conv (i - p * n) else lane old wd i)
    else if active s.b x.msk i then conv (if ws < wd then p * n + i else i) else lane old wd i
  .next (s.later x.a (ofLanes wd ((List.range (lanes wd)).map out)).toNat 0 false)

/-- `1 / sqrt(a)` from the exact value, with a sticky remainder (R246). -/
def Num.rsqrt (a : Num) : Num :=
  match a with
  | .nan => .nan
  | .inf n => if n then .nan else .zero false
  | .fin n m e _ =>
    if m = 0 then .inf n
    else if n then .nan
    else
      let m2 := if e % 2 = 0 then m else 2 * m
      let e2 := if e % 2 = 0 then e else e - 1
      let k : Nat := 128 + Nat.log2 m2
      let r := isqrt (2 ^ (2 * k) / m2)
      .fin false r (-(e2 / 2) - k) (r * r * m2 != 2 ^ (2 * k))

/-- VRCP (R246). -/
def execVrcp (x : VF2) (s : State) : Out :=
  s.vec x.ty x.a x.msk (fun i =>
    (roundF (Ty.fmt x.ty) x.rnd x.sat (Num.div (Num.ofInt 1) (decodeF (Ty.fmt x.ty) (s.vs x.b (Ty.width x.ty) i))).1).bits)
/-- VRSQ (R246). -/
def execVrsq (x : VF2) (s : State) : Out :=
  s.vec x.ty x.a x.msk (fun i =>
    (roundF (Ty.fmt x.ty) x.rnd x.sat (Num.rsqrt (decodeF (Ty.fmt x.ty) (s.vs x.b (Ty.width x.ty) i)))).bits)

/-- An FP32 pattern with an infinity saturated (R222, R247). -/
def satInf (F : Fmt) (sat : Bool) (v : Nat) : Nat :=
  match decodeF F v with
  | .inf n => if sat then maxBits F n else v
  | _ => v

/-- VEXP (R247). -/
def execVexp (x : VabsR) (s : State) : Out :=
  s.vec x.ty x.a x.msk (fun i => satInf fmt32 x.sat (expTab (s.vs x.b 32 i)))
/-- VLOG2 (R247). -/
def execVlog2 (x : VabsR) (s : State) : Out :=
  s.vec x.ty x.a x.msk (fun i => satInf fmt32 x.sat (log2Tab (s.vs x.b 32 i)))

/-! ### Class 0x12 (R251 to R253) -/

/-- A mask result merged on the bits of its destination (R237, R251). -/
def State.vmask (s : State) (ty : Ty) (a : RegSpec) (msk : BitVec 3) (f : Nat → Bool) : Out :=
  let n := lanes (Ty.width ty)
  .next (s.later a (ofBits n (fun i => if active s.b msk i then f i else bit (maskBits s.b a n) i)) 0 false)

/-- VCMP (R251). -/
def execVcmp (x : VcmpR) (s : State) : Out :=
  let w := Ty.width x.ty
  s.vmask x.ty x.a x.msk (fun i =>
    let p := s.vs x.b w i
    let q := s.vs x.c w i
    iCond x.cond (sx p w) (sx q w) p q)
/-- VFCMP (R251). -/
def execVfcmp (x : VcmpR) (s : State) : Out :=
  let w := Ty.width x.ty
  s.vmask x.ty x.a x.msk (fun i =>
    fCond x.cond (decodeF (Ty.fmt x.ty) (s.vs x.b w i)) (decodeF (Ty.fmt x.ty) (s.vs x.c w i)))
/-- VSEL: the mask selects (R251). -/
def execVsel (x : V3) (s : State) : Out :=
  s.vecAll x.ty x.a (fun i => if active s.b x.msk i then s.vs x.b (Ty.width x.ty) i else s.vs x.c (Ty.width x.ty) i)
/-- VPERM (R251). -/
def execVperm (x : V3) (s : State) : Out :=
  s.vnat { x with b := 0 } (fun _ j => if lanes (Ty.width x.ty) ≤ j then 0 else s.vs x.b (Ty.width x.ty) j)
/-- VBCAST (R251). -/
def execVbcast (x : VbcastR) (s : State) : Out :=
  let w := Ty.width x.ty
  s.vec x.ty x.a x.msk (fun _ => if lanes w ≤ x.lane.toNat && rbank x.b == 1 then 0 else s.vs x.b w x.lane.toNat)
/-- VEXTR (R251). -/
def execVextr (x : T3) (s : State) : Out :=
  let j := (s.rd x.c).toNat
  let v := if lanes (Ty.width x.ty) ≤ j then 0 else s.vs x.b (Ty.width x.ty) j
  .next (s.later x.a (extLane x.ty v).toNat 0 false)
where
  /-- The value extended by the signed codes 0, 1, 3 and 5 (R251). -/
  extLane (ty : Ty) (v : Nat) : Word := if Ty.signed ty then BitVec.ofInt 64 (sx v (Ty.width ty)) else BitVec.ofNat 64 v
/-- VINS (R251). -/
def execVins (x : T3) (s : State) : Out :=
  let w := Ty.width x.ty
  let j := (s.rd x.c).toNat
  let old := readVec s.b x.a
  s.vecAll x.ty x.a (fun i => if i = j then (s.rd x.b).toNat % 2 ^ w else lane old w i)
/-- VSLIDE (R252). -/
def execVslide (x : VslideR) (s : State) : Out :=
  let w := Ty.width x.ty
  let n := lanes w
  let k := (s.rd x.c).toNat
  let src (j : Nat) : Nat := if j < n then s.vs x.b w j else if j < 2 * n then s.vs x.d w (j - n) else 0
  s.vec x.ty x.a x.msk (fun i =>
    if x.up then
      (if k ≤ i then s.vs x.b w (i - k) else if k ≤ n + i then s.vs x.d w (n + i - k) else 0)
    else src (i + k))
/-- VCOMP (R253). -/
def execVcomp (x : V2) (s : State) : Out :=
  let w := Ty.width x.ty
  let l := ((List.range (lanes w)).filter (active s.b x.msk)).map (s.vs x.b w)
  s.vecAll x.ty x.a (fun i => l.getD i 0)
/-- VIOTA (R251). -/
def execViota (x : ViotaR) (s : State) : Out :=
  s.vecAll x.ty x.a (fun i => ((List.range i).filter (active s.b x.msk)).length % 2 ^ Ty.width x.ty)

/-! ### Class 0x13 (R254 to R258) -/

/-- An integer reduction step, by type (R255). -/
def redInt (op : RedOp) (ty : Ty) (x y : Nat) : Nat :=
  let p := Ty.readInt ty x
  let q := Ty.readInt ty y
  match op with
  | .add => (x + y) % 2 ^ Ty.width ty
  | .min => if p ≤ q then x else y
  | .max => if p ≤ q then y else x
  | .and => Nat.land x y
  | .or => Nat.lor x y
  | .xor => Nat.xor x y

/-- The identity of an integer reduction (R255). -/
def redId (op : RedOp) (ty : Ty) : Nat :=
  match op with
  | .add | .or | .xor => 0
  | .and => 2 ^ Ty.width ty - 1
  | .min => wrapN (Ty.maxInt ty) (Ty.width ty)
  | .max => wrapN (Ty.minInt ty) (Ty.width ty)

/-- The active lanes of a source below a bound, in lane order (R254). -/
def State.lanesOn (s : State) (b : RegSpec) (w : Nat) (msk : BitVec 3) (n : Nat) : List Nat :=
  ((List.range n).filter (active s.b msk)).map (s.vs b w)

/-- VRED (R255). -/
def execVred (x : VredR) (s : State) : Out :=
  let w := Ty.width x.ty
  let v := (s.lanesOn x.b w x.msk (lanes w)).foldl (redInt x.op x.ty) (redId x.op x.ty)
  .next (s.later x.a (if Ty.signed x.ty then (BitVec.ofInt 64 (sx v w)).toNat else v) 0 false)

/-- VSCAN (R255). -/
def execVscan (x : VscanR) (s : State) : Out :=
  let w := Ty.width x.ty
  s.vec x.ty x.a x.msk (fun i =>
    (s.lanesOn x.b w x.msk (if x.ex then i else i + 1)).foldl (redInt x.op x.ty) (redId x.op x.ty))

/-- A float reduction step (R256). -/
def redFl (op : RedOp) (F : Fmt) (rnd : Rnd) (x y : Nat) : Nat :=
  match op with
  | .min => fMinMax F false x y
  | .max => fMinMax F true x y
  | _ => (fArith .add F rnd false x y 0).bits

/-- The value of an empty float reduction (R256). -/
def redFlId (op : RedOp) (F : Fmt) : Nat :=
  match op with
  | .min => infBits F false
  | .max => infBits F true
  | _ => 0

/-- One level of the pairwise tree: an empty place takes its partner (R256). -/
def treeLevel (f : Nat → Nat → Nat) : List (Option Nat) → List (Option Nat)
  | a :: b :: r =>
    (match a, b with
     | some x, some y => some (f x y)
     | some x, none => some x
     | none, y => y) :: treeLevel f r
  | l => l

/-- The fixed pairwise tree of R256, `k` levels. -/
def tree (f : Nat → Nat → Nat) : Nat → List (Option Nat) → Option Nat
  | 0, l => l.headD none
  | k + 1, l => tree f k (treeLevel f l)

/-- A result made canonical and saturated (R256). -/
def canonFl (F : Fmt) (sat : Bool) (v : Nat) : Nat := if (decodeF F v).isNan then qnan F else satInf F sat v

/-- VFRED (R256). -/
def execVfred (x : VfredR) (s : State) : Out :=
  let w := Ty.width x.ty
  let F := Ty.fmt x.ty
  let l := (List.range (lanes w)).map (fun i => if active s.b x.msk i then some (s.vs x.b w i) else none)
  let v := (tree (redFl x.op F x.rnd) (Nat.log2 (lanes w)) l).getD (redFlId x.op F)
  .next (s.later x.a (canonFl F x.sat v) 0 false)

/-- The running values of R257: before and after each lane. -/
def scanFl (f : Nat → Nat → Nat) (on : Nat → Bool) (v : Nat → Nat) : Nat → Option Nat
  | 0 => none
  | i + 1 =>
    if on i then some (match scanFl f on v i with | none => v i | some a => f a (v i)) else scanFl f on v i

/-- VFSCAN (R257). -/
def execVfscan (x : VfscanR) (s : State) : Out :=
  let w := Ty.width x.ty
  let F := Ty.fmt x.ty
  s.vec x.ty x.a x.msk (fun i =>
    canonFl F x.sat ((scanFl (redFl x.op F x.rnd) (active s.b x.msk) (s.vs x.b w) (if x.ex then i else i + 1)).getD (redFlId x.op F)))

/-- Whether a lane value is larger than another, by type (R258). -/
def laneGt (ty : Ty) (x y : Nat) : Bool :=
  if Ty.isF6 ty then fCond .gt (decodeF (Ty.fmt ty) x) (decodeF (Ty.fmt ty) y)
  else decide (Ty.readInt ty y < Ty.readInt ty x)

/-- VARGMAX (R258). -/
def execVargmax (x : V3) (s : State) : Out :=
  let w := Ty.width x.ty
  let ok (i : Nat) : Bool := active s.b x.msk i && !(Ty.isF6 x.ty && (decodeF (Ty.fmt x.ty) (s.vs x.b w i)).isNan)
  let best := ((List.range (lanes w)).filter ok).foldl (fun (a : Option Nat) i =>
    match a with
    | none => some i
    | some j => if laneGt x.ty (s.vs x.b w i) (s.vs x.b w j) then some i else some j) none
  .next (s.later x.a (match best with
    | none => 2 ^ 64 - 1
    | some i => (s.rd x.c + BitVec.ofNat 64 i).toNat) 0 false)

/-! ### Class 0x15 (R259) -/

/-- The low bits of a mask operand by the lane count of the type (R237). -/
def State.mkBits (s : State) (ty : Ty) (r : RegSpec) : Nat := maskBits s.b r (lanes (Ty.width ty))

/-- A value written to a register at once (R242). -/
def State.mres (s : State) (a : RegSpec) (v : Nat) : Out := .next (s.finish a (BitVec.ofNat 64 v))

/-- MAND (R259). -/
def execMand (x : T3) (s : State) : Out := s.mres x.a (Nat.land (s.mkBits x.ty x.b) (s.mkBits x.ty x.c))
/-- MOR (R259). -/
def execMor (x : T3) (s : State) : Out := s.mres x.a (Nat.lor (s.mkBits x.ty x.b) (s.mkBits x.ty x.c))
/-- MXOR (R259). -/
def execMxor (x : T3) (s : State) : Out := s.mres x.a (Nat.xor (s.mkBits x.ty x.b) (s.mkBits x.ty x.c))
/-- MNOT (R259). -/
def execMnot (x : T2) (s : State) : Out := s.mres x.a (2 ^ lanes (Ty.width x.ty) - 1 - s.mkBits x.ty x.b)
/-- MPOPC (R259). -/
def execMpopc (x : T2) (s : State) : Out := s.mres x.a (popCount (lanes (Ty.width x.ty)) (s.mkBits x.ty x.b))
/-- MFIRST (R259). -/
def execMfirst (x : T2) (s : State) : Out := s.mres x.a (ctz (lanes (Ty.width x.ty)) (s.mkBits x.ty x.b))
/-- MSET (R259). -/
def execMset (x : T2) (s : State) : Out := s.mres x.a ((s.rd x.b).toNat % 2 ^ lanes (Ty.width x.ty))
/-- MGET (R259). -/
def execMget (x : T2) (s : State) : Out := s.mres x.a (s.mkBits x.ty x.b)

end Sys2Proof.Machine
end

