-- ==== Sys2Proof/Machine/Crucible.lean ====
section
/-!
DEFINITION. Machine/Crucible.lean: attention and the key-value cache (12 R295 to R315, R485, 13 R322 to R328):
pages and their exponents, the commands of class 0x1A at the crucible, queries tile by tile, and the
paging of KV data.
-/

namespace Sys2Proof.Machine

/-! ### Issue (R305) -/

/-- The handles that a command names, by which one cell's commands keep their order (R152). -/
def Cmd.handles (k : Cmd) : List Nat :=
  match k.op with
  | .atq => [fld k.arg 223 192]
  | .atapp => [fld k.arg 255 224]
  | .atseq 0 => []
  | .atseq 2 => [fld k.arg 255 224, fld k.arg 223 192]
  | .atseq _ => [fld k.arg 255 224]
  | .atcnt => if k.cnt < 8 then [fld k.arg 31 0] else []
  | _ => []

/-- A crucible command with a descriptor, captured at issue (R118, R304, R305). -/
def State.issueAt (s : State) (op : CmdOp) (g : BitVec 4) (a b : RegSpec) (det : Bool) (ring : Option Ring) : State :=
  if s.holder then s.trap .asetIrrev 0 0
  else
    match s.descr (s.rd b) 64 64 with
    | .error t => t
    | .ok d => s.enqueue { s.cmd op g a det .die d with ringD := ring }

/-- ATQ (R306, R307). -/
def execAtq (x : AtqR) (s : State) : Out := .next (s.issueAt .atq x.g x.a x.b x.det (handleOf s.b x.d))
/-- ATAPP (R309). -/
def execAtapp (x : EngR) (s : State) : Out := .next (s.issueAt .atapp x.g x.a x.b x.det none)
/-- ATSEQ create (R310). -/
def execAtseqCreate (x : EngR) (s : State) : Out := .next (s.issueAt (.atseq 0) x.g x.a x.b x.det none)
/-- ATSEQ fork (R310). -/
def execAtseqFork (x : EngR) (s : State) : Out := .next (s.issueAt (.atseq 1) x.g x.a x.b x.det none)
/-- ATSEQ commit (R310). -/
def execAtseqCommit (x : EngR) (s : State) : Out := .next (s.issueAt (.atseq 2) x.g x.a x.b x.det none)
/-- ATSEQ trim (R310). -/
def execAtseqTrim (x : EngR) (s : State) : Out := .next (s.issueAt (.atseq 3) x.g x.a x.b x.det none)
/-- ATSEQ free (R310). -/
def execAtseqFree (x : EngR) (s : State) : Out := .next (s.issueAt (.atseq 4) x.g x.a x.b x.det none)
/-- ATSEQ report (R310, R311). -/
def execAtseqReport (x : EngR) (s : State) : Out := .next (s.issueAt (.atseq 5) x.g x.a x.b x.det none)
/-- ATMSK: the load word is captured (R313). -/
def execAtmsk (x : EngR) (s : State) : Out :=
  .next (s.irrev 0 (s.enqueue (s.cmd .atmsk x.g x.a x.det .die (s.rd x.b).toNat)))
/-- ATCNT (R314). -/
def execAtcnt (x : AtcntR) (s : State) : Out :=
  .next (s.irrev 0 (s.enqueue { s.cmd .atcnt x.g x.a x.det .die (s.rd x.b).toNat with cnt := x.sel.toNat }))

/-- The head of a cell's crucible queue: discarded by its guard, or sent to its crucible once its issue
release is complete, an ATQ taking a query slot (R287, R304, R383). -/
def State.crucHead (s : State) (c : Nat) : State :=
  match (s.cell c).cruc with
  | [] => s
  | k :: _ =>
    match s.verdict k with
    | none => s
    | some false => (s.unqueue k).complete k 3 0
    | some true =>
      if !s.released k then s
      else
        match (if k.op = .atq then s.slot k.gid (dieOf c) .cq else some s) with
        | none => s
        | some t => (t.unqueue k).send c (.cruc k)

/-! ### At the crucible: order, answers (R152, R304, R312) -/

/-- The command that a flight carries to a crucible. -/
def Flight.crucCmd? : Flight → Option Cmd
  | .cruc k => some k
  | .accept k => some k
  | _ => none

/-- Whether a command must wait until an append that has started on a sequence that it names has ended: another
append's start, a fork, a commit, a trim (R309, log 19). -/
def Cmd.waitsApp (k : Cmd) : Bool :=
  match k.op with
  | .atapp => !k.started
  | .atseq op => op == 1 || op == 2 || op == 3
  | _ => false

/-- Whether an older command of the same cell on a sequence that a command names is still on its way, or an append holds
the command up. A command after a query waits for its acceptance and not for its fetches (R152, R304, R309, log 96). -/
def State.crucBlocked (s : State) (n : Nat) (k : Cmd) : Bool :=
  let meets (j : Cmd) : Bool := j.cell == k.cell && j.handles.any k.handles.contains
  s.fly.any (fun f => decide (f.n < n) && f.f.crucCmd?.any meets) || (k.waitsApp && k.handles.any (s.appending n))

/-- The ASID of a command's grid. -/
def State.cmdAsid (s : State) (k : Cmd) : Nat := asidOf (s.lr k.gid)

/-- A range of the issuing cell's scratchpad lies wholly below 256 KiB. -/
def inPad (off n : Nat) : Bool := decide (off + n ≤ 2 ^ 18)

/-- A command completes with bytes for its cell's scratchpad, which are written before its token (R307, R310). -/
def State.completeOut (s : State) (k : Cmd) (off n data val : Nat) : State :=
  s.send k.cell (.token { cmd := k, status := 0, val := val % 2 ^ 48, out := some (off, n, data) })

/-- A counter of a sequence, and of its ASID, advanced (R315). -/
def Crucible.count (x : Crucible) (asid h sel n : Nat) : Crucible :=
  let a := lookD x.asids asid {}
  let y := { x with asids := put x.asids asid { a with ctr := bump a.ctr sel n } }
  match (look y.seqs (hEntry h)).filter (fun q => q.asid == asid && y.gen (hEntry h) == fld h 31 18) with
  | some q => { y with seqs := put y.seqs (hEntry h) { q with ctr := bump q.ctr sel n } }
  | none => y

/-! ### KV pages (R297 to R301) -/

/-- SRAM frames of a crucible (R299). -/
def kvFrames : Nat := 65536
/-- Physical KV pages of a crucible (R299). -/
def kvPages : Nat := 65536 + 15728640

/-- A page's header and tags. -/
def Crucible.page (x : Crucible) (p : Nat) : KvPage := lookD x.kv p {}
/-- Logical index of a position's page (R297). -/
def kvIndex (q : Seq) (layer kvh pos : Nat) : Nat := (layer * q.nkvh + kvh) * 16384 + pos / 64

/-- Pages pinned by queries, those whose results are held among them (R299, R307). -/
def Crucible.pins (x : Crucible) : List Nat := (x.queries ++ x.held).flatMap (·.pinned)

/-- Whether a page is in use: named by a map, or pinned. -/
def Crucible.used (x : Crucible) (p : Nat) : Bool := x.pool.count p != 0 || x.pins.contains p

/-- Frames of a crucible that hold no page. -/
def Crucible.freeFrames (x : Crucible) : Nat :=
  kvFrames - (x.kv.filter (fun e => e.2.sram && x.used e.1)).length

/-- A page made the most recent. -/
def Crucible.touch (x : Crucible) (p : Nat) : Crucible := { x with recent := p :: x.recent.filter (· != p) }

/-- The record of an ASID changed. -/
def Crucible.mapAsid (x : Crucible) (a : Nat) (f : AsidEnt → AsidEnt) : Crucible :=
  { x with asids := put x.asids a (f (lookD x.asids a {})) }

/-- Page slots of a crucible's stacks (R299). -/
def kvSlots : Nat := 15728640

/-- Whether a page slot of the stacks is free (R299). -/
def Crucible.slotFree (x : Crucible) : Bool := decide ((x.kv.filter (fun e => !e.2.sram && x.used e.1)).length < kvSlots)

/-- KV_SPILL: the least recently used unpinned page goes to HBM4E while fewer than 256 frames are free and a page slot
is (R299, R315). -/
def execKvSpill (cb page : Nat) (s : State) : Out :=
  let x := s.cruc cb
  let pins := x.pins
  let lru := (x.recent.reverse.filter (fun p => x.used p && (x.page p).sram && !pins.contains p)).head?
  if lru = some page ∧ x.freeFrames < 256 ∧ x.slotFree then
    .next (s.mapCruc cb (fun x => ({ x with kv := put x.kv page { x.page page with sram := false },
                                            recent := x.recent.filter (· != page) } : Crucible).mapAsid (x.page page).asid
      (fun a => { a with spill := a.spill + 1 })))
  else .next s

/-! ### Exponents and appends (R300, R301) -/

/-- A value times a power of two. -/
def Num.scale (x : Num) (e : Int) : Num :=
  match x with
  | .fin n m f st => .fin n m (f + e) st
  | y => y

/-- A magnitude. -/
def Num.abs (x : Num) : Num := if x.neg then x.negate else x

/-- Whether a magnitude is at most `448 × 2^e`. -/
def fits448 (x : Num) (e : Int) : Bool :=
  match Num.cmp x (.fin false 448 e false) with
  | some .gt => false
  | _ => true

/-- amax of a row: the largest magnitude among its finite elements. -/
def amax (row : List Num) : Num :=
  (row.filter Num.isFinite).foldl (fun a x => match Num.cmp a x.abs with | some .lt => x.abs | _ => a) (Num.zero false)

/-- `exp_for`. -/
def expFor (a : Num) (h : Nat) : Int :=
  match (List.range 256).find? (fun (i : Nat) => fits448 a ((i : Int) - 128 - h)) with
  | some i => (i : Int) - 128
  | none => 127

/-- `store`: an element of a row under an exponent; infinities and NaNs are 0x7F. -/
def kvStore (x : Num) (e : Int) : Nat :=
  if x.isFinite then rne fmtE4m3 (x.scale (-e)) else 0x7F

/-- One half of an append: the page's stored elements of the half, its exponent and fill, and the row; the
elements with the new row after them, the exponent, and whether it was raised. -/
def appendHalf (old : List Nat) (e : Int) (fill h : Nat) (row : List Num) : List Nat × Int × Bool :=
  let a := amax row
  if fill = 0 then
    let e1 := expFor a h
    (row.map (fun x => kvStore x e1), e1, false)
  else if fits448 a e then (old ++ row.map (fun x => kvStore x e), e, false)
  else
    let e1 := expFor a h
    (old.map (fun y => kvStore ((decodeF fmtE4m3 y).scale e) e1) ++ row.map (fun x => kvStore x e1), e1, true)

/-- Bytes from a list of small numbers. -/
def packBytes (l : List Nat) : List Byte := l.map (BitVec.ofNat 8)

/-- Elements of `z` bytes from memory, decoded. -/
def readRow (m : List Host.Cell) (key n z : Nat) (F : Fmt) : List Num :=
  (List.range n).map (fun i => decodeF F (memRead m (key + i * z) z))

/-- A page's place in memory. -/
def kvHalf (cb p : Nat) (isV : Bool) : Nat := kvKey cb p (if isV then 8192 else 0)

/-- A page made ready for a write of an ASID: the copy of its data, tags and header, or an empty page (R81, R301). -/
def State.kvReady (s : State) (cb asid : Nat) (w : PageWrite) : State :=
  let s1 := s.mapCruc cb (fun x => ({ x with pool := w.pool } : Crucible).touch w.page)
  if !w.fresh then s1
  else
    let k := kvKey cb w.page 0
    match w.src with
    | some p =>
      { s1.mapCruc cb (fun x => { x with kv := put x.kv w.page { x.page p with sram := true, asid := asid } }) with
        mem := memCopy s1.mem k (kvKey cb p 0) 16384
        poison := poisonCopy s1.poison k (kvKey cb p 0) 16384 }
    | none =>
      { s1.mapCruc cb (fun x => { x with kv := put x.kv w.page { asid := asid } }) with
        mem := memClear s1.mem k 16384
        poison := poisonOff s1.poison k 16384 }

/-- One row appended to a page made ready, at its FILL; the raises made, and whether the position is not
finite (R300). -/
def State.kvAppend (s : State) (cb p h : Nat) (kr vr : List Num) (doc at_ : Int) : State × Nat × Bool :=
  let g := (s.cruc cb).page p
  let old (isV : Bool) : List Nat := (List.range (128 * g.fill)).map (fun i => (memGet s.mem (kvHalf cb p isV + i)).toNat)
  let k := appendHalf (old false) g.kexp g.fill h kr
  let v := appendHalf (old true) g.vexp g.fill h vr
  let m1 := memPut s.mem (kvHalf cb p false) (packBytes k.1)
  let m2 := memPut m1 (kvHalf cb p true) (packBytes v.1)
  let g1 : KvPage := { g with
    fill := g.fill + 1
    kexp := k.2.1
    vexp := v.2.1
    tags := put g.tags g.fill (at_, doc)
    dmin := if g.fill = 0 then doc else min g.dmin doc
    dmax := if g.fill = 0 then doc else max g.dmax doc
    amin := if g.fill = 0 then at_ else min g.amin at_
    amax := if g.fill = 0 then at_ else max g.amax at_ }
  let row (isV : Bool) (q : List Nat) : List Nat := poisonOff q (kvHalf cb p isV + 128 * g.fill) 128
  (({ s with mem := m2, poison := row true (row false s.poison) } : State).mapCruc cb (fun x => { x with kv := put x.kv p g1 }),
    (if k.2.2 then 1 else 0) + (if v.2.2 then 1 else 0), !(kr.all Num.isFinite && vr.all Num.isFinite))

/-! ### ATAPP (R309) -/

/-- Rows of an append. -/
def appRows (d : Nat) : Nat := fld d 137 132 + 1
/-- Element bytes of an append's rows. -/
def appZ (d : Nat) : Nat := if bit d 119 then 4 else 2

/-- The FILL of the page in which a position stands, in a sequence. -/
def Crucible.fillAt (x : Crucible) (q : Seq) (layer kvh pos : Nat) : Nat :=
  match x.pool.find q.map (kvIndex q layer kvh pos) with
  | some (p, _) => (x.page p).fill
  | none => 0

/-- Whether the slot of some row of an append stands above, or below, its page's FILL, the rows before it
counted (R309). -/
def Crucible.appSlots (x : Crucible) (q : Seq) (d : Nat) (above : Bool) : Bool :=
  let p0 := fld d 223 192
  (List.range (appRows d)).any (fun i =>
    let p := p0 + i
    let first := max p0 (p / 64 * 64)
    let f0 := x.fillAt q (fld d 131 124) (fld d 123 120) p
    let start := first % 64
    if above then decide (f0 < start) else decide (start < f0))

/-- The status of an append before it changes anything (R309). -/
def State.appStatus (s : State) (k : Cmd) : Nat :=
  let d := k.arg
  let n := appRows d
  let z := appZ d
  let x := s.cruc k.crucible
  if fld d 511 256 ≠ 0 ∨ fld d 118 0 ≠ 0 ∨ fld d 191 174 % 64 ≠ 0 ∨ fld d 173 156 % 64 ≠ 0 ∨ fld d 155 138 % 8 ≠ 0 ∨
      2 ^ 20 < fld d 223 192 + n then 0x60
  else if !(inPad (fld d 191 174) (128 * n * z) && inPad (fld d 173 156) (128 * n * z) && inPad (fld d 155 138) (8 * n)) then 0x6C
  else
    match s.seq? (s.cmdAsid k) (fld d 255 224) with
    | none => 0x61
    | some q =>
      if fld d 223 192 < q.floor ∨ q.nl ≤ fld d 131 124 ∨ q.nkvh ≤ fld d 123 120 then 0x6C
      else if x.pool.frozen q.map then 0x62
      else if x.appSlots q d true then 0x66
      else if x.appSlots q d false then 0x67
      else if s.bad (padKey k.cell (fld d 191 174)) (128 * n * z) || s.bad (padKey k.cell (fld d 173 156)) (128 * n * z) ||
          s.bad (padKey k.cell (fld d 155 138)) (8 * n) then 0x6F
      else 0

/-- The token value of an append: raises made and rows appended. -/
def appVal (raises rows : Nat) : Nat := raises % 2 ^ 16 * 2 ^ 32 + rows % 2 ^ 32

/-- The page that the next row of an append is written to, none of some pinned ones being taken for it, and what is
copied into it (R81, R301). -/
def State.appWrite (s : State) (pins : List Nat) (k : Cmd) : Option PageWrite :=
  let d := k.arg
  let x := s.cruc k.crucible
  (s.seq? (s.cmdAsid k) (fld d 255 224)).bind (fun q =>
    x.pool.write kvPages pins q.map (kvIndex q (fld d 131 124) (fld d 123 120) (fld d 223 192 + k.cnt)))

/-- A row of an append counted: the raises it made, and whether its position is not finite (R315). -/
def State.appCount (s : State) (k : Cmd) (raises : Nat) (odd : Bool) : State :=
  let h := fld k.arg 255 224
  s.mapCruc k.crucible (fun x =>
    let y := (x.count (s.cmdAsid k) h 3 raises).count (s.cmdAsid k) h 4 1
    if odd then y.count (s.cmdAsid k) h 7 1 else y)

/-- LEN of an append's sequence after a row (R309). -/
def State.appLen (s : State) (k : Cmd) : State :=
  let e := hEntry (fld k.arg 255 224)
  s.mapCruc k.crucible (fun y => match look y.seqs e with
    | some q => { y with seqs := put y.seqs e { q with len := max q.len (fld k.arg 223 192 + k.cnt + 1) } }
    | none => y)

/-- One row of an append that has started: `cnt` rows are in, `ea` raises made, `ta` the headroom found.
The command as it goes on, or its status; none while a frame or a page is awaited. NOPAGE stops it, where no page is
free, and POISONED, where the page's header is poisoned, or its bytes
are and a raise reads them; a page that is free but for a query's pin is waited for. Rows
for a sequence that has been freed meanwhile go to a map that nothing sees any more, and raise no exponent that is counted
(R81, R300, R301, R309, R310, R324, R422, log 19). -/
def State.appRow (s : State) (k : Cmd) : Option (State × Option Nat × Cmd) :=
  let d := k.arg
  let cb := k.crucible
  let i := k.cnt
  let x := s.cruc cb
  let z := appZ d
  let F := if z = 4 then fmt32 else fmtBf16
  let row (off : Nat) : List Num := readRow s.mem (padKey k.cell (off + 128 * i * z)) 128 z F
  let kr := row (fld d 191 174)
  let vr := row (fld d 173 156)
  let goes (t : State) (raises : Nat) : Option (State × Option Nat × Cmd) :=
    some (t, if i + 1 = appRows d then some 0 else none, { k with cnt := i + 1, ea := k.ea + raises })
  match s.seq? (s.cmdAsid k) (fld d 255 224) with
  | none => goes (s.appCount k 0 !(kr.all Num.isFinite && vr.all Num.isFinite)) 0
  | some _ =>
    match s.appWrite x.pins k with
    | none => if (s.appWrite [] k).isSome then none else some (s, some 0x63, k)
    | some w =>
      let old := if w.fresh then w.src else some w.page
      let away (p : Nat) : Bool := !(x.page p).sram
      if (w.fresh && x.freeFrames == 0) || (!w.fresh && away w.page) || w.src.any away then none
      else if old.any (fun p => (x.page p).poison) then some (s, some 0x6F, k)
      else
        let tag := memRead s.mem (padKey k.cell (fld d 155 138 + 8 * i)) 8
        let r := (s.kvReady cb (s.cmdAsid k) w).kvAppend cb w.page k.ta kr vr (sx (tag % 2 ^ 32) 32) (sx (tag / 2 ^ 32) 32)
        if r.2.1 ≠ 0 && old.any (fun p => s.bad (kvKey cb p 0) 16384) then some (s, some 0x6F, k)
        else goes ((r.1.appCount k r.2.1 r.2.2).appLen k) r.2.1

/-- An append at its crucible: checked, then one row at a time. -/
def State.arriveApp (s : State) (n : Nat) (i : Nat) (k : Cmd) : State :=
  if !k.started then
    let st := s.appStatus k
    if st ≠ 0 then (s.land i).complete k st 0
    else
      let h := (lookD (s.cruc k.crucible).asids (s.cmdAsid k) {}).head
      { s with fly := s.fly.set i { n := n, cell := k.cell, f := .cruc { k with started := true, cnt := 0, ea := 0, ta := h } } }
  else
    match s.appRow k with
    | none => s
    | some (t, some st, j) => (t.land i).complete k st (appVal j.ea j.cnt)
    | some (t, none, j) => { t with fly := t.fly.set i { n := n, cell := k.cell, f := .cruc j } }

/-! ### ATSEQ (R310, R311) -/

/-- Whether a descriptor of ATSEQ breaks a rule for an operation. -/
def seqBad (op d : Nat) : Bool :=
  fld d 511 256 != 0 || fld d 155 0 != 0 || (op != 0 && fld d 173 161 != 0) || (op != 2 && bit d 160) ||
    (op != 1 && fld d 159 156 != 0) || (op == 1 && (fld d 159 156 == 0 || decide (8 < fld d 159 156)))

/-- The report of R311. -/
def Crucible.report (x : Crucible) (cb e : Nat) (q : Seq) : Nat :=
  let m := x.pool.map? q.map
  let b (p : Bool) : Nat := if p then 1 else 0
  (match q.parent with | some p => x.handle cb p | none => 0) * 2 ^ 480 + x.handle cb e * 2 ^ 448 + q.len % 2 ^ 32 * 2 ^ 416 +
    q.floor % 2 ^ 32 * 2 ^ 384 + (m.map (·.count)).getD 0 % 2 ^ 32 * 2 ^ 352 + x.pool.ownPages q.map % 2 ^ 32 * 2 ^ 320 +
    b q.stream.isSome * 2 ^ 319 + q.stream.getD 0 % 2 ^ 17 * 2 ^ 302 + (m.map (·.depth)).getD 0 % 8 * 2 ^ 299 +
    (q.nl - 1) % 256 * 2 ^ 291 + (q.nkvh - 1) % 16 * 2 ^ 287 + b q.pers * 2 ^ 286 + b (x.pool.frozen q.map) * 2 ^ 285 +
    q.children.length % 16 * 2 ^ 281

/-- `.trim` of an entry: the state of the crucible, and the pages freed. -/
def Crucible.trim (x : Crucible) (e w : Nat) (q : Seq) : Crucible × Nat :=
  match x.pool.map? q.map with
  | none => (x, 0)
  | some m =>
    let out := m.ents.filter (fun p => decide (64 * (p.1 % 16384) + (x.page p.2).fill < w + 1))
    let pool := out.foldl (fun (a : Pool) p => a.drop p.2)
      { x.pool with maps := put x.pool.maps q.map { m with ents := m.ents.filter (fun p => !out.contains p) } }
    ({ x with pool := pool, seqs := put x.seqs e { q with floor := max q.floor w } },
      (out.filter (fun p => pool.count p.2 == 0)).length)

/-- ATSEQ at the sequence table (R310). -/
def State.arriveSeq (s : State) (k : Cmd) (op : Nat) : State :=
  let d := k.arg
  let cb := k.crucible
  let x := s.cruc cb
  let off := fld d 191 174
  let h := fld d 255 224
  let asid := s.cmdAsid k
  let size := if op = 5 then 64 else if op = 0 then 4 else if op = 1 then 4 * fld d 159 156 else 0
  if seqBad op d then s.complete k 0x60 0
  else if off % (if op = 5 then 64 else 4) ≠ 0 ∨ !inPad off size then s.complete k 0x6C 0
  else if op = 0 then
    match x.freeEntries 1, x.pool.create seqMaps with
    | [e], some (m, pool) =>
      let q : Seq := { asid := asid, gid := k.gid, map := m, parent := none, children := [], nl := fld d 173 166 + 1,
                       nkvh := fld d 165 162 + 1, len := 0, floor := 0, pers := bit d 161, stream := none, ctr := [] }
      let hd := x.handle cb e
      (s.mapCruc cb (fun x => { x with pool := pool, seqs := put x.seqs e q })).completeOut k off 4 hd hd
    | _, _ => s.complete k 0x6A 0
  else
    match s.seq? asid h with
    | none => s.complete k 0x61 0
    | some q =>
      let e := hEntry h
      match op with
      | 1 =>
        (match x.fork k.gid e (fld d 159 156) with
         | .error st => s.complete k st 0
         | .ok (es, y) =>
           let bytes := es.foldr (fun c acc => y.handle cb c + 2 ^ 32 * acc) 0
           (s.mapCruc cb (fun _ => y)).completeOut k off size bytes (fld d 159 156))
      | 2 =>
        let child := fld d 223 192
        (match (if hCruc child = cb then s.seq? asid child else none) with
         | none => s.complete k 0x6B 0
         | some _ =>
           match x.commit e (hEntry child) (bit d 160) with
           | none => s.complete k 0x6B 0
           | some y => (s.mapCruc cb (fun _ => y)).complete k 0
               (((look y.seqs e).map (fun q => y.pool.ownPages q.map)).getD 0))
      | 3 =>
        if x.pool.frozen q.map then s.complete k 0x62 0
        else
          let r := x.trim e (fld d 223 192) q
          (s.mapCruc cb (fun _ => r.1)).complete k 0 r.2
      | 4 =>
        let r := x.free e
        (s.mapCruc cb (fun _ => r.1)).complete k 0 r.2
      | _ => s.completeOut k off 64 (x.report cb e q) 0

/-! ### ATMSK and ATCNT (R313, R314, R326) -/

/-- ATMSK at the crucible. -/
def State.arriveMsk (s : State) (k : Cmd) : State :=
  let w := k.arg
  let cb := k.crucible
  let slot := fld w 61 52
  let n := fld w 51 46
  let off := fld w 17 0
  let asid := s.cmdAsid k
  let words := (List.range n).map (fun i => BitVec.ofNat 32 (memRead s.mem (padKey k.cell (off + 4 * i)) 4))
  if fld w 45 18 ≠ 0 ∨ n = 0 ∨ off % 4 ≠ 0 then s.complete k 0x60 0
  else if !inPad off (4 * n) then s.complete k 0x6C 0
  else if s.bad (padKey k.cell off) (4 * n) then s.complete k 0x6F 0
  else if (look (s.cruc cb).slots slot).any (fun p => p.1 != asid) then s.complete k 0x75 0
  else if 32 < n then s.complete k 0x70 n
  else
    match maskCheck words with
    | some (.op, i) => s.complete k 0x71 i
    | some (.reg, i) => s.complete k 0x72 i
    | some (.unset, i) => s.complete k 0x73 i
    | some (.novis, i) => s.complete k 0x74 i
    | none => (s.mapCruc cb (fun x => { x with slots := put x.slots slot (asid, words) })).complete k 0 n

/-- ATCNT at the crucible (R314, R315). -/
def State.arriveCnt (s : State) (k : Cmd) : State :=
  let asid := s.cmdAsid k
  let a := lookD (s.cruc k.crucible).asids asid {}
  if k.cnt < 8 then
    match s.seq? asid (fld k.arg 31 0) with
    | none => s.complete k 0x61 0
    | some q => s.complete k 0 (lookD q.ctr k.cnt 0)
  else if k.cnt < 16 then s.complete k 0 (lookD a.ctr (k.cnt - 8) 0)
  else s.complete k 0 (if k.cnt = 16 then a.spill else a.fill)

/-- CRUCIBLE_COMMAND_ARRIVAL: a command that its cell sent takes effect at its crucible, after its cell's
earlier ones on the same sequence; a query goes on to be accepted (R152, R304, R485). -/
def execCrucibleCommandArrival (i : Nat) (s : State) : Out :=
  match s.flight i with
  | some ⟨n, c, .cruc k⟩ =>
    if s.crucBlocked n k then .next s
    else
      match k.op with
      | .atapp => .next (s.arriveApp n i k)
      | .atseq op => .next ((s.land i).arriveSeq k op)
      | .atmsk => .next ((s.land i).arriveMsk k)
      | .atcnt => .next ((s.land i).arriveCnt k)
      | _ => .next ((s.land i).resend n c (.accept k))
  | _ => .next s

/-! ### Queries (R302 to R307) -/

/-- Rows of a query. -/
def qRows (d : Nat) : Nat := fld d 145 139 + 1
/-- Element bytes of the query rows. -/
def qZ (d : Nat) : Nat := if bit d 126 then 1 else 2
/-- Element bytes of the output. -/
def oZ (d : Nat) : Nat := if bit d 125 then 4 else 2

/-- The status of a query before it is accepted: 0 for one that is (R306, R307). -/
def State.atqStatus (s : State) (k : Cmd) : Nat :=
  let d := k.arg
  let n := qRows d
  if fld d 124 0 ≠ 0 ∨ fld d 191 174 % 64 ≠ 0 ∨ fld d 173 156 % 8 ≠ 0 ∨ 64 < n then 0x60
  else if !(inPad (fld d 191 174) (128 * n * qZ d) && inPad (fld d 173 156) (8 * n)) then 0x6C
  else
    match s.seq? (s.cmdAsid k) (fld d 223 192) with
    | none => 0x61
    | some q =>
      if q.nl ≤ fld d 138 131 ∨ q.nkvh ≤ fld d 130 127 then 0x6C
      else
        match k.ringD with
        | none => 0x65
        | some r =>
          if r.slotSz < 8192 * oZ d + 256 ∨ (cwFilled r.slots (s.ringWord r k.cell)).isNone then 0x65
          else if (look (s.cruc k.crucible).slots (fld d 155 146)).all (fun p => p.1 != s.cmdAsid k) then 0x6D
          else if s.bad (padKey k.cell (fld d 191 174)) (128 * n * qZ d) || s.bad (padKey k.cell (fld d 173 156)) (8 * n) then 0x6F
          else 0

/-- The rows of a query as captured at acceptance (R304, R306). -/
def State.queryRows (s : State) (k : Cmd) : List QRow :=
  let d := k.arg
  let z := qZ d
  (List.range (qRows d)).map (fun i =>
    let tag := padKey k.cell (fld d 173 156 + 8 * i)
    { pos := sx (memRead s.mem tag 4) 32, doc := sx (memRead s.mem (tag + 4) 4) 32
      q := (List.range 128).map (fun j => memRead s.mem (padKey k.cell (fld d 191 174 + 128 * i * z + j * z)) z)
      m := infBits fmt32 true, l := 0, o := List.replicate 128 0, seen := false })

/-- ATQ_ACCEPT: the crucible accepts a query: the map's pages are taken and pinned, the program captured;
or it completes with the first status that applies (R304, R306, R307, R327). -/
def execAtqAccept (i : Nat) (s : State) : Out :=
  match s.flight i with
  | some ⟨n, _, .accept k⟩ =>
    if s.crucBlocked n k then .next s
    else
      let s1 := s.land i
      let d := k.arg
      let st := s.atqStatus k
      if st = 0x6D then .next ((s1.complete k st 0).boundaryTrap k .maskIll (fld d 155 146) 7)
      else if st ≠ 0 then .next (s1.complete k st 0)
      else
        let asid := s.cmdAsid k
        match s.seq? asid (fld d 223 192), look (s.cruc k.crucible).slots (fld d 155 146) with
        | some q, some p =>
          let lo := kvIndex q (fld d 138 131) (fld d 130 127) 0
          let x := s.cruc k.crucible
          let seen := x.pool.visible 4 q.map
          let pages := seen.filter (fun e => decide (lo ≤ e.1) && decide (e.1 < lo + 16384))
          let qr : Query := { cmd := { k with ta := asid }, seq := fld d 223 192, floor := q.floor, prog := p.2, pages := pages,
                              pinned := seen.map (·.2), rows := s.queryRows k, full := 0, part := 0, empty := 0, poisoned := false }
          .next (s1.mapCruc k.crucible (fun x => { x with queries := x.queries ++ [qr] }))
        | _, _ => .next s
  | _ => .next s

/-- The least and the greatest of a list. -/
def ivalOf (l : List Int) : Ival :=
  match l with
  | [] => {}
  | x :: r => { lo := r.foldl min x, hi := r.foldl max x }

/-- A point. -/
def pointOf (x : Int) : Ival := { lo := x, hi := x }

/-- The parameters of a query. -/
def qPar (d : Nat) : List Int := (List.range 8).map (fun j => sx (fld d (32 * j + 287) (32 * j + 256)) 32)

/-- The inputs of the mask unit for a tile pair (R319). -/
def tileIn (q : Query) (g : KvPage) (base : Nat) : MaskIn :=
  { tile := true
    q := ivalOf (q.rows.map (·.pos))
    k := { lo := (base : Int), hi := (base : Int) + g.fill - 1 }
    dq := ivalOf (q.rows.map (·.doc))
    dk := { lo := g.dmin, hi := g.dmax }
    at_ := { lo := g.amin, hi := g.amax }
    par := qPar q.cmd.arg }

/-- The inputs of the mask unit for a row and a slot (R319). -/
def elemIn (q : Query) (g : KvPage) (base : Nat) (r : QRow) (j : Nat) : MaskIn :=
  let t := lookD g.tags j (0, 0)
  { tile := false, q := pointOf r.pos, k := pointOf ((base : Int) + j), dq := pointOf r.doc, dk := pointOf t.2
    at_ := pointOf t.1, par := qPar q.cmd.arg }

/-- The class of a query's tile by a page's header: empty where its slots lie below FLOOR or hold nothing (R302, R321). -/
def tileClass (q : Query) (g : KvPage) (idx : Nat) : Option MaskU :=
  let base := 64 * (idx % 16384)
  if g.fill = 0 ∨ base + g.fill - 1 < q.floor then none else some (runMask q.prog (tileIn q g base))

/-- Whether a page is wanted in a frame: by a query that does not class it as empty, or by an append to it or to its copy
(R299). -/
def State.kvWanted (s : State) (cb page : Nat) : Bool :=
  let x := s.cruc cb
  x.queries.any (fun q => match q.pages with
    | (idx, p) :: _ => p == page && (tileClass q (x.page p) idx).any (fun u => u.res.getD .m != .f)
    | [] => false) ||
  s.fly.any (fun f => match f.f with
    | .cruc k => k.op == .atapp && k.started && k.crucible == cb && (s.appWrite x.pins k).any (fun w =>
        if w.fresh then w.src == some page else w.page == page)
    | _ => false)

/-- KV_FILL: a page that is wanted comes back into a free frame (R299, R315). -/
def execKvFill (cb page : Nat) (s : State) : Out :=
  let x := s.cruc cb
  if x.used page ∧ !(x.page page).sram ∧ 0 < x.freeFrames ∧ s.kvWanted cb page then
    .next (s.mapCruc cb (fun x => ({ x with kv := put x.kv page { x.page page with sram := true } } : Crucible).touch page
      |>.mapAsid (x.page page).asid (fun a => { a with fill := a.fill + 1 })))
  else .next s

/-- FP32 arithmetic, rounded to nearest even. -/
def f32op (op : FOp) (x y : Nat) : Nat := (fArith op fmt32 .rne false x y 0).bits

/-- A row met with the visible slots of a tile: keys and values as exact values, and the scale (R303). -/
def attendRow (F : Fmt) (scale : Nat) (keys vals : List (List Num)) (vis : List Nat) (r : QRow) : QRow :=
  if vis.isEmpty then r
  else
    let q := r.q.map (decodeF F)
    let dot (a b : List Num) : Nat := rne fmt32 (exactSum ((a.zip b).map (fun p => (Num.mul p.1 p.2).1)))
    let sOf (j : Nat) : Nat :=
      let k := keys.getD j []
      f32op .mul (f32op .add (dot (q.take 64) (k.take 64)) (dot (q.drop 64) (k.drop 64))) scale
    let ss := vis.map (fun j => (j, sOf j))
    let m2 := ss.foldl (fun m p => fMinMax fmt32 true m p.2) r.m
    let a := if r.m = infBits fmt32 true then 0 else expTab (f32op .sub r.m m2)
    let ps := ss.map (fun p => (p.1, expTab (f32op .sub p.2 m2)))
    let sum := (tree (f32op .add) 6 ((List.range 64).map (fun j => look ps j))).getD 0
    let pb := ps.map (fun p => (p.1, decodeF fmtBf16 (fCvt fmtBf16 fmt32 .rne false p.2).bits))
    let o := (List.range 128).map (fun d =>
      let pv := rne fmt32 (exactSum (pb.map (fun p => (Num.mul p.2 ((vals.getD p.1 []).getD d (Num.zero false))).1)))
      f32op .add (f32op .mul (r.o.getD d 0) a) pv)
    { r with m := m2, l := f32op .add (f32op .mul r.l a) sum, o := o, seen := true }

/-- The stored rows of one half of a page, as the values they stand for (R298). -/
def State.kvRows (s : State) (cb p fill : Nat) (isV : Bool) (e : Int) : List (List Num) :=
  (List.range fill).map (fun j => (List.range 128).map (fun d =>
    (decodeF fmtE4m3 (memGet s.mem (kvHalf cb p isV + 128 * j + d)).toNat).scale e))

/-- A query replaced in its crucible. -/
def State.setQuery (s : State) (cb i : Nat) (q : Query) : State :=
  s.mapCruc cb (fun x => { x with queries := setAt x.queries i q })

/-- ATQ_TILE_FETCH: the next page of a query is classed on its header; an empty tile is skipped, another
fetched, when it stands in a frame, and met by the rows. A poisoned header ends the query before the page is classed, poisoned
bytes after (R299, R302, R303, R321 to R324, R328). -/
def execAtqTileFetch (cb i : Nat) (s : State) : Out :=
  let x := s.cruc cb
  match x.queries[i]? with
  | none => .next s
  | some q =>
    match q.pages with
    | [] => .next s
    | (idx, p) :: rest =>
      let g := x.page p
      let base := 64 * (idx % 16384)
      let q1 := { q with pages := rest }
      let a := q.cmd.ta
      if g.poison then .next (s.setQuery cb i { q1 with pages := [], poisoned := true }) else
      match tileClass q g idx with
      | none => .next (s.setQuery cb i q1)
      | some u =>
        let s1 := s.mapCruc cb (fun x => { x with mu := u })
        match u.res.getD .m with
        | .f => .next ((s1.setQuery cb i { q1 with empty := q.empty + 1 }).mapCruc cb (fun x => x.count a q.seq 2 1))
        | c =>
          if !g.sram then .next s
          else
            let full := c == .t
            let q1 := { q1 with full := q.full + (if full then 1 else 0), part := q.part + (if full then 0 else 1) }
            let count (t : State) : State := t.mapCruc cb (fun x => (x.touch p).count a q.seq (if full then 0 else 1) 1)
            if s.bad (kvKey cb p 0) 16384 then
              .next (count (s1.setQuery cb i { q1 with pages := [], poisoned := true }))
            else
            let keys := s.kvRows cb p g.fill false g.kexp
            let vals := s.kvRows cb p g.fill true g.vexp
            let F := if bit q.cmd.arg 126 then fmtE4m3 else fmtBf16
            let vis (r : QRow) : List Nat :=
              (List.range g.fill).filter (fun j => full || (runMask q.prog (elemIn q g base r j)).res == some .t)
            let rows := q.rows.map (fun r => attendRow F (fld q.cmd.arg 255 224) keys vals (vis r) r)
            .next (count (s1.setQuery cb i { q1 with rows := rows }))

/-- The outputs and the log-sum-exp of a row (R303). -/
def rowOut (d : Nat) (r : QRow) : List Nat × Nat :=
  let o := if r.seen then r.o.map (fun x => f32op .div x r.l) else List.replicate 128 0
  let lse := if r.seen then f32op .add r.m (f32op .mul 0x3F317218 (log2Tab r.l)) else infBits fmt32 true
  (if bit d 125 then o else o.map (fun x => (fCvt fmtBf16 fmt32 .rne false x).bits), lse)

/-- The value of a query's token: empty rows, tiles fetched, tiles skipped (R307, R328). -/
def Query.tokenVal (q : Query) : Nat :=
  (q.rows.filter (fun r => !r.seen)).length * 2 ^ 40 + (q.full + q.part) % 2 ^ 20 * 2 ^ 20 + q.empty % 2 ^ 20

/-- The results of a query written into their slot, P raised and the token sent; the state unchanged while
the ring is full or a trace ring has no room (R270, R307). -/
def State.writeResult (s : State) (q : Query) (done : State → State) : State :=
  let k := q.cmd
  let d := k.arg
  let z := oZ d
  match k.ringD with
  | none => s
  | some r =>
    let v := s.ringWord r k.cell
    match cwFilled r.slots v with
    | none => (done s).complete k 0x65 q.tokenVal
    | some f =>
      let w : Writer := { gid := k.gid, asid := s.cmdAsid k, src := k.cell, msgid := 0 }
      let place (off : Nat) : Loc := match r.slotLoc k.cell (cwP v) with | .port c o => .port c (o + off) | l => l
      if f = r.slots then s
      else if s.ringWaits w (place 0) 8 then s.ringTry w (place 0) 8
      else if s.ringStepWaits k r then s.ringStepTry k r
      else
        let outs := q.rows.map (rowOut d)
        let num := (List.range outs.length).zip outs
        let s1 := num.foldl (fun s (i, o) =>
          s.engineWrite w.gid w.asid w.src (place (128 * i * z)) (128 * z) (o.1.foldr (fun x acc => x + 2 ^ (8 * z) * acc) 0)) s
        let s2 := num.foldl (fun s (i, o) => s.write w (place (8192 * z + 4 * i)) 4 o.2 (fullMask 4) 8) s1
        ((done s2).ringStep k r false).complete k (if q.rows.all (·.seen) then 0 else 0x64) q.tokenVal

/-- A query's counters at its completion (R315). -/
def Crucible.countDone (x : Crucible) (q : Query) : Crucible :=
  (x.count q.cmd.ta q.seq 5 1).count q.cmd.ta q.seq 6 (if q.poisoned then 0 else (q.rows.filter (fun r => !r.seen)).length)

/-- ATQ_RESULT: a query that has met every tile writes its results, or is held while the grid of the
destination cell is switched out; a poisoned one writes no slot, and its token's tiles are those classed before it met
the poison, that one among them, while its empty rows are not stated (R307, R328, log 7). -/
def execAtqResult (cb i : Nat) (s : State) : Out :=
  match (s.cruc cb).queries[i]? with
  | none => .next s
  | some q =>
    if !q.pages.isEmpty then .next s
    else
      let drop (s : State) : State := s.mapCruc cb (fun x => { x with queries := x.queries.eraseIdx i })
      let done (s : State) : State := (drop s).mapCruc cb (·.countDone q)
      if q.poisoned then
        let f := (done s).freeVal
        .next (f.2.complete q.cmd 0x6F (f.1 % 2 ^ 8 * 2 ^ 40 + (q.full + q.part) % 2 ^ 20 * 2 ^ 20 + q.empty % 2 ^ 20))
      else if q.cmd.ringD.any (fun r => (s.cell (r.owner q.cmd.cell)).grid != some q.cmd.gid) then
        .next ((drop s).mapCruc cb (fun x => { x with held := x.held ++ [q] }))
      else .next (s.writeResult q done)

/-- HELD_RESULT_WRITE: a held result is written when its grid is resident again (R307). -/
def execHeldResultWrite (cb i : Nat) (s : State) : Out :=
  match (s.cruc cb).held[i]? with
  | none => .next s
  | some q =>
    if q.cmd.ringD.any (fun r => (s.cell (r.owner q.cmd.cell)).grid != some q.cmd.gid) then .next s
    else .next (s.writeResult q (fun s => s.mapCruc cb (fun x => { x with held := x.held.eraseIdx i }.countDone q)))

/-- A headroom of an ASID copied into the crucibles' tables (R300, R439). -/
def State.headCopy (s : State) (asid h : Nat) : State :=
  [0, 1, 2, 3].foldl (fun s cb => s.mapCruc cb (fun x => x.mapAsid asid (fun a => { a with head := h }))) s

/-- HEAD of an ASID's context entry (R439). -/
def State.ctxHead (s : State) (asid : Nat) : Nat := fld (lookD s.ctx asid 0) 53 52

/-- HEAD_COPY: the HEAD that the host has signalled for an ASID reaches the crucibles; without a signal nothing is copied
(R300, R439). -/
def execHeadCopy (asid : Nat) (s : State) : Out :=
  match look s.plat.headDue asid with
  | some h => .next ((s.headCopy asid h).mapPlat (fun p => { p with headDue := del p.headDue asid }))
  | none => .next s

end Sys2Proof.Machine
end

