-- ==== Sys2Proof/Machine/Tongs.lean ====
section
/-!
DEFINITION. Machine/Tongs.lean: the copy channels (05 R115 to R133, R137, R138): descriptors, the walk over the
elements in pieces, the checks before the first byte, landing, and class 0x0A.
-/

namespace Sys2Proof.Machine

/-- The number of elements of a piece: consecutive, contiguous at both ends, in one 64-byte block of the
destination (R122). -/
def State.copyRun (s : State) (k : Cmd) (w : Work) (src : Option Nat) (dst : Nat) : Nat → Nat → Nat
  | 0, n => n
  | fuel + 1, n =>
    if w.pos + n < k.total && decide ((dst + (n + 1) * k.z - 1) / 64 = dst / 64) &&
        s.copyEl k w (w.pos + n) == .move (src.map (· + n * k.z)) (dst + n * k.z) then
      s.copyRun k w src dst fuel (n + 1)
    else n

/-! ### The checks of R123 -/

/-- The type and operation pairings of R129. -/
def redAllowed (ty red : Nat) : Bool :=
  decide (red ≤ 5) && ty != 11 && ty != 12 && !(decide (7 ≤ ty) && decide (ty ≤ 10) && decide (2 < red))

/-- DESC (R119, R120, R128, R129). -/
def Cmd.badDesc (k : Cmd) : Bool :=
  let d := k.arg
  fld d 446 444 != 0 || fld d 422 402 != 0 || (scopeOf (fld d 427 424)).isNone || (k.tidm && k.table) ||
    (k.op == .cpyr && decide (5 < fld d 443 440)) ||
    (!k.tidm && (decide (13 < k.ty) || decide (5 < k.space false) || decide (5 < k.space true))) ||
    ((!k.tidm || (tValid k.ea && tValid k.eb)) &&
      ((k.op == .cpym && k.space true != 3) || (k.op == .cpyr && k.space true == 4) || decide (2 ^ 40 < k.z * k.total) ||
        (k.op == .cpyr && !redAllowed k.ty (fld d 443 440)) || (k.table && (k.ext 2 != 1 || k.ext 3 != 1)) ||
        (k.op == .cpym && (fld k.dst0 22 18 % k.memW != 0 || fld k.dst0 27 23 % k.memH != 0))))

/-- The starts of the contiguous rows of an end, with their bytes. -/
def Cmd.rows (k : Cmd) (dst : Bool) : List (Nat × Nat) :=
  if k.count dst 0 = 0 then []
  else
    (List.range (k.count dst 3)).flatMap (fun i3 => (List.range (k.count dst 2)).flatMap (fun i2 =>
      (List.range (k.count dst 1)).map (fun i1 => (k.at_ dst 0 i1 i2 i3, k.count dst 0 * k.z))))

/-- The addresses of the first and the last element in each dimension. -/
def Cmd.corners (k : Cmd) (dst : Bool) : List Nat :=
  let c (j : Nat) : List Nat := if k.count dst j = 0 then [] else [0, k.count dst j - 1]
  (c 3).flatMap (fun i3 => (c 2).flatMap (fun i2 => (c 1).flatMap (fun i1 => (c 0).map (fun i0 => k.at_ dst i0 i1 i2 i3))))

/-- RANGE (R123, R128, R130): the first byte or the last of an element that no address form of its space fits
(log 84). -/
def Cmd.badRange (k : Cmd) : Bool :=
  let out (dst : Bool) : Bool :=
    (k.corners dst).any (fun a => !(fitsForm (k.space dst) a && fitsForm (k.space dst) (a + k.z - 1)))
  out false || out true || (k.op == .cpym && (k.corners true).any (fun a => a / 2 ^ 18 != k.dst0 / 2 ^ 18)) ||
    (k.table && decide (2 ^ 18 < k.idxOff (k.ext 1)))

/-- The numbers of the blocks of `b` bytes that a row lies in. -/
def blocks (b : Nat) (r : Nat × Nat) : List Nat :=
  (List.range ((r.1 + r.2 - 1) / b + 1 - r.1 / b)).map (r.1 / b + ·)

/-- GRID (R123, R128). -/
def Cmd.badGrid (lr : Nat) (k : Cmd) : Bool :=
  let out (dst : Bool) : Bool :=
    isPad (k.space dst) && k.space dst != 1 &&
      (k.rows dst).any (fun r => (blocks (2 ^ 18) r).any (fun b => !inRect lr (formCell k.cell (k.space dst) (b * 2 ^ 18))))
  out false || (if k.op = .cpym then k.members.any (fun m => !inRect lr m) else out true)

/-- ALIGN (R123, R130). -/
def Cmd.badAlign (k : Cmd) : Bool :=
  (!k.tidm && (k.addr false % k.z != 0 || k.addr true % k.z != 0 || !multipleOf (k.stride false 1) k.z ||
      !multipleOf (k.stride true 1) k.z ||
      (!k.table && [2, 3].any (fun j => !multipleOf (k.stride false j) k.z || !multipleOf (k.stride true j) k.z)))) ||
    (k.table && k.idxOff 0 % 4 != 0) || (bit k.arg 447 && fld k.arg 401 384 % 16 != 0)

/-- An interval widened by another. -/
def spanAdd (m : Map (Nat × Nat)) (u lo hi : Nat) : Map (Nat × Nat) :=
  put m u (match look m u with | some (a, b) => (min a lo, max b hi) | none => (lo, hi))

/-- The lowest and highest byte of an end in each scratchpad, stream's state, or global memory (R123). -/
def Cmd.spans (k : Cmd) (dst : Bool) : Map (Nat × Nat) :=
  let sp := k.space dst
  let part (b : Nat) (unit : Nat → Nat) (m : Map (Nat × Nat)) (r : Nat × Nat) : Map (Nat × Nat) :=
    (blocks b r).foldl (fun m n => spanAdd m (unit n) (max r.1 (n * b) % b) (min (r.1 + r.2 - 1) (n * b + b - 1) % b)) m
  if dst && k.op == .cpym then
    (k.rows true).foldl (fun m r => k.members.foldl (fun m c =>
      spanAdd m (1 + c) (r.1 % 2 ^ 18) (r.1 % 2 ^ 18 + r.2 - 1)) m) []
  else
    (k.rows dst).foldl (fun m r =>
      if sp = 0 then spanAdd m 0 r.1 (r.1 + r.2 - 1)
      else if sp = 4 then part (2 ^ 23) (fun n => 2 ^ 20 + n) m r
      else part (2 ^ 18) (fun n => 1 + formCell k.cell sp (n * 2 ^ 18)) m r) []

/-- OVERLAP (R123). -/
def Cmd.overlaps (k : Cmd) : Bool :=
  let b := k.spans true
  (k.spans false).any (fun e => match look b e.1 with
    | some (lo, hi) => decide (e.2.1 ≤ hi) && decide (lo ≤ e.2.2)
    | none => false)

/-- The status found before any byte is read: none when the command runs; a zero extent completes at
once (R120, R123). -/
def Cmd.preStatus (lr : Nat) (k : Cmd) : Option Nat :=
  if k.badDesc then some 0x10
  else if !k.tidm && k.total == 0 then some 0
  else if k.tidm && !(tValid k.ea && tValid k.eb) then some 0x17
  else if k.tidm && (tFmt k.ea != tFmt k.eb || [0, 1, 2, 3].any (fun j => tTs k.ea j != tTs k.eb j)) then some 0x11
  else if k.badRange then some 0x14
  else if k.badGrid lr then some 0x15
  else if k.badAlign then some 0x13
  else if k.overlaps then some 0x12
  else none

/-! ### Reading and landing -/

/-- What stops a piece: it waits, or fails with a status at an address. -/
inductive Halt
  | wait (s : State)
  | fail (status addr : Nat) (s : State)

/-- The translation of a piece's address: the one held for its 4 KiB piece, or a new one (R77). -/
def State.pieceXl (s : State) (k : Cmd) (held : Option PieceXl) (a kind : Nat) : Except Halt (PieceXl × State) :=
  match held.filter (fun h => h.page == a / 4096) with
  | some h => .ok (h, s)
  | none =>
    match s.engineXl k (asidOf (s.lr k.gid)) a kind with
    | .error (none, u) => .error (.wait u)
    | .error (some t, u) => .error (.fail t.cause.code a u)
    | .ok (e, u) => .ok ({ page := a / 4096, e := e, n := u.serial }, u.tick)

/-- The place of an address for a copy, its leaf's UE, and the translation now held; a piece that a failed bridge would
carry is lost, and ends its grid (R92, R95, R125, R421). -/
def State.copyPlace (s : State) (k : Cmd) (held : Option PieceXl) (space a kind : Nat) :
    Except Halt (Loc × Bool × Option PieceXl × State) :=
  let lost : Halt := .wait (s.endGrid k.gid { status := 0x11 })
  if space = 0 then
    match s.pieceXl k held a kind with
    | .error h => .error h
    | .ok (h, t) =>
      let e := h.e
      if kind = 2 && e.mtype == 2 then .error (.fail 0x24 a t)
      else if e.mtype != 2 && s.cut (dieOf k.cell) (homeDie (e.pa a)) then .error lost
      else .ok (if e.mtype = 2 then .host (e.pa a) else .home (e.pa a), e.ue, some h, t)
  else if space = 4 then .ok (.hearth (a / 2 ^ 23) (a % 2 ^ 23), false, held, s)
  else if s.cut (dieOf k.cell) (dieOf (formCell k.cell space a)) then .error lost
  else .ok (.port (formCell k.cell space a) (a % 2 ^ 18), false, held, s)

/-- An engine's access, for the slots and the writer of R99. -/
def Cmd.access (k : Cmd) (asid : Nat) (loc : Loc) (n : Nat) (op : AOp) : Access :=
  { cell := k.cell, hi := k.hi, task := false, gid := k.gid, asid := asid, msgid := k.msgid, act := 0, pc := k.pc, ea := 0,
    loc := loc, n := n, op := op }

/-- What an engine's access takes: of a line at its home slice the slots and the count there, and elsewhere the flits to
another die and back; none while they are spent (R85, R383, log 92). -/
def State.homeUse (s : State) (a : Access) : Option State :=
  match a.loc with
  | .home pa => s.hsRead a.gid (dieOf a.cell) pa
  | .host _ => some s
  | l => s.roundTrip a.gid (dieOf a.cell) l.die

/-- The stream that an engine reaches; DEAD when there is none (R102, R125). -/
def State.engineStream (s : State) (k : Cmd) (sid : Nat) : Option Stream :=
  (s.sEnt sid).filter (fun e => e.reachedBy k.gid (asidOf (s.lr k.gid)) && e.readable)

/-- Bytes at a place as an engine reads them, and whether they are poisoned (R59, R79, R102, R103, R422). -/
def State.engineRead (s : State) (k : Cmd) (loc : Loc) (n a : Nat) : Except Halt (Nat × Bool × State) :=
  match loc with
  | .hearth sid off =>
    match s.engineStream k sid with
    | none => .error (.fail 0x31 a s)
    | some e =>
      let d := sidDie sid
      (match (s.die d).pool.find e.map (off / 2 ^ 15) with
       | none => .ok (0, false, s)
       | some (g, _) =>
         if (s.die d).out.contains g then .error (.wait (s.fillPage d g))
         else
           let key := hearthKey d g (off % 2 ^ 15)
           .ok (memRead s.mem key n, s.bad key n, s.mapDie d (·.touch g)))
  | _ => .ok (memRead s.mem loc.key n, s.bad loc.key n, s)

/-- Bytes of an element-by-element source, each element read under the translation held for its 4 KiB piece (R77, R122,
R132). -/
def State.readEls (s : State) (k : Cmd) (held : Option PieceXl) (space src z : Nat) :
    Nat → Except Halt (Nat × Bool × Option PieceXl × State)
  | 0 => .ok (0, false, held, s)
  | n + 1 =>
    match s.copyPlace k held space src 0 with
    | .error h => .error h
    | .ok (loc, ue, held, s1) =>
      match s1.engineRead k loc z src with
      | .error h => .error h
      | .ok (v, p, s2) =>
        match s2.readEls k held space (src + z) z n with
        | .error h => .error h
        | .ok (w, q, held, s3) => .ok (v + 256 ^ z * w, p || q || ue, held, s3)

/-- One combination of R129. -/
def combineEl (ty red old new : Nat) : Nat :=
  let t := (Ty.ofNat? ty).getD .i8
  let w := Ty.width t
  match red with
  | 0 => if 7 ≤ ty ∧ ty ≤ 10 then amofNew .add t old new else (old + new) % 2 ^ w
  | 1 => if 7 ≤ ty ∧ ty ≤ 10 then amofNew .min t old new else if Ty.signed t then amoNew .min t old new else min old new
  | 2 => if 7 ≤ ty ∧ ty ≤ 10 then amofNew .max t old new else if Ty.signed t then amoNew .max t old new else max old new
  | 3 => Nat.land old new
  | 4 => Nat.lor old new
  | _ => Nat.xor old new

/-- The combinations of the elements of a piece, one by one (R129). -/
def combine (ty red z old new : Nat) : Nat → Nat
  | 0 => 0
  | n + 1 => combineEl ty red (old % 256 ^ z) (new % 256 ^ z) +
      256 ^ z * combine ty red z (old / 256 ^ z) (new / 256 ^ z) n

/-- A piece written at a state-space destination (R81, R102, R103, R125). -/
def State.landState (s : State) (k : Cmd) (sid off n data addr : Nat) : Except Halt (Nat × State) :=
  match s.engineStream k sid with
  | none => .error (.fail 0x31 addr s)
  | some e =>
    let d := sidDie sid
    let x := s.die d
    if e.mig || x.pool.frozen e.map then .error (.fail 0x32 addr s)
    else
      match x.pool.write (s.statePages d) [] e.map (off / 2 ^ 15) with
      | none => .error (.fail 0x33 addr s)
      | some w =>
        let need := (if w.fresh then w.src.toList else [w.page]).filter x.out.contains
        match need with
        | p :: _ => .error (.wait (s.fillPage d p))
        | [] =>
          if w.fresh && x.freeFrames == 0 then .error (.wait s)
          else
            let key := hearthKey d w.page (off % 2 ^ 15)
            .ok (key, (s.pageReady d w).poke false key n data (fullMask n))

/-- A piece lands at its serialisation point: written, or combined, and recorded; poison is marked at the
destination (R59, R97, R98, R117, R129). -/
def State.landAt (s : State) (k : Cmd) (loc : Loc) (n data addr : Nat) (bad : Bool) : Except Halt (Bool × State) :=
  match loc with
  | .hearth sid off =>
    match s.roundTrip k.gid (dieOf k.cell) (sidDie sid) with
    | none => .error (.wait s)
    | some s1 =>
      match s1.landState k sid off n data addr with
      | .error h => .error h
      | .ok (key, t) => .ok (bad, if bad then { t with poison := poisonMark t.poison false key n } else t)
  | _ =>
    let kind := if k.op = .cpyr then 5 else 4
    let a := k.access (asidOf (s.lr k.gid)) loc n .binit
    if s.ringWaits a.writer loc kind then .error (.wait (s.ringTry a.writer loc kind))
    else
      match s.homeUse a with
      | none => .error (.wait s)
      | some s1 =>
        let was := k.op == .cpyr && s1.bad loc.key n
        let v := if k.op = .cpyr then combine k.ty (fld k.arg 443 440) k.z (memRead s1.mem loc.key n) data (n / k.z) else data
        let s2 := s1.write a.writer loc n v (fullMask n) kind
        let s3 := if (bad || was) && !loc.inInfo then { s2 with poison := poisonMark s2.poison loc.isGlobal loc.key n } else s2
        .ok (bad || was, match loc with | .port d _ => s3.scanBars d | _ => s3)

/-- The destinations of a piece: one, or one in each member (R128). -/
def Cmd.dests (k : Cmd) (away : List Nat) (only : Option Nat) : List (Option Nat) :=
  if k.op = .cpym then ((k.members.filter (fun m => !away.contains m && (only.getD m == m))).map some) else [none]

/-- Whether the router of a cell refuses the pieces of a grid: the cell does not run it (R137). -/
def State.refuses (s : State) (g : Nat) : Loc → Bool
  | .port d _ => (s.cell d).grid != some g
  | _ => false

/-- A piece landed at its destinations in turn: how many took it, whether poison was met, the members that refused it,
and the translation now held. A piece lands at all or none of them in a step: where a later one has to wait for room in
its trace ring, the state waits from which the piece set out, `s0`. -/
def State.landAll (s0 s : State) (k : Cmd) (held : Option PieceXl) (n dst data : Nat) (bad : Bool) :
    List (Option Nat) → Except Halt (Nat × Bool × List (Option Nat) × Option PieceXl × State)
  | [] => .ok (0, bad, [], held, s)
  | m :: rest =>
    let p : Except Halt (Loc × Bool × Option PieceXl × State) :=
      match m with
      | some c => .ok (.port c (dst % 2 ^ 18), false, held, s)
      | none => s.copyPlace k held (k.space true) dst (if k.op = .cpyr then 2 else 1)
    match p with
    | .error h => .error h
    | .ok (loc, ue, held, s1) =>
      if s1.refuses k.gid loc then
        match State.landAll s0 s1 k held n dst data bad rest with
        | .error h => .error h
        | .ok (j, q, l, held, t) => .ok (j, q, m :: l, held, t)
      else
        match s1.landAt k loc n data dst (bad || (k.op == .cpyr && ue)) with
        | .error (.wait t) => .error (.wait (if k.op = .cpym then
            s0.ringTry (k.access (asidOf (s0.lr k.gid)) loc n .binit).writer loc 4 else t))
        | .error h => .error h
        | .ok (q, s2) =>
          let at_ := match loc with | .port d _ => d | _ => k.cell
          let s3 := if bit k.arg 447 then s2.send k.cell (.count at_ (fld k.arg 401 384) n k.gid k.msgid) else s2
          match State.landAll s0 s3 k held n dst data bad rest with
          | .error h => .error h
          | .ok (j, q', l, held, t) => .ok (j + 1, q || q', l, held, t)

/-- What a step of a copy does to its next piece. -/
inductive Piece
  /-- an element passed that needs no move, or a piece read: the progress -/
  | went (w : Work) (s : State)
  /-- a piece landed: the progress, bytes, poison met, destinations that refused it, and the die of one that took it -/
  | landed (w : Work) (bytes : Nat) (bad : Bool) (refused : List (Option Nat)) (die : Nat) (s : State)
  | waits (s : State)
  | fails (status addr : Nat) (s : State)

/-- The accesses that the source of a piece makes, at home slices one for each line that it spans: their slots and flits
taken and counted; none while they are spent (R85, R383). -/
def State.sourceUse (s : State) (k : Cmd) (held : Option PieceXl) (src : Option Nat) (n : Nat) : Option State :=
  match src with
  | none => some s
  | some a =>
      let z := a + n * k.z - 1
      (if k.space false ≠ 0 ∨ a / 64 = z / 64 then [a] else [a, z / 64 * 64]).foldl (fun s va => s.bind (fun s =>
        match s.copyPlace k held (k.space false) va 0 with
        | .ok (loc, _, _, t) => t.homeUse (k.access (asidOf (s.lr k.gid)) loc 1 .binit)
        | .error _ => some s)) (some s)

/-- The next piece of a copy read (R117, R122, R125, R130, R383). -/
def State.pieceRead (s : State) (k : Cmd) (w : Work) : Piece :=
  let j := k.rowOf w.pos
  let w0 : Work := if k.table then { w with row := some (j, s.rowIdx k w j) } else w
  match s.copyEl k w0 w.pos with
  | .skip => .went { w0 with pos := w.pos + 1 } s
  | .bad st a => .fails st a s
  | .move src dst =>
    let n := s.copyRun k w0 src dst 64 1
    let r : Except Halt (Nat × Bool × Option PieceXl × State) :=
      match src with
      | none => .ok (0, false, w.src, s)
      | some a => s.readEls k w.src (k.space false) a k.z n
    match r with
    | .error (.wait t) => .waits t
    | .error (.fail st a t) => .fails st a t
    | .ok (data, bad, held, s1) =>
      match (s1.slot k.gid (dieOf k.cell) .tongs).bind (fun t => t.sourceUse k held src n) with
      | none => .waits s
      | some s2 =>
        let last := k.rowOf (w.pos + n - 1)
        let idxBad := k.table && (List.range (last + 1 - j)).any (fun i =>
          w.row.map (·.1) != some (j + i) && s.bad (padKey k.cell (k.idxOff (j + i))) 4)
        .went { w0 with
          row := if k.table then some (last, s.rowIdx k w0 last) else none
          src := held
          got := some { els := n, data := data, bad := bad || idxBad, dst := dst } } s2

/-- The piece in hand of a copy lands (R117, R125, R128, R137). -/
def State.pieceLand (s : State) (k : Cmd) (w : Work) (g : Got) (away : List Nat) (only : Option Nat) : Piece :=
  match State.landAll s s k w.dst (g.els * k.z) g.dst g.data g.bad (k.dests away only) with
  | .error (.wait t) => .waits t
  | .error (.fail st a t) => .fails st a t
  | .ok (j, q, l, held, t) =>
    let b := j * g.els * k.z
    let die := match held with
      | some h => if k.space true = 0 ∧ h.e.mtype ≠ 2 then homeDie (h.e.pa g.dst) else dieOf k.cell
      | none => if isPad (k.space true) then dieOf (formCell k.cell (k.space true) g.dst)
                else if k.space true = 4 then fld (g.dst / 2 ^ 23) 16 14 else dieOf k.cell
    .landed { w with dst := held, got := none, pos := w.pos + g.els, landed := w.landed + b } b q l die t

/-- A step of a copy: its next piece read, or the piece in hand landed; between the two other agents may write. Its
pieces land in the order of R122, and each is read after the earlier ones have landed (R117, R132, log 85). -/
def State.piece (s : State) (k : Cmd) (w : Work) (away : List Nat) (only : Option Nat) : Piece :=
  match w.got with
  | none => s.pieceRead k w
  | some g => s.pieceLand k w g away only

/-! ### Channels -/

/-- A channel whose command has stopped or passed every element, and whose pieces are acknowledged,
completes it: its token is on the way (R117, R125). -/
def State.chanEnd (s : State) (c ch : Nat) : State :=
  let h := (s.cell c).chan ch
  match h.cmd with
  | none => s
  | some k =>
    if h.done ∨ h.out ≠ 0 ∨ (h.stop.isNone ∧ (!k.started ∨ h.w.got.isSome ∨ h.w.pos < k.total)) then s
    else
      let st := match h.stop with
        | some x => x.1
        | none => if h.away.isEmpty then (if h.poisoned then 0x30 else 0) else 1
      (s.setChan c ch { h with done := true, w := h.w.free }).send k.cell
        (.token { cmd := k, status := st, val := h.w.landed % 2 ^ 48, chan := some ch })

/-- The started form of a channel's command: its checks made. One that they refuse keeps address 0 (R117, R122, R123,
R125, log 86). -/
def State.chanStart (s : State) (c ch : Nat) (k : Cmd) : State :=
  let k1 := { k with started := true }
  let h := { (s.cell c).chan ch with addr := 0 }
  match k1.preStatus (s.lr k.gid) with
  | none => s.setChan c ch { h with cmd := some k1 }
  | some st => (s.setChan c ch { h with cmd := some k1, stop := some (st, 0) }).chanEnd c ch

/-- A channel whose command waits for the release before its first read (R117, R122). -/
def State.toStart (s : State) (c : Nat) : Option (Nat × Cmd) :=
  [0, 1, 2, 3].findSome? (fun ch => ((s.cell c).chan ch).cmd.bind (fun k =>
    if !k.started && s.released k then some (ch, k) else none))

/-- The channel that a command may take: the one it names, or the lowest idle one (R116). -/
def Cell.chanFor (x : Cell) (k : Cmd) : Option Nat :=
  match k.chan with
  | some n => if (x.chan n).cmd.isNone then some n else none
  | none => [0, 1, 2, 3].find? (fun n => (x.chan n).cmd.isNone)

/-- TONGS_COMMAND_START: a command whose release is complete starts; or the head leaves the queue for its
channel, or is discarded by its guard (R116, R117, R287). -/
def execTongsCommandStart (c : Nat) (s : State) : Out :=
  match s.toStart c with
  | some (ch, k) => .next (s.chanStart c ch k)
  | none =>
    match (s.cell c).tongs with
    | [] => .next s
    | k :: _ =>
      match s.verdict k with
      | none => .next s
      | some false => .next ((s.popQueue c .tongs).complete k 3 0)
      | some true =>
        match (s.cell c).chanFor k with
        | none => .next s
        | some ch =>
          let s1 := (s.popQueue c .tongs).setChan c ch
            { cmd := some k, status := ((s.cell c).chan ch).status, addr := ((s.cell c).chan ch).addr }
          .next (if s1.released k then s1.chanStart c ch k else s1)

/-- The pending copies of refused destinations, in their grid's save state (R137). -/
def savePend (k : Cmd) (w : Work) (l : List (Option Nat)) (g : Grid) : Grid :=
  { g with pend := g.pend ++ l.map (fun m => { cmd := k, w := { w.free with got := none }, only := m }) }

/-- TONGS_PIECE_LAND: the next piece of a channel is read, or the piece that it has read lands (R117, R122, R125, R128,
R137). -/
def execTongsPieceLand (c ch : Nat) (s : State) : Out :=
  let h := (s.cell c).chan ch
  match h.cmd with
  | none => .next s
  | some k =>
    if !k.started ∨ h.stop.isSome ∨ h.done ∨ k.total ≤ h.w.pos then .next (s.chanEnd c ch)
    else
      match s.piece k h.w h.away none with
      | .waits t => .next t
      | .fails st a t => .next ((t.setChan c ch { h with stop := some (st, a) }).chanEnd c ch)
      | .went w t => .next ((t.setChan c ch { h with w := w }).chanEnd c ch)
      | .landed w b bad l die t =>
        let h1 := { h with w := w, poisoned := h.poisoned || bad }
        let t1 := if l.isEmpty then t else t.mapGrid k.gid (savePend k h.w l)
        if l = [none] then .next ((t1.setChan c ch { h with stop := some (1, 0) }).chanEnd c ch)
        else
          let away := h.away ++ l.filterMap id
          let w2 := if k.op = .cpym ∧ (k.dests away none).isEmpty then { w with pos := k.total } else w
          let h2 := { h1 with away := away, w := w2 }
          if b = 0 then .next ((t1.setChan c ch h2).chanEnd c ch)
          else .next ((t1.setChan c ch { h2 with out := h2.out + 1 }).send c (.pieceAck c ch b die))

/-- TONGS_PIECE_ACK: an acknowledgement reaches its channel; after the last the token is written
(R117). -/
def execTongsPieceAck (k : Nat) (s : State) : Out :=
  match s.flight k with
  | some ⟨_, _, .pieceAck c ch _ _⟩ =>
    let h := (s.cell c).chan ch
    .next (((s.land k).setChan c ch { h with out := h.out - 1 }).chanEnd c ch)
  | _ => .next s

/-! ### Pending copies (R137, R138) -/

/-- PENDING_COPY_REPLAY: when every cell that the first pending copy names runs the grid again, its next
piece lands; no token is written (R137, R138). DESIGN CHOICE (log 108): R137 does not say what a replayed remainder that
fails (a translation, DEAD, INDEX) does; the rest of it is dropped, and a detached command counts the failure in TONGS_DETERR
of its issuing cell. -/
def execPendingCopyReplay (gid : Nat) (s : State) : Out :=
  match (look s.grids gid).map (fun g => (g.pend, g.resid)) with
  | some (p :: rest, Resid.running) =>
    let rest_ (t : State) : State := t.mapGrid gid (fun g => { g with pend := rest })
    let goes (w : Work) (t : State) : State := t.mapGrid gid (fun g => { g with pend := { p with w := w } :: rest })
    if p.cmd.total ≤ p.w.pos then .next (rest_ s)
    else if (s.pendCells p).any (fun c => (s.cell c).grid != some gid) then .next s
    else
      match s.piece p.cmd p.w [] p.only with
      | .waits t => .next t
      | .fails st _ t => .next (if p.cmd.tok.isNone && st != 0x30 then (rest_ t).countFor gid p.cmd.cell 5 else rest_ t)
      | .went w t => .next (goes w t)
      | .landed w _ _ l _ t => if l.isEmpty then .next (goes w t) else .next s
  | _ => .next s

/-! ### Issue (R118, R126) -/

/-- A copy command issued: descriptor and entries captured (R118, R126). -/
def State.issueCopy (s : State) (op : CmdOp) (g : BitVec 4) (a b : RegSpec) (det : Bool) (chan : Option (BitVec 2))
    (ta tb : BitVec 12) (cnt : Nat) : State :=
  if s.holder then s.trap .asetIrrev 0 0
  else
    match s.descr (s.rd b) 64 64 with
    | .error t => t
    | .ok d =>
      let tm := bit d 423
      s.enqueue { s.cmd op g a det ((scopeOf (fld d 427 424)).getD .cell) d with
        ea := if tm then s.tid ta.toNat else 0
        eb := if tm then s.tid tb.toNat else 0
        ta := ta.toNat
        tb := tb.toNat
        cnt := cnt
        chan := chan.map (·.toNat) }

/-- CPY (R127). -/
def execCpy (x : CpyR) (s : State) : Out := .next (s.issueCopy .cpy x.g x.a x.b x.det x.chan x.ta x.tb 0)

/-- CPYM (R128). -/
def execCpym (x : CpymR) (s : State) : Out :=
  .next (s.issueCopy .cpym x.g x.a x.b x.det x.chan x.ta x.tb (x.lw.toNat * 8 + x.lh.toNat))

/-- CPYR (R129). -/
def execCpyr (x : CpyR) (s : State) : Out := .next (s.issueCopy .cpyr x.g x.a x.b x.det x.chan x.ta x.tb 0)

/-- CPYG (R130). -/
def execCpyg (x : CpygR) (s : State) : Out := .next (s.issueCopy .cpyg x.g x.a x.b x.det x.chan 0 0 0)

/-- CPYS (R130). -/
def execCpys (x : CpygR) (s : State) : Out := .next (s.issueCopy .cpys x.g x.a x.b x.det x.chan 0 0 0)

/-! ### CHAN (R131); a task that holds a set may not issue it (class 0x0A of R174) -/

/-- CHAN read. -/
def execChanRead (x : ChanR) (s : State) : Out :=
  .next (s.irrev 0 (s.finish x.a (BitVec.ofNat 64 ((s.cell s.cur.cell).chanWord x.ch.toNat))))

/-- CHAN addr. -/
def execChanAddr (x : ChanR) (s : State) : Out :=
  .next (s.irrev 0 (s.finish x.a (BitVec.ofNat 64 ((s.cell s.cur.cell).chan x.ch.toNat).addr)))

/-- CHAN abort: the running command stops at its next piece boundary, and A is written once it has
completed. -/
def execChanAbort (x : ChanR) (s : State) : Out :=
  let c := s.cur.cell
  let ch := x.ch.toNat
  let h := (s.cell c).chan ch
  if s.holder then .next (s.trap .asetIrrev 0 0)
  else
  match h.cmd with
  | none => .next (s.finish x.a (BitVec.ofNat 64 ((s.cell c).chanWord ch)))
  | some _ =>
    .next ((((s.mapB (fun b => addPend b x.a)).setChan c ch
      { h with stop := h.stop.orElse (fun _ => some (2, 0)), waits := h.waits ++ [(s.cur.hi, s.act, x.a)] }).chanEnd c ch).retire)

end Sys2Proof.Machine
end

