-- ==== Sys2Proof/Machine/Gen.lean ====
section
/-!
DEFINITION. Machine/Gen.lean: the generation unit (14 R330 to R344, R479): the sampler and its noise, the
merge of candidate lists, grammars, and the commands of class 0x1B that enter the generation queue.
-/

namespace Sys2Proof.Machine

/-! ### Results -/

/-- What a generation command leaves: a status, the low 48 bits of its token where they are stated, and
writes of its cell's scratchpad as offset, bytes and data. -/
structure GenRes where
  status : Nat
  val : Option Nat := none
  outs : List (Nat × Nat × Nat) := []
deriving DecidableEq, Repr

/-- A result that writes nothing. -/
def GenRes.fails (status : Nat) : GenRes := { status := status }

/-- A pair of R335. -/
def genPair (v idx : Nat) : Nat := v % 2 ^ 32 + idx % 2 ^ 32 * 2 ^ 32

/-- The pair that stands for no element. -/
def noPair : Nat := genPair 0xFF800000 0xFFFFFFFF

/-- Pairs as the bytes of an output. -/
def pairBytes (l : List Nat) : Nat := l.foldr (fun p acc => p + 2 ^ 64 * acc) 0

/-- A list of pairs filled up to a number of them (R335, R337). -/
def fillPairs (n : Nat) (l : List (Nat × Nat)) : List Nat :=
  (List.range n).map (fun i => match l[i]? with | some p => genPair p.1 p.2 | none => noPair)

/-! ### Order of candidates (R333) -/

/-- Whether a candidate stands before another: value descending, −0 equal to +0, then index ascending. -/
def candBefore (p q : Nat × Nat) : Bool :=
  match Num.cmp (decodeF fmt32 p.1) (decodeF fmt32 q.1) with
  | some .gt => true
  | some .lt => false
  | _ => decide (p.2 < q.2)

/-- A candidate put at its place. -/
def insertCand (p : Nat × Nat) : List (Nat × Nat) → List (Nat × Nat)
  | [] => [p]
  | q :: r => if candBefore p q then p :: q :: r else q :: insertCand p r

/-- The first `n` in candidate order. -/
def topCands (n : Nat) (l : List (Nat × Nat)) : List (Nat × Nat) :=
  l.foldl (fun acc p => (insertCand p acc).take n) []

/-- Whether an FP32 pattern is finite and above zero. -/
def posFinite (x : Nat) : Bool :=
  (decodeF fmt32 x).isFinite && Num.cmp (decodeF fmt32 0) (decodeF fmt32 x) == some .lt

/-- Whether an FP32 value is at least another. -/
def f32ge (x y : Nat) : Bool :=
  match Num.cmp (decodeF fmt32 x) (decodeF fmt32 y) with
  | some .lt => false
  | some _ => true
  | none => false

/-- Whether an FP32 value is above another. -/
def f32gt (x y : Nat) : Bool := Num.cmp (decodeF fmt32 x) (decodeF fmt32 y) == some .gt

/-! ### Noise (R334) -/

/-- The counter hash. -/
def genHash (seed seqid pos idx : Nat) : Nat :=
  let w (a b : Nat) : Nat := a * b % 2 ^ 64
  let sh (x : Nat) : Nat := Nat.xor x (x / 2 ^ 33)
  let x0 := Nat.xor (Nat.xor (Nat.xor seed (w seqid 0x9E3779B97F4A7C15)) (w pos 0xC2B2AE3D27D4EB4F)) (w idx 0x165667B19E3779F9)
  sh (w (sh (w (sh x0) 0xFF51AFD7ED558CCD)) 0xC4CEB9FE1A85EC53)

/-- The uniform value of a hash. -/
def genUnif (h : Nat) : Nat := rne fmt32 (.fin false (2 * (h / 2 ^ 40) + 1) (-25) false)

/-- The noise of a hash. -/
def genNoise (h : Nat) : Nat :=
  f32op .mul 0xBF317218 (log2Tab (f32op .mul 0xBF317218 (log2Tab (genUnif h))))

/-! ### SMPL (R332, R333, R335, R336) -/

/-- MODE. -/
def smMode (d : Nat) : Nat := fld d 107 105
/-- The number of candidates. -/
def smCands (d : Nat) : Nat := fld d 114 108 + 1
/-- The hash of an index under a parameter block. -/
def smHash (d idx : Nat) : Nat := genHash (fld d 447 384) (fld d 383 352) (fld d 351 320) idx

/-- DESC for the parameter block (R332). -/
def smBad (d : Nat) : Bool :=
  let m := smMode d
  fld d 103 0 != 0 || decide (4 < m) || decide (64 < smCands d) || fld d 159 142 % 8 != 0 || fld d 141 124 % 8 != 0 ||
    decide (256 < fld d 123 115) || (m == 2 && decide (64 < fld d 123 115)) || (m != 0 && !posFinite (fld d 511 480)) ||
    (m == 1 && fld d 479 448 != 0x3F800000) || (m == 4 && !posFinite (fld d 191 160))

/-- Bytes of the output. -/
def smOut (d : Nat) : Nat := if smMode d = 2 then 8 * smCands d else 8

/-- The element size of a shard. -/
def smZ (e : Nat) : Nat := if tFmt e = 8 then 4 else 2

/-- RANGE for the elements: one leaves the form of its space, or names another cell than BASE (R343). -/
def smRange (e : Nat) : Bool :=
  let a := tAddr e 0 0 0 0
  let z := a + tDim e 0 * smZ e - 1
  !(fitsForm (tSpace e) a && fitsForm (tSpace e) z) ||
    (isPad (tSpace e) && (a / 2 ^ 18 != tBase e / 2 ^ 18 || z / 2 ^ 18 != tBase e / 2 ^ 18))

/-- The statuses found before the shard is read, in the order of R343: 0 for none. -/
def smStatus (k : Cmd) : Nat :=
  let d := k.arg
  let e := k.ea
  if smBad d then 0x90
  else if !inPad (fld d 141 124) (smOut d) || (bit d 104 && !inPad (fld d 159 142) ((tDim e 0 + 7) / 8)) then 0x94
  else if !tValid e then 0x93
  else if tRank e != 1 || (tFmt e != 8 && tFmt e != 10) || tScMode e != 0 || tDim e 0 == 0 || decide (262144 < tDim e 0) then 0x92
  else if 0xFFFFFFFF < fld d 319 288 + tDim e 0 then 0x90
  else if smRange e then 0x94
  else 0

/-! ### Reads of the unit (R86, R330, R343) -/

/-- The 64-bit words at a place read by an engine, `n` of them, with a mask of the poisoned ones. -/
def State.wordsAt (s : State) (k : Cmd) (loc : Loc) (a : Nat) : Nat → Except Halt (Nat × Nat × State)
  | 0 => .ok (0, 0, s)
  | n + 1 =>
    match s.engineRead k loc 8 a with
    | .error h => .error h
    | .ok (v, p, s1) =>
      match s1.wordsAt k (loc.plus 8) (a + 8) n with
      | .error h => .error h
      | .ok (w, m, s2) => .ok (v + 2 ^ 64 * w, 2 * m + (if p then 1 else 0), s2)

/-- A 64-byte block read for the command at the head of the queue: its translation, its slots and its bytes; the unit
waits for the step in which it computes with them (R70, R85, R86, R343, R383). -/
def State.gfetch (s : State) (k : Cmd) (space b : Nat) : Halt :=
  match s.copyPlace k none space b 0 with
  | .error h => h
  | .ok (loc, ue, _, s1) =>
    match s1.homeUse (k.access (asidOf (s.lr k.gid)) loc 64 .binit) with
    | none => .wait s
    | some s2 =>
      match s2.wordsAt k loc b 8 with
      | .error h => h
      | .ok (v, m, s3) =>
        .wait (s3.mapCell k.cell (fun x => { x with
          gbuf := x.gbuf ++ [{ space := space, addr := b, data := v, bad := if ue then 255 else m }] }))

/-- `n` bytes of a space from the blocks that have been read, the first missing one being read; poison stops the read
(R330, R333, R343). -/
def State.gread (s : State) (k : Cmd) (space : Nat) : Nat → Nat → Except Halt Nat
  | 0, _ => .ok 0
  | n + 1, a =>
    match (s.cell k.cell).gbuf.find? (fun l => l.space == space && l.addr == a / 64 * 64) with
    | none => .error (s.gfetch k space (a / 64 * 64))
    | some l =>
      if bit l.bad (a % 64 / 8) then .error (.fail 0x30 a s)
      else
        match s.gread k space n (a + 1) with
        | .error h => .error h
        | .ok v => .ok (fld l.data (8 * (a % 64) + 7) (8 * (a % 64)) + 256 * v)

/-- Elements in order (R333). -/
def State.shard (s : State) (k : Cmd) (space z : Nat) : Nat → Nat → Except Halt (List Nat)
  | 0, _ => .ok []
  | n + 1, a =>
    match s.gread k space z a with
    | .error h => .error h
    | .ok v =>
      match s.shard k space z n (a + z) with
      | .error h => .error h
      | .ok l => .ok (v :: l)

/-- The legal elements as FP32 values with their global indices (R333). -/
def smLegal (m : List Host.Cell) (k : Cmd) (vals : List Nat) : List (Nat × Nat) :=
  let d := k.arg
  let ok (i : Nat) : Bool := !bit d 104 || bit (memGet m (padKey k.cell (fld d 159 142 + i / 8))).toNat (i % 8)
  (List.range vals.length).zip vals |>.filterMap (fun (i, v) =>
    let x := if tFmt k.ea = 8 then v else v * 2 ^ 16
    if !(decodeF fmt32 x).isNan && ok i then some (x, fld d 319 288 + i) else none)

/-- The weight of a tempered logit (R333). -/
def smWeight (d y : Nat) : Nat := expTab (f32op .sub y (fld d 287 256))

/-- The mass of a set in increasing index (R335). -/
def smMass (d : Nat) (l : List (Nat × Nat)) : Nat := l.foldl (fun acc p => f32op .add acc (smWeight d p.1)) 0

/-- The set S of MASS and PICK, in increasing index (R335). -/
def smSet (d : Nat) (l : List (Nat × Nat)) : List (Nat × Nat) :=
  if fld d 255 224 = 0xFF800000 then l
  else
    let c := (topCands (smCands d) l).filter (fun p => f32ge p.1 (fld d 255 224))
    l.filter c.contains

/-- The walk of PICK to its element (R335). -/
def smWalk (d r2 acc : Nat) : List (Nat × Nat) → Option (Nat × Nat)
  | [] => none
  | p :: r =>
    let a := f32op .add acc (smWeight d p.1)
    if f32gt a r2 || r.isEmpty then some p else smWalk d r2 a r

/-- The element that PICK takes (R335). -/
def smPick (d : Nat) (l : List (Nat × Nat)) : Option (Nat × Nat) :=
  let total := fld d 191 160
  let r0 := f32op .mul (genUnif (smHash d 0xFFFFFFFF)) total
  let r := if f32ge r0 total then total - 1 else r0
  let off := fld d 223 192
  if f32ge r off && f32gt (f32op .add off (smMass d l)) r then smWalk d (f32op .sub r off) 0 l else none

/-- The largest key, on equal keys the smaller index; where a key is a NaN the order is not stated, and a
free number picks the element (R335, log 7). -/
def argmaxKey (free : Nat) (l : List (Nat × Nat)) : Option (Nat × Nat) :=
  if l.any (fun p => (decodeF fmt32 p.1).isNan) then l[free % l.length]? else (topCands 1 l).head?

/-- SMPL on its legal elements (R335, R336). -/
def smResult (d free : Nat) (legal : List (Nat × Nat)) : GenRes :=
  let off := fld d 141 124
  let one (p : Option (Nat × Nat)) : GenRes :=
    match p with
    | some p => { status := 0, val := some p.2, outs := [(off, 8, genPair p.1 p.2)] }
    | none => { status := 0, val := some 0xFFFFFFFF, outs := [(off, 8, noPair)] }
  let m := smMode d
  if m ≤ 2 ∧ legal.isEmpty then
    { status := 0x91, val := some 0xFFFFFFFF
      outs := [(off, smOut d, pairBytes (fillPairs (smOut d / 8) []))] }
  else if m = 0 then one (argmaxKey free legal)
  else
    let ys := legal.map (fun p => (f32op .div p.1 (fld d 511 480), p.2))
    match m with
    | 1 =>
      let pool := if fld d 123 115 = 0 then ys else topCands (fld d 123 115) ys
      one (argmaxKey free (pool.map (fun p => (f32op .add p.1 (genNoise (smHash d p.2)), p.2))))
    | 2 =>
      let c := topCands (smCands d) ys
      { status := 0, val := some c.length, outs := [(off, smOut d, pairBytes (fillPairs (smCands d) c))] }
    | 3 =>
      let x := smMass d (smSet d ys)
      { status := 0, val := some x, outs := [(off, 8, x)] }
    | _ => one (smPick d (smSet d ys))

/-- SMPL (R332 to R336, R343). -/
def State.runSmpl (s : State) (k : Cmd) : Except Halt (GenRes × State) :=
  let st := smStatus k
  if st ≠ 0 then .ok (.fails st, s)
  else
    match s.shard k (tSpace k.ea) (smZ k.ea) (tDim k.ea 0) (tAddr k.ea 0 0 0 0) with
    | .error h => .error h
    | .ok vals =>
      let n := (vals.length + 7) / 8
      if bit k.arg 104 && s.bad (padKey k.cell (fld k.arg 159 142)) n then .ok (.fails 0x30, s)
      else
        let f := s.freeVal
        .ok (smResult k.arg f.1 (smLegal s.mem k vals), f.2)

/-! ### TOPK (R337, R479) -/

/-- K. -/
def tkOut (d : Nat) : Nat := fld d 366 358 + 1

/-- DESC (R337). -/
def tkBad (d : Nat) : Bool :=
  let p := fld d 511 480
  let so := fld d 415 398
  let dd := fld d 397 380
  let n := fld d 379 367
  fld d 357 0 != 0 || !f32gt p 0 || f32gt p 0x3F800000 || so % 8 != 0 || dd % 8 != 0 || n == 0 || decide (4096 < n) ||
    decide (256 < tkOut d) || !inPad so (8 * n) || !inPad dd (8 * tkOut d) ||
    (decide (so < dd + 8 * tkOut d) && decide (dd < so + 8 * n))

/-- The valid source pairs. -/
def tkPairs (m : List Host.Cell) (k : Cmd) : List (Nat × Nat) :=
  (List.range (fld k.arg 379 367)).filterMap (fun j =>
    let x := memRead m (padKey k.cell (fld k.arg 415 398 + 8 * j)) 8
    if fld x 63 32 = 0xFFFFFFFF ∨ (decodeF fmt32 (fld x 31 0)).isNan then none else some (fld x 31 0, fld x 63 32))

/-- The cut of R337 over the pairs written: the running sum, and the value at which it reaches the target. -/
def tkCut (d target c last : Nat) : List (Nat × Nat) → Nat
  | [] => last
  | p :: r =>
    let c1 := f32op .add c (expTab (f32op .sub p.1 (fld d 479 448)))
    if f32ge c1 target then p.1 else tkCut d target c1 last r

/-- TOPK (R337, R479). -/
def State.runTopk (s : State) (k : Cmd) : GenRes :=
  let d := k.arg
  if tkBad d then .fails 0x90
  else if s.bad (padKey k.cell (fld d 415 398)) (8 * fld d 379 367) then .fails 0x30
  else
    let w := topCands (tkOut d) (tkPairs s.mem k)
    let last := (w.getLast?.map (·.1)).getD 0xFF800000
    let cut := if f32gt (fld d 447 416) 0 && f32gt 0x3F800000 (fld d 511 480) then
        tkCut d (f32op .mul (fld d 511 480) (fld d 447 416)) 0 last w else last
    { status := 0
      val := some ((w.filter (fun p => f32ge p.1 cut)).length * 2 ^ 32 + cut)
      outs := [(fld d 397 380, 8 * tkOut d, pairBytes (fillPairs (tkOut d) w))] }

/-! ### Grammars (R340 to R342) -/

/-- DESC (R340, R341). -/
def gmBad (d : Nat) (mask : Bool) : Bool :=
  let nv := fld d 379 362
  fld d 329 0 != 0 || fld d 511 448 % 64 != 0 || fld d 447 430 % 8 != 0 ||
    (mask && (fld d 429 412 % 8 != 0 || decide (nv < 8) || decide (131072 < nv) || nv % 8 != 0))

/-- `n` bytes of global memory, poison being a failure (R151, R343). -/
def State.gmRead (s : State) (k : Cmd) (a n : Nat) : Except Halt Nat := s.gread k 0 n (a % 2 ^ 64)

/-- STATE, DEPTH and the top of a command's stack block (R341). -/
def State.stack (s : State) (k : Cmd) : Nat × Nat × Nat :=
  let so := fld k.arg 447 430
  let w := memRead s.mem (padKey k.cell so) 8
  let depth := fld w 47 32
  (fld w 31 0, depth, if depth = 0 then 0 else memRead s.mem (padKey k.cell (so + 8 + 2 * (depth - 1))) 2)

/-- The header and stack of a grammar command, or the status that ends it (R340 to R343). -/
def State.grammar (s : State) (k : Cmd) (mask : Bool) : Except Halt (Nat × Nat × Nat × Nat) :=
  let d := k.arg
  let so := fld d 447 430
  if gmBad d mask then .error (.fail 0x90 0 s)
  else if !inPad so 520 || (mask && !inPad (fld d 429 412) (fld d 379 362 / 8)) then .error (.fail 0x94 0 s)
  else
    let st := s.stack k
    if s.bad (padKey k.cell so) 8 || (st.2.1 != 0 && decide (st.2.1 ≤ 256) && s.bad (padKey k.cell (so + 8 + 2 * (st.2.1 - 1))) 2) then
      .error (.fail 0x30 0 s)
    else
      match s.gmRead k (fld d 511 448) 64 with
      | .error h => .error h
      | .ok h =>
        if fld h 223 192 ≤ st.1 ∨ 256 < st.2.1 ∨ fld h 239 224 ≤ st.2.2 then .error (.fail 0x95 0 s) else .ok (h, st)

/-- GMASK: the slice of the mask row (R342). -/
def State.runGmask (s : State) (k : Cmd) : Except Halt GenRes :=
  match s.grammar k true with
  | .error h => .error h
  | .ok (h, st, _, top) =>
    let v := fld h 287 256
    let lo := fld k.arg 411 380
    let nv := fld k.arg 379 362
    let hi := Nat.min (lo + nv) v
    let row := fld h 191 128 + (st * fld h 239 224 + top) * ((v + 511) / 512 * 64)
    let res (bits : Nat) : GenRes := { status := 0, outs := [(fld k.arg 429 412, nv / 8, bits)] }
    if hi ≤ lo then .ok (res 0)
    else
      match s.gmRead k (row + lo / 8) ((hi + 7) / 8 - lo / 8) with
      | .error h => .error h
      | .ok x => .ok (res (x / 2 ^ (lo % 8) % 2 ^ (hi - lo)))

/-- The binary search of GSTEP (R342). -/
def State.gmSearch (s : State) (k : Cmd) (tr first token : Nat) : Nat → Nat → Nat → Except Halt (Option Nat)
  | 0, _, _ => .ok none
  | f + 1, lo, hi =>
    if hi ≤ lo then .ok none
    else
      let mid := (lo + hi) / 2
      match s.gmRead k (tr + 8 * (first + mid)) 8 with
      | .error h => .error h
      | .ok x =>
        if fld x 63 32 = token then .ok (some x)
        else if fld x 63 32 < token then s.gmSearch k tr first token f (mid + 1) hi
        else s.gmSearch k tr first token f lo mid

/-- GSTEP on the entry found (R342). -/
def gmStep (k : Cmd) (nsym depth : Nat) : Option Nat → GenRes
  | none => .fails 0x98
  | some x =>
    let act := fld x 11 10
    let so := fld k.arg 447 430
    let fin (d : Nat) (more : List (Nat × Nat × Nat)) : GenRes :=
      { status := 0, val := some (act * 2 ^ 32 + fld x 31 12), outs := more ++ [(so, 6, d * 2 ^ 32 + fld x 31 12)] }
    if act = 1 then
      (if fld x 9 0 = 0 ∨ nsym ≤ fld x 9 0 then .fails 0x95
       else if depth = 256 then .fails 0x96
       else fin (depth + 1) [(so + 8 + 2 * depth, 2, fld x 9 0)])
    else if act = 2 then (if depth = 0 then .fails 0x97 else fin (depth - 1) [])
    else fin depth []

/-- GSTEP (R342). -/
def State.runGstep (s : State) (k : Cmd) : Except Halt GenRes :=
  match s.grammar k false with
  | .error h => .error h
  | .ok (h, st, depth, _) =>
    match s.gmRead k (fld h 63 0 + 8 * st) 8 with
    | .error h => .error h
    | .ok x =>
      match s.gmSearch k (fld h 127 64) (fld x 63 32) (fld k.arg 361 330) 34 0 (fld x 31 0) with
      | .error h => .error h
      | .ok e => .ok (gmStep k (fld h 239 224) depth e)

/-! ### The queue (R330) -/

/-- A generation command's result. -/
def State.runGen (s : State) (k : Cmd) : Except Halt (GenRes × State) :=
  match k.op with
  | .smpl => s.runSmpl k
  | .topk => .ok (s.runTopk k, s)
  | .gmask => (s.runGmask k).map (·, s)
  | _ => (s.runGstep k).map (·, s)

/-- The writes of a result, then its token; what its token holds beside the status is free where it is
not stated (R343, log 7). -/
def State.genDone (s : State) (k : Cmd) (r : GenRes) : State :=
  let s1 := r.outs.foldl (fun s (off, n, data) => s.cmdWrite k off n data) s
  match r.val with
  | some v => s1.complete k r.status v
  | none => let f := s1.freeVal
            f.2.complete k r.status f.1

/-- Whether the token of a generation command of a cell is still to be written. -/
def State.genEnding (s : State) (c : Nat) : Bool :=
  s.fly.any (fun f => match f.f with | .token t => t.cmd.cell == c && t.cmd.op.queue == .gen | _ => false)

/-- The head of a generation queue gone, and what was read for it. -/
def State.popGen (s : State) (c : Nat) : State := (s.popQueue c .gen).mapCell c (fun x => { x with gbuf := [] })

/-- GEN_COMMAND_START: the head of a generation queue runs, once its issue release is complete and the command before
it has completed with its token: it reads its operands, a block at a time, writes its results and completes (R330, R343). -/
def execGenCommandStart (c : Nat) (s : State) : Out :=
  match (s.cell c).gen with
  | [] => .next s
  | k :: _ =>
    if !s.released k || s.genEnding c then .next s
    else
      match s.runGen k with
      | .error (.wait t) => .next t
      | .error (.fail st _ t) => .next ((t.popGen c).genDone k (.fails st))
      | .ok (r, t) => .next ((t.popGen c).genDone k r)

/-- A generation command issued: its block is captured (R118, R330, R331). -/
def State.issueGen (s : State) (op : CmdOp) (a b : RegSpec) (det : Bool) (e : Nat) : State :=
  if s.holder then s.trap .asetIrrev 0 0
  else
    match s.descr (s.rd b) 64 64 with
    | .error t => t
    | .ok d => s.enqueue { s.cmd op 15#4 a det .die d with ea := e }

/-- SMPL (R331). -/
def execSmpl (x : SmplR) (s : State) : Out := .next (s.issueGen .smpl x.a x.b x.det (s.tid x.tid.toNat))
/-- TOPK (R331). -/
def execTopk (x : GenR) (s : State) : Out := .next (s.issueGen .topk x.a x.b x.det 0)
/-- GMASK (R331). -/
def execGmask (x : GenR) (s : State) : Out := .next (s.issueGen .gmask x.a x.b x.det 0)
/-- GSTEP (R331). -/
def execGstep (x : GenR) (s : State) : Out := .next (s.issueGen .gstep x.a x.b x.det 0)

end Sys2Proof.Machine
end

