-- ==== Sys2Proof/Machine/Bloom.lean ====
section
/-!
DEFINITION. Machine/Bloom.lean: the bloom queue of a cluster (14 R330, R331, R349).
-/

namespace Sys2Proof.Machine

/-- Entries of a bloom queue. -/
def bloomCap : Nat := 256

/-- Whether an entry stands above another: a higher key, or the same key and a smaller node id. -/
def BloomEnt.beats (a b : BloomEnt) : Bool :=
  match Num.cmp (decodeF fmt32 a.key) (decodeF fmt32 b.key) with
  | some .gt => true
  | some .lt => false
  | _ => decide (a.node < b.node)

/-- The entry that no other beats. -/
def bloomTop : List BloomEnt → Option BloomEnt
  | [] => none
  | e :: r => some (r.foldl (fun a b => if b.beats a then b else a) e)

/-- The entry that beats no other. -/
def bloomLow : List BloomEnt → Option BloomEnt
  | [] => none
  | e :: r => some (r.foldl (fun a b => if a.beats b then b else a) e)

/-- A push: what A receives, and the queue. -/
def Cluster.push (x : Cluster) (e : BloomEnt) : Nat × Cluster :=
  if (decodeF fmt32 e.key).isNan then (3, x)
  else if x.bloom.length < bloomCap then (0, { x with bloom := x.bloom ++ [e] })
  else
    match bloomLow x.bloom with
    | none => (1, x)
    | some l => if e.beats l then (2, { x with bloom := x.bloom.erase l ++ [e], drops := x.drops + 1 }) else (1, x)

/-- A pop: what A and C receive, and the queue. -/
def Cluster.pop (x : Cluster) : Nat × Nat × Cluster :=
  match (if x.budget = 0 then none else bloomTop x.bloom) with
  | none => (0xFFFFFFFFFF800000, 0, x)
  | some e => (e.node * 2 ^ 32 + e.key, e.seq, { x with bloom := x.bloom.erase e, budget := x.budget - 1 })

/-- BQSTAT's word. -/
def Cluster.bloomStat (x : Cluster) : Nat :=
  x.drops % 2 ^ 32 * 2 ^ 32 + x.budget % 2 ^ 16 * 2 ^ 16 + x.bloom.length % 512

/-- The code of an operation in a record (R429, log 14). -/
def BloomOp.code : BloomOp → Nat
  | .cfg _ => 0
  | .push _ _ _ => 1
  | .pop _ => 2
  | .stat => 3

/-- What an operation makes: A, C and the queue. -/
def BloomOp.act (o : BloomOp) (x : Cluster) : Nat × Nat × Cluster :=
  match o with
  | .cfg n => (0, 0, { x with bloom := [], budget := n, drops := 0 })
  | .push k n h => let r := x.push { key := k, node := n, seq := h }
                   (r.1, 0, r.2)
  | .pop _ => x.pop
  | .stat => (x.bloomStat, 0, x)

/-- The answer to an operation: its registers, then an acquire. Where one register is named twice its value
is not stated (log 7). -/
def State.bloomAnswer (s : State) (w : Who) (o : BloomOp) (dst : RegSpec) (a c : Nat) : State :=
  let s1 := match o with
    | .pop r => if r = dst then (let f := s.freeVal
                                 (f.2.answerReg w r f.1).answerReg w dst f.1)
                else (s.answerReg w r c).answerReg w dst a
    | _ => s.answerReg w dst a
  if s1.live w.cell w.hi w.act then s1.acquire w.cell .die else s1

/-- Whether an older bloom operation of the same activation is still on its way. -/
def bloomBefore (n act : Nat) (f : Fly) : Bool :=
  decide (f.n < n) && (match f.f with | .bloom w _ _ => w.act == act | _ => false)

/-- BLOOM_QUEUE_ARRIVAL: an operation takes effect at its cluster's queue, those of one task in program
order (R349, R429, R430). -/
def execBloomQueueArrival (k : Nat) (s : State) : Out :=
  match s.flight k with
  | some ⟨n, _, .bloom w o dst⟩ =>
    if (look s.grids w.gid).isNone then .next (s.land k)
    else
      let q := gcluOf w.cell
      let rest := w.msgid * 2 ^ 8 + o.code
      if s.fly.any (bloomBefore n w.act) || s.replayHolds w.gid 22 q rest then .next s
      else
        let r := o.act (s.cluster q)
        .next ((((s.land k).mapCluster q (fun _ => r.2.2)).recordKind w.gid w.cell 22 q rest).bloomAnswer w o dst r.1 r.2.1)
  | _ => .next s

/-- A bloom operation on its way: a holder may not issue one; a release at scope die comes first; its
registers are pending (R174, R330, R349). -/
def State.sendBloom (s : State) (o : BloomOp) (a : RegSpec) : State :=
  if s.holder then s.trap .asetIrrev 0 0
  else
    match s.release .die with
    | .error t => t
    | .ok t =>
      ((t.send t.cur.cell (.bloom t.who o a)).mapB (fun b =>
        addPend (match o with | .pop c => addPend b c | _ => b) a)).retire

/-- BQCFG (R349). -/
def execBqcfg (x : MovR) (s : State) : Out := .next (s.sendBloom (.cfg ((s.rd x.b).toNat % 2 ^ 16)) x.a)
/-- BQPUSH (R349). -/
def execBqpush (x : A3) (s : State) : Out :=
  .next (s.sendBloom (.push (fld (s.rd x.b).toNat 31 0) (fld (s.rd x.b).toNat 63 32) (fld (s.rd x.c).toNat 31 0)) x.a)
/-- BQPOP (R349). -/
def execBqpop (x : AcR) (s : State) : Out := .next (s.sendBloom (.pop x.c) x.a)
/-- BQSTAT (R349). -/
def execBqstat (a : RegSpec) (s : State) : Out := .next (s.sendBloom .stat a)

end Sys2Proof.Machine
end

