-- ==== Sys2Proof/Machine/Collective.lean ====
section
/-!
DEFINITION. Machine/Collective.lean: collectives (14 R345 to R348): the descriptor, joining and matching, the
results by rank, and class 0x1C.
-/

namespace Sys2Proof.Machine

/-! ### The descriptor (R345, R346) -/

/-- Width of the rectangle. -/
def coW (d : Nat) : Nat := 2 ^ fld d 49 47
/-- Height of the rectangle. -/
def coH (d : Nat) : Nat := 2 ^ fld d 46 44
/-- The members in the order of their ranks. -/
def coCells (d : Nat) : List Nat :=
  (List.range (coH d)).flatMap (fun j => (List.range (coW d)).map (fun i => (fld d 55 50 + j) * 128 + fld d 62 56 + i))
/-- N. -/
def coN (d : Nat) : Nat := fld d 127 112
/-- OP. -/
def coOp (d : Nat) : Nat := fld d 39 37
/-- ETYPE. -/
def coTy (d : Nat) : Nat := fld d 43 40
/-- The element size z. -/
def coZ (d : Nat) : Nat := if coOp d = 3 then 8 else codeBytes (coTy d)
/-- SOFF. -/
def coSrc (d : Nat) : Nat := fld d 111 94
/-- DOFF. -/
def coDst (d : Nat) : Nat := fld d 93 76
/-- The rank of a cell. -/
def coRank (d c : Nat) : Nat := (c / 128 - fld d 55 50) * coW d + (c % 128 - fld d 62 56)

/-- The scope of a collective: the narrowest of clus, die and pkg that holds its rectangle. -/
def coScope (d : Nat) : Scope :=
  let a := fld d 55 50 * 128 + fld d 62 56
  let b := (fld d 55 50 + coH d - 1) * 128 + fld d 62 56 + coW d - 1
  if gcluOf a = gcluOf b then .clus else if dieOf a = dieOf b then .die else .pkg

/-- Bytes of the result that a member receives (R347). -/
def coBytes (k : Cmd) : Nat :=
  let d := k.arg
  let nz := coN d * coZ d
  match k.op with
  | .cscan => if bit d 35 then 2 * nz else nz
  | .cgath => if bit d 34 || coRank d k.cell == fld d 75 63 then nz * (coW d * coH d) else 0
  | _ => nz

/-- The operations and codes that a function takes (R347). -/
def coForm (op : CmdOp) (d : Nat) : Bool :=
  let sum := [0, 1, 2, 13, 7, 8].contains (coTy d)
  match op with
  | .cred => if coOp d = 3 then coTy d == 8 else decide (coOp d ≤ 2) && sum
  | .cscan => decide (coOp d ≤ 2) && sum
  | _ => decide (coTy d ≤ 13) && decide (coOp d ≤ 3)

/-- DESC (R346). -/
def coBad (k : Cmd) : Bool :=
  let d := k.arg
  let nz := coN d * coZ d
  fld d 511 128 != 0 || fld d 33 0 != 0 || coN d == 0 || !coForm k.op d || decide (16384 < nz) ||
    (k.op == .cgath && decide (131072 < nz * (coW d * coH d))) || coSrc d % 8 != 0 || coDst d % 8 != 0 ||
    fld d 46 44 == 7 || fld d 62 56 % coW d != 0 || fld d 55 50 % coH d != 0 ||
    ((k.op == .cbc || k.op == .cgath) && decide (coW d * coH d ≤ fld d 75 63)) ||
    !inPad (coSrc d) nz || !inPad (coDst d) (coBytes k)

/-- GRID (R346). -/
def coOut (lr : Nat) (k : Cmd) : Bool :=
  (coCells k.arg).any (fun c => !inRect lr c) || !(coCells k.arg).contains k.cell

/-- What must agree: function, descriptor but for SOFF and DOFF, and guard outcome (R345). -/
def coKey (k : Cmd) : CmdOp × Nat × Nat × Bool := (k.op, k.arg / 2 ^ 112, k.arg % 2 ^ 76, k.started)

/-- The members of a collective: those that its first command names (log 89). -/
def Coll.cells (t : Coll) : List Nat := (t.joined.head?.map (fun j => coCells j.2.arg)).getD []

/-- Whether a collective waits for a cell of a grid: one of its members, which has neither joined nor completed a
command in its stead (R345, R346, log 89). -/
def Coll.awaits (t : Coll) (gid c : Nat) : Bool :=
  !t.complete && t.joined.any (fun j => j.2.gid == gid) && t.cells.contains c && !t.joined.any (fun j => j.1 == c) && !t.past.contains c

/-! ### Joining (R345) -/

/-- A collective removed, its commands taken from their queues. -/
def State.dropColl (s : State) (i : Nat) (t : Coll) : State :=
  t.joined.foldl (fun s j => s.unqueue j.2) { s with colls := s.colls.eraseIdx i }

/-- A command that completes with MISMATCH (R345). -/
def State.collFails (s : State) (k : Cmd) : State := (s.complete k 0x81 0).boundaryTrap k .collMismatch 0 9

/-- The flits of a collective's traffic by the sending die: each die of its members sends what they give to the die of rank
0, and takes back what they receive, for a die at once (R383, log 92). -/
def coFlits (cmds : List Cmd) : List (Nat × Nat) :=
  let h := dieOf ((cmds.head?.map (·.cell)).getD 0)
  let packet (d n : Nat) : Nat × Nat := (d, 1 + (n + 63) / 64)
  ((List.range 8).filter (fun d => d != h && cmds.any (fun k => dieOf k.cell == d))).flatMap (fun d =>
    let own := cmds.filter (fun k => dieOf k.cell == d)
    let gives (k : Cmd) : Nat := match k.op with
      | .cgath => coN k.arg * coZ k.arg * own.length
      | .cbc => if own.any (fun k => coRank k.arg k.cell == fld k.arg 75 63) then coN k.arg * coZ k.arg else 0
      | _ => coN k.arg * coZ k.arg
    [packet d ((own.map gives).foldl Nat.max 0), packet h ((own.map coBytes).foldl Nat.max 0)])

/-- MISMATCH at every member: at those that have joined now, at the others when their command comes (R345, log 89). -/
def State.collMismatch (s : State) (i : Nat) (t : Coll) : State :=
  let g := (t.joined.head?.map (·.2.gid)).getD 0
  let s1 := t.joined.foldl (fun s j => s.collFails j.2) (s.dropColl i t)
  (t.cells.filter (t.awaits g)).foldl (fun s c => s.mapCell c (fun x => { x with missed := x.missed + 1 })) s1

/-- A member's command completed without joining: it was that of a collective that has failed, or the collective that
awaits the member has it in its stead, or no member has come to its collective yet and the member is noted (R346, log 89). -/
def State.collPass (s : State) (c : Nat) (k : Cmd) : State :=
  let x := s.cell c
  if 0 < x.missed then s.mapCell c (fun x => { x with missed := x.missed - 1 })
  else
    match s.colls.findIdx? (fun t => t.awaits k.gid c && decide (t.base ≤ x.passed)) with
    | some i => { s with colls := s.colls.modify i (fun t => { t with past := t.past ++ [c] }) }
    | none => s.mapCell c (fun x => { x with passed := x.passed + 1 })

/-- A collective that a member opens: a cell of its rectangle that has completed more commands without joining than the
member has is past in it, with one of them (R346, log 89). -/
def State.openColl (s : State) (c : Nat) (k : Cmd) : Coll × State :=
  let base := (s.cell c).passed
  let late := ((coCells k.arg).filter (fun m => decide (base < (s.cell m).passed) && (s.cell m).grid == some k.gid))
  ({ joined := [], since := s.gt.toNat, past := late, base := base },
    late.foldl (fun s m => s.mapCell m (fun x => { x with passed := x.passed - 1 })) s)

/-- A collective whose members have all joined: they disagree, every guard is false, or it runs (R345). -/
def State.collFull (s : State) (i : Nat) (t : Coll) : State :=
  match t.joined with
  | [] => s
  | j :: r =>
    if r.any (fun q => coKey q.2 != coKey j.2) then s.collMismatch i t
    else if !j.2.started then t.joined.foldl (fun s j => s.complete j.2 3 0) (s.dropColl i t)
    else
      let cmds := t.cells.filterMap (fun c => (t.joined.find? (fun j => j.1 == c)).map (·.2))
      { s with colls := s.colls.set i { t with complete := true, owes := coFlits cmds } }

/-- COLLECTIVE_JOIN: the head of a collective queue checks its descriptor and joins, with the outcome of its
guard; the last member decides. One that comes past the time limit, or to a collective that has failed without it, makes
or finds a MISMATCH (R287, R345, R346). -/
def execCollectiveJoin (c : Nat) (s : State) : Out :=
  match (s.cell c).coll with
  | [] => .next s
  | k :: _ =>
    if s.colls.any (fun t => t.joined.any (fun j => j.2.id == k.id)) then .next s
    else if coBad k then .next (((s.popQueue c .coll).collPass c k).complete k 0x80 0)
    else if coOut (s.lr k.gid) k then .next (((s.popQueue c .coll).collPass c k).complete k 0x82 0)
    else
      match s.verdict k with
      | none => .next s
      | some v =>
        if 0 < (s.cell c).missed then .next (((s.popQueue c .coll).collPass c k).collFails k)
        else
        let k1 := { k with started := v }
        let i := (s.colls.findIdx? (fun t => t.awaits k.gid c)).getD s.colls.length
        let o := match s.colls[i]? with | some t => (t, s) | none => s.openColl c k
        let t1 := { o.1 with joined := o.1.joined ++ [(c, k1)] }
        let s1 := { o.2 with colls := if i < s.colls.length then s.colls.set i t1 else s.colls ++ [t1] }
        .next (if t1.since + 65536 < s.gt.toNat then s1.collMismatch i t1
          else if t1.joined.length == t1.cells.length then s1.collFull i t1 else s1)

/-- COLLECTIVE_TIMEOUT: not every member has joined within 65,536 cycles of the first (R345). -/
def execCollectiveTimeout (i : Nat) (s : State) : Out :=
  match s.colls[i]? with
  | none => .next s
  | some t => if t.complete || decide (s.gt.toNat ≤ t.since + 65536) then .next s else .next (s.collMismatch i t)

/-! ### Results (R347, R348) -/

/-- Argmax of two pairs (R348). -/
def argmaxPair (a b : Nat) : Nat :=
  let x := decodeF fmt32 (fld a 31 0)
  let y := decodeF fmt32 (fld b 31 0)
  let first := decide (fld a 63 32 ≤ fld b 63 32)
  let wins : Bool :=
    if x.isNan then y.isNan && first
    else if y.isNan then true
    else match Num.cmp x y with
      | some .gt => true
      | some .lt => false
      | _ => first
  if wins then a else b

/-- One combination. -/
def coComb (d a b : Nat) : Nat :=
  match coOp d with
  | 0 => combineEl (coTy d) 0 a b
  | 1 => combineEl (coTy d) 2 a b
  | 2 => combineEl (coTy d) 1 a b
  | _ => argmaxPair a b

/-- The identity of an exclusive rank 0 (R255, R256). -/
def coId (d : Nat) : Nat :=
  let t := (Ty.ofNat? (coTy d)).getD .f32
  let op : RedOp := match coOp d with | 0 => .add | 1 => .max | _ => .min
  if coTy d = 7 ∨ coTy d = 8 then redFlId op (Ty.fmt t) else redId op t

/-- A result as it is written: a NaN made canonical (R256, R257, R348). -/
def coFix (d x : Nat) : Nat :=
  if coOp d = 3 then
    (if (decodeF fmt32 (fld x 31 0)).isNan then fld x 63 32 * 2 ^ 32 + 0x7FC00000 else x)
  else if coTy d = 7 ∨ coTy d = 8 then canonFl (Ty.fmt ((Ty.ofNat? (coTy d)).getD .f32)) false x
  else x

/-- The elements of a member's input. -/
def coElems (m : List Host.Cell) (k : Cmd) : List Nat :=
  (List.range (coN k.arg)).map (fun i => memRead m (padKey k.cell (coSrc k.arg + i * coZ k.arg)) (coZ k.arg))

/-- Elements as bytes. -/
def coPack (z : Nat) (l : List Nat) : Nat := l.foldr (fun x acc => x % 2 ^ (8 * z) + 2 ^ (8 * z) * acc) 0

/-- Element by element, the reduction over ranks by the pairwise tree (R256, R347). -/
def coReduce (d : Nat) (ins : List (List Nat)) : List Nat :=
  (List.range (coN d)).map (fun i =>
    coFix d ((tree (coComb d) 13 (ins.map (fun l => some (l.getD i 0)))).getD 0))

/-- The running value of an element after the first `r` ranks, in rank order (R257). -/
def coScan (d i : Nat) (ins : List (List Nat)) (r : Nat) : Option Nat :=
  (ins.take r).foldl (fun acc l => some (match acc with | none => l.getD i 0 | some a => coComb d a (l.getD i 0))) none

/-- The elements that a member of some rank receives (R347). -/
def coResult (k : Cmd) (rank : Nat) (ins : List (List Nat)) : List Nat :=
  let d := k.arg
  let upTo (r : Nat) : List Nat := (List.range (coN d)).map (fun i => match coScan d i ins r with
    | some v => coFix d v
    | none => coId d)
  match k.op with
  | .cred => coReduce d ins
  | .cscan => upTo (if bit d 36 then rank else rank + 1) ++ (if bit d 35 then upTo ins.length else [])
  | .cbc => ins.getD (fld d 75 63) []
  | _ => if bit d 34 || rank == fld d 75 63 then ins.flatten else []

/-- Whether a member's input is used by the results: the root's alone for CBC (R347). -/
def coUses (k : Cmd) : Bool := k.op != .cbc || coRank k.arg k.cell == fld k.arg 75 63

/-- COLLECTIVE_RESULT: when each member's issue release is complete and the traffic has had its flits, which it takes as
they come, the results are written at the members, each followed by its token; where an input that they use is poisoned
nothing is written and the status is not stated (R153, R347, R383, R422, log 7). -/
def execCollectiveResult (i : Nat) (s : State) : Out :=
  match s.colls[i]? with
  | none => .next s
  | some t =>
    if !t.complete || t.joined.any (fun j => !s.released j.2) then .next s
    else
    match t.owes with
    | (h, n) :: r =>
      let u := s.flitsUp ((t.joined.head?.map (·.2.gid)).getD 0) h n
      .next { u.1 with colls := u.1.colls.set i { t with owes := if u.2 = 0 then r else (h, u.2) :: r } }
    | [] =>
      let d := (t.joined.head?.map (fun j => j.2.arg)).getD 0
      let cmds := (coCells d).filterMap (fun c => (t.joined.find? (fun j => j.1 == c)).map (·.2))
      let s1 := s.dropColl i t
      if cmds.any (fun k => coUses k && s.bad (padKey k.cell (coSrc k.arg)) (coN d * coZ d)) then
        let f := s1.freeVal
        .next (cmds.foldl (fun s k => s.complete k (f.1 % 2 ^ 16) 0) f.2)
      else
        let ins := cmds.map (coElems s.mem)
        .next (cmds.foldl (fun s k =>
          let l := coResult k (coRank d k.cell) ins
          (if l.isEmpty then s else s.cmdWrite k (coDst k.arg) (l.length * coZ d) (coPack (coZ d) l)).complete k 0 (l.length * coZ d)) s1)

/-! ### Issue (R347) -/

/-- A collective issued: its descriptor is captured, and its scope follows from its rectangle (R118, R345). -/
def State.issueColl (s : State) (op : CmdOp) (x : EngR) : State :=
  if s.holder then s.trap .asetIrrev 0 0
  else
    match s.descr (s.rd x.b) 64 64 with
    | .error t => t
    | .ok d => s.enqueue (s.cmd op x.g x.a x.det (coScope d) d)

/-- CRED (R347). -/
def execCred (x : EngR) (s : State) : Out := .next (s.issueColl .cred x)
/-- CSCAN (R347). -/
def execCscan (x : EngR) (s : State) : Out := .next (s.issueColl .cscan x)
/-- CBC (R347). -/
def execCbc (x : EngR) (s : State) : Out := .next (s.issueColl .cbc x)
/-- CGATH (R347). -/
def execCgath (x : EngR) (s : State) : Out := .next (s.issueColl .cgath x)

end Sys2Proof.Machine
end

