-- ==== Sys2Proof/Machine/Gmac.lean ====
section
/-!
DEFINITION. Machine/Gmac.lean: AES-256-GMAC, the integrity tag of a block of a save area (18 R426). The rule names the
algorithm; its definition is the one that FIPS 197 and NIST SP 800-38D give that name.
-/

namespace Sys2Proof.Machine

/-! ### AES-256 -/

/-- Twice an element of the field of AES. -/
def aesDouble (a : BitVec 8) : BitVec 8 := a <<< 1 ^^^ (if a.msb then 0x1B#8 else 0#8)

/-- A product in the field of AES, over `n` bits of the second factor. -/
def aesMul (a b : BitVec 8) : Nat → BitVec 8
  | 0 => 0#8
  | n + 1 => (if b.getLsbD 0 then a else 0#8) ^^^ aesMul (aesDouble a) (b >>> 1) n

/-- The power `2 ^ (n + 1) - 2` of an element: its inverse for `n = 7`. -/
def aesPow (a : BitVec 8) : Nat → BitVec 8
  | 0 => 1#8
  | n + 1 => let p := aesMul a (aesPow a n) 8; aesMul p p 8

/-- The substitution of a byte. -/
def aesSub (a : BitVec 8) : BitVec 8 :=
  let v := aesPow a 7
  v ^^^ v.rotateLeft 1 ^^^ v.rotateLeft 2 ^^^ v.rotateLeft 3 ^^^ v.rotateLeft 4 ^^^ 0x63#8

/-- Two strings of bytes added. -/
def xorBytes (a b : List (BitVec 8)) : List (BitVec 8) := List.zipWith (· ^^^ ·) a b

/-- The bytes of a word, the most significant first. -/
def beBytes (n : Nat) (x : Nat) : List (BitVec 8) := (List.range n).map (fun i => BitVec.ofNat 8 (x / 256 ^ (n - 1 - i)))

/-- The word that bytes make, the most significant first. -/
def beWord (l : List (BitVec 8)) : Nat := l.foldl (fun n b => 256 * n + b.toNat) 0

/-- The words of four bytes of the key schedule, the newest first: `n` more of them. -/
def aesKeys (l : List (List (BitVec 8))) (rcon : BitVec 8) : Nat → List (List (BitVec 8))
  | 0 => l
  | n + 1 =>
    let i := l.length
    let last := l.headD []
    let t := if i % 8 = 0 then xorBytes ((last.rotateLeft 1).map aesSub) [rcon, 0#8, 0#8, 0#8]
      else if i % 8 = 4 then last.map aesSub else last
    aesKeys (xorBytes (l.getD 7 []) t :: l) (if i % 8 = 0 then aesDouble rcon else rcon) n

/-- The fifteen round keys of a key. -/
def aesRounds (key : BitVec 256) : List (List (BitVec 8)) :=
  let b := beBytes 32 key.toNat
  let w := (aesKeys ((List.range 8).map (fun i => (b.drop (4 * i)).take 4)).reverse 1#8 52).reverse
  (List.range 15).map (fun r => ((w.drop (4 * r)).take 4).flatten)

/-- The rows of a state shifted, byte `4 c + r` standing in row `r` of column `c`. -/
def aesShift (s : List (BitVec 8)) : List (BitVec 8) :=
  (List.range 16).map (fun i => s.getD ((i + 4 * (i % 4)) % 16) 0#8)

/-- The columns of a state mixed. -/
def aesMix (s : List (BitVec 8)) : List (BitVec 8) :=
  (List.range 16).map (fun i =>
    let at_ (k : Nat) : BitVec 8 := s.getD (i / 4 * 4 + (i + k) % 4) 0#8
    aesDouble (at_ 0) ^^^ aesDouble (at_ 1) ^^^ at_ 1 ^^^ at_ 2 ^^^ at_ 3)

/-- The rounds of a cipher from the round keys that are left; the last mixes no columns. -/
def aesGo (s : List (BitVec 8)) : List (List (BitVec 8)) → List (BitVec 8)
  | [] => s
  | [k] => xorBytes (aesShift (s.map aesSub)) k
  | k :: r => aesGo (xorBytes (aesMix (aesShift (s.map aesSub))) k) r

/-- AES-256 of a block of 16 bytes. -/
def aes256 (key : BitVec 256) (block : List (BitVec 8)) : List (BitVec 8) :=
  match aesRounds key with
  | [] => block
  | k :: r => aesGo (xorBytes block k) r

/-! ### GMAC -/

/-- A product in the field of GHASH over `n` more bits of the first factor, the leftmost bit standing for 1. -/
def ghashMul (x v : BitVec 128) : Nat → BitVec 128
  | 0 => 0#128
  | n + 1 => (if x.msb then v else 0#128) ^^^
      ghashMul (x <<< 1) (v >>> 1 ^^^ (if v.getLsbD 0 then 0xE1#128 <<< 120 else 0#128)) n

/-- The hash of a string of whole blocks, continued. -/
def ghash (h : BitVec 128) (y : BitVec 128) (l : List (BitVec 128)) : BitVec 128 :=
  l.foldl (fun y x => ghashMul (y ^^^ x) h 128) y

/-- AES-256-GMAC of `n` blocks of 16 bytes under a key and a nonce of 96 bits: the tag, byte 0 its most significant (R426). -/
def gmac (key : BitVec 256) (nonce : BitVec 96) (l : List (BitVec 128)) : BitVec 128 :=
  let h := BitVec.ofNat 128 (beWord (aes256 key (beBytes 16 0)))
  let mask := BitVec.ofNat 128 (beWord (aes256 key (beBytes 16 (nonce.toNat * 2 ^ 32 + 1))))
  ghash h 0#128 (l ++ [BitVec.ofNat 128 (l.length * 128 * 2 ^ 64)]) ^^^ mask

/-- The 16-byte blocks of 4 KiB held as a number whose byte 0 is the least significant. -/
def gmacBlocks (v : Nat) : List (BitVec 128) :=
  (List.range 256).map (fun i => BitVec.ofNat 128 (beWord ((List.range 16).map (fun j => BitVec.ofNat 8 (v / 256 ^ (16 * i + j))))))

end Sys2Proof.Machine
end

