-- ==== Sys2Proof/Machine/Streams.lean ====
section
/-!
DEFINITION. Machine/Streams.lean: class 0x24 (17 R392 to R408): the stream instructions at issue and at the
hearth slice, and the migration of streams (R403, 19 R446).
-/

namespace Sys2Proof.Machine

/-! ### Statuses (R407) -/

/-- DESC. -/
def ssDesc : Nat := 0xA0
/-- DEAD. -/
def ssDead : Nat := 0xA1
/-- STATE. -/
def ssState : Nat := 0xA2
/-- DEPTH. -/
def ssDepth : Nat := 0xA3
/-- NOMAP. -/
def ssNomap : Nat := 0xA4
/-- NOSTREAM. -/
def ssNostream : Nat := 0xA5
/-- NOPAGE. -/
def ssNopage : Nat := 0xA6
/-- FULL. -/
def ssFull : Nat := 0xA7
/-- EMPTY. -/
def ssEmpty : Nat := 0xA8
/-- BUSY. -/
def ssBusy : Nat := 0xA9
/-- GATE. -/
def ssGate : Nat := 0xAA
/-- SEQ. -/
def ssSeq : Nat := 0xAB
/-- NOGRID. -/
def ssNogrid : Nat := 0xAC
/-- LINKED. -/
def ssLinked : Nat := 0xAD
/-- NOMEMB. -/
def ssNomemb : Nat := 0xAE

/-- What a stream instruction answers at its slice: status and value, and the state it leaves. -/
structure SRes where
  s : State
  status : Nat
  val : Nat

/-- A status other than OK whose value the specification does not state: the value is free (log 7). -/
def State.sfail (s : State) (status : Nat) : SRes :=
  let r := s.freeVal
  { s := r.2, status := status, val := r.1 % 2 ^ 48 }

/-- OK with a value. -/
def State.sok (s : State) (val : Nat) : SRes := { s := s, status := 0, val := val }

/-! ### Parts -/

/-- Whether an instruction of R396 or a fork may act on a stream: live, or at a gate with DISP set. -/
def Stream.ready (e : Stream) : Bool := e.status == .live || (e.status == .atGate && e.disp)

/-- Bytes that a stream instruction writes into the issuing cell's scratchpad (R395, R396, R400, R405). -/
def State.sput (s : State) (a : Access) (off n data : Nat) : State :=
  s.write a.writer (.port a.cell off) n data (fullMask n) 8

/-- The entries of a slice that are free, or pruned children of a forking parent, lowest first. -/
def freeStreams (d : Die) (slice n : Nat) (also : List Nat) : List Nat :=
  (((List.range 256).map (fun i => 64 * i + slice)).filter (fun e =>
    (look d.streams e).isNone || also.contains e)).take n

/-- A gate that a stream has left: it is parked there no more, and in no batch that is still to be sent (R401). -/
def Gate.without (x : Gate) (sid : Nat) : Gate :=
  { x with parked := x.parked.filter (· != sid), batches := x.batches.map (fun b => { b with mine := b.mine.filter (· != sid) }) }

/-- A stream leaves every gate at which it is parked, also those saved with a grid: a saved gate that names an entry
saved with its grid means that one (R401, R404). -/
def State.unpark (s : State) (sid : Nat) : State :=
  { s.mapDie (sidDie sid) (fun d => { d with gates := d.gates.map (fun (g, x) => (g, x.without sid)) }) with
    grids := s.grids.map (fun g => (g.1, { g.2 with savedGates := g.2.savedGates.map (fun e =>
      if (look g.2.savedStreams sid).isSome then e else (e.1, e.2.1, e.2.2.without sid)) })) }

/-- The sequence of a stream that goes: freed, or only unlinked where `keep` is set and it is persistent; whether that
went well (R19, R296, R400). -/
def State.freeLink (s : State) (keep : Bool) (e : Stream) : State × Bool :=
  if !e.lnk then (s, true)
  else if keep && (s.seq? e.asid e.seq).any (·.pers) then (s.linkSeq e.seq none, true)
  else s.freeHandle e.asid e.seq

/-- `prune` of R400: the map released, the linked sequence freed, the queue emptied; whether a sequence
command failed. A stream already pruned has nothing left to release. At a grid's end, `keep`, a persistent sequence
stays (R19, R296). -/
def State.pruneStream (s : State) (keep : Bool) (sid : Nat) (e : Stream) : State × Bool :=
  if e.status = .pruned then (s, false)
  else
    let s1 := s.mapDie (sidDie sid) (fun d => { d with pool := d.pool.release e.map })
    let r := s1.freeLink keep e
    (r.1.setStream sid { e with status := .pruned, queue := [], lnk := false, seq := 0 }, e.lnk && !r.2)

/-- A stream and all its descendants ended and freed, deepest first: the state, how many, and whether a
sequence command failed; at a grid's end, `keep`, persistent sequences stay (R401, R404). -/
def State.endStream (keep : Bool) : Nat → State → Nat → State × Nat × Bool
  | 0, s, _ => (s, 0, false)
  | fuel + 1, s, sid =>
    match s.sEnt sid with
    | none => (s, 0, false)
    | some e =>
      let r := (s.kids sid).foldl (fun r c =>
        let t := State.endStream keep fuel r.1 c.1
        (t.1, r.2.1 + t.2.1, r.2.2 || t.2.2)) (s, 0, false)
      let t := (r.1.unpark sid).pruneStream keep sid e
      (t.1.delStream sid, r.2.1 + 1, r.2.2 || t.2)

/-- STREAM_SEQERR counted when a sequence command failed (R407). -/
def State.seqErr (s : State) (a : Access) (sid : Nat) (bad : Bool) : State :=
  if bad then s.countDie (sidDie sid) a.gid 0x10A else s

/-! ### Fork (R395) -/

/-- The stamp of child `j` (R393, R395). -/
def childAge (gt cell j : Nat) : Word := BitVec.ofNat 64 (gt % 2 ^ 48 * 2 ^ 16 + cellName cell * 8 + j)

/-- The ids of new streams written at LOFF (R395). -/
def State.putIds (s : State) (a : Access) (loff : Nat) (ids : List Nat) : State :=
  ((List.range ids.length).zip ids).foldl (fun s (j, i) => s.sput a (loff + 4 * j) 4 i) s

/-- SFORK without `.root` at the parent's slice (R395). -/
def State.sfork (s : State) (a : Access) (sid n hor : Nat) (pers : Bool) (loff gt : Nat) : SRes :=
  if pers then s.sfail ssDesc
  else
    match s.stream? a sid with
    | none => s.sfail ssDead
    | some p =>
      let kids := s.kids sid
      if !p.ready || kids.any (fun c => c.2.status != .pruned) then s.sfail ssState
      else
        let d := s.die (sidDie sid)
        let old := s.prunedBelow (s.sFuel sid) sid
        let also := old.map sidEntry
        let ents := freeStreams d (sid % 64) n also
        match d.pool.fork streamMaps p.map n with
        | .error .depth => s.sfail ssDepth
        | .error .nomap => s.sfail ssNomap
        | .ok (maps, pool) =>
          if ents.length < n then s.sfail ssNostream
          else
            let sq : Except Nat (List Nat × State) :=
              if p.lnk then
                match s.seq? p.asid p.seq with
                | none => .error ssSeq
                | some _ =>
                  let k := s.cruc (hCruc p.seq)
                  match k.fork a.gid (hEntry p.seq) n with
                  | .error _ => .error ssSeq
                  | .ok (es, k2) => .ok (es.map (fun e => k2.handle (hCruc p.seq) e), s.mapCruc (hCruc p.seq) (fun _ => k2))
              else .ok ([], s)
            match sq with
            | .error st => s.sfail st
            | .ok (hs, s1) =>
              let s2 := s1.freeEntries old
              let s3 := (s2.mapDie (sidDie sid) (fun d => { d with pool := pool })).setStream sid { p with status := .waitJoin }
              let ids := ents.map (fun e => sidDie sid * 2 ^ 14 + e)
              let s4 := (List.range n).foldl (fun s j =>
                let id := (ids[j]?).getD 0
                let h := hs[j]?
                let e : Stream := { p with
                  status := .live, gid := a.gid, asid := a.asid, map := (maps[j]?).getD 0, ret := 0, jval := 0, jwin := 0
                  parent := sid, pv := true, horizon := hor, steps := 0, layer := 0, owner := a.cell
                  seq := h.getD 0, lnk := h.isSome, disp := false, mig := false, age := childAge gt a.cell j
                  arrived := 0, pinned := false }
                let s := s.setStream id e
                match h with | some x => s.linkSeq x (some id) | none => s) s3
              (s4.putIds a loff ids).sok n

/-- SFORK `.root` at the slice of the issuing cell's cluster (R395). -/
def State.sroot (s : State) (a : Access) (sid n hor : Nat) (pers : Bool) (loff seq disc gt : Nat) : SRes :=
  if 1 < n ∧ seq ≠ 0 then s.sfail ssDesc
  else
    let d := s.die (sidDie sid)
    let maps := d.pool.freeMaps streamMaps n
    let ents := freeStreams d (sid % 64) n []
    if maps.length < n then s.sfail ssNomap
    else if ents.length < n then s.sfail ssNostream
    else if seq ≠ 0 ∧ ((s.seq? a.asid seq).filter (fun q => q.stream.isNone)).isNone then s.sfail ssSeq
    else
      let s1 := s.mapDie (sidDie sid) (fun d => { d with pool := (List.range n).foldl (fun p _ =>
        match p.create streamMaps with | some r => r.2 | none => p) d.pool })
      let ids := ents.map (fun e => sidDie sid * 2 ^ 14 + e)
      let s2 := (List.range n).foldl (fun s j =>
        s.setStream ((ids[j]?).getD 0)
          { status := .live, gid := a.gid, asid := a.asid, map := (maps[j]?).getD 0, disc := disc, horizon := hor
            owner := a.cell, seq := if seq = 0 then 0 else seq % 2 ^ 32, lnk := seq != 0, pers := pers
            age := childAge gt a.cell j }) s1
      let s3 := if seq = 0 then s2 else s2.linkSeq seq ids.head?
      (s3.putIds a loff ids).sok n

/-! ### Join (R400) -/

/-- Whether pair `a` of value and id beats pair `b` (R348). -/
def pairBeats (a b : Nat × Nat) : Bool :=
  let x := decodeF fmt32 a.1
  let y := decodeF fmt32 b.1
  if x.isNan then y.isNan && decide (a.2 < b.2)
  else if y.isNan then true
  else
    match Num.cmp x y with
    | some .gt => true
    | some .eq => decide (a.2 < b.2)
    | _ => false

/-- A list of streams by the order of R348, the winner first. -/
def byBeats (l : List (Nat × Stream)) : List (Nat × Stream) :=
  l.mergeSort (fun p q => pairBeats (p.2.ret, p.1) (q.2.ret, q.1) || p.1 == q.1)

/-- The reduced value of a join (R400). -/
def joinValue (red : Nat) (g : List (Nat × Stream)) (win : Stream) : Nat :=
  let canon (x : Nat) : Nat := if (decodeF fmt32 x).isNan then qnan fmt32 else x
  let sum := g.foldl (fun acc p => (fArith .add fmt32 .rne false acc p.2.ret 0).bits) 0
  if red = 0 then canon win.ret
  else if red = 1 then sum
  else (fArith .div fmt32 .rne false sum (rne fmt32 (Num.ofInt g.length)) 0).bits

/-- The adoption of the winner's map and sequence by the parent, the winner's entry freed; its own
children hang from the parent thereafter (R400, log 12). -/
def State.adopt (s : State) (sid : Nat) (p : Stream) (wid : Nat) (w : Stream) : State × Stream × Bool :=
  let s1 := s.freeEntries (s.prunedBelow (s.sFuel wid) wid)
  let s2 := ((s1.kids wid).foldl (fun s c => s.setStream c.1 { c.2 with parent := sid }) s1).delStream wid
  let s3 := s2.mapDie (sidDie sid) (fun d => { d with pool := d.pool.release p.map })
  let p1 := { p with map := w.map }
  if w.lnk then
    match (if p.lnk then s3.seq? p.asid p.seq else none), s3.seq? w.asid w.seq with
    | some _, some _ =>
      (match (s3.cruc (hCruc p.seq)).commit (hEntry p.seq) (hEntry w.seq) false with
       | some k => (s3.mapCruc (hCruc p.seq) (fun _ => k), p1, false)
       | none => (s3, p1, true))
    | _, _ => (s3, p1, true)
  else (s3, p1, false)

/-- SJOIN at the parent's slice; none while it waits for the group (R400). -/
def State.sjoin (s : State) (a : Access) (sid red keep : Nat) (adopt wait : Bool) (ooff : Nat) : Option SRes :=
  match s.stream? a sid with
  | none => some (s.sfail ssDead)
  | some p =>
    if p.status ≠ .waitJoin then some (s.sfail ssState)
    else if adopt ∧ keep ≠ 0 then some (s.sfail ssDesc)
    else
      let g := (s.kids sid).filter (fun c => c.2.status != .pruned)
      let order := byBeats g
      match order.head? with
      | none => some ((s.setStream sid { p with status := .live }).sfail ssNomemb)
      | some (wid, w) =>
        if g.any (fun c => c.2.status != .done) then (if wait then none else some (s.sfail ssBusy))
        else
          let v := joinValue red g w
          let kept := (order.take keep).map (·.1)
          let lose := g.filter (fun c => !kept.contains c.1 && (c.1 != wid || !adopt))
          let r := lose.foldl (fun (r : State × Bool) c =>
            let t := r.1.pruneStream false c.1 c.2
            (t.1, r.2 || t.2)) (s, false)
          let s1 := (g.filter (fun c => kept.contains c.1)).foldl (fun s c =>
            match s.sEnt c.1 with | some e => s.setStream c.1 { e with status := .live } | none => s) r.1
          let t := if adopt then s1.adopt sid p wid w else (s1, p, false)
          let bad := r.2 || t.2.2
          let s2 := (t.1.setStream sid { t.2.1 with jval := v, jwin := wid, status := .live }).sput a ooff 8 (v + wid * 2 ^ 32)
          some { s := s2.seqErr a sid bad, status := if bad then ssSeq else 0, val := lose.length * 2 ^ 32 + v }

/-! ### Kill, steps, actions, returns, flatten, report (R396, R401, R402, R405) -/

/-- SKILL (R401). -/
def State.skill (s : State) (a : Access) (sid : Nat) : SRes :=
  match s.stream? a sid with
  | none => s.sfail ssDead
  | some e =>
    if e.mig then s.sfail ssState
    else
      let r := s.endStream false (s.sFuel sid) sid
      let stays := e.pv && (s.sEnt e.parent).isSome
      let s1 := if stays then r.1.setStream sid { e with status := .pruned, queue := [], lnk := false, seq := 0 } else r.1
      { s := s1.seqErr a sid r.2.2, status := if r.2.2 then ssSeq else 0, val := r.2.1 }

/-- An instruction of R396 on a ready stream, made live first. -/
def State.onReady (s : State) (a : Access) (sid : Nat) (f : Stream → SRes) : SRes :=
  match s.stream? a sid with
  | none => s.sfail ssDead
  | some e => if e.ready then f { e with status := .live } else s.sfail ssState

/-- SSTEP (R396). -/
def State.sstep (s : State) (a : Access) (sid : Nat) : SRes :=
  s.onReady a sid (fun e =>
    let e1 := if e.horizon = 0 then e else { e with horizon := e.horizon - 1, steps := (e.steps + 1) % 2 ^ 16 }
    (s.setStream sid (if e1.horizon = 0 then { e1 with status := .done } else e1)).sok e1.horizon)

/-- SACT (R396). -/
def State.sact (s : State) (a : Access) (sid data : Nat) : SRes :=
  s.onReady a sid (fun e =>
    if 64 ≤ e.queue.length then { s := s, status := ssFull, val := e.queue.length }
    else (s.setStream sid { e with queue := e.queue ++ [data] }).sok (e.queue.length + 1))

/-- SPOPA (R396). -/
def State.spopa (s : State) (a : Access) (sid off : Nat) : SRes :=
  s.onReady a sid (fun e =>
    match e.queue with
    | [] => { s := s, status := ssEmpty, val := 0 }
    | x :: q => ((s.setStream sid { e with queue := q }).sput a off 64 x).sok q.length)

/-- An exact power; the power 0 is 1, of a NaN too a NaN (R396). -/
def Num.pow (x : Num) (n : Nat) : Num :=
  match x with
  | .nan => .nan
  | .inf s => if n = 0 then .ofInt 1 else .inf (s && n % 2 == 1)
  | .fin s m e _ => .fin (s && n % 2 == 1) (m ^ n) (e * n) false

/-- `round_rne(RET + r × DISC^STEPS, f32)` of R396. -/
def returnOf (ret r disc steps : Nat) : Nat :=
  let t := (Num.mul (decodeF fmt32 r) (Num.pow (decodeF fmt32 disc) steps)).1
  rne fmt32 (Num.add false (decodeF fmt32 ret) t).1

/-- SRET (R396). -/
def State.sret (s : State) (a : Access) (sid r : Nat) : SRes :=
  s.onReady a sid (fun e =>
    let v := returnOf e.ret r e.disc e.steps
    (s.setStream sid { e with ret := v }).sok v)

/-- Key of a gate of a grid on a die. -/
def gateKey (gid layer : Nat) : Nat := gid * 1024 + layer

/-- The configuration of a gate of a grid, when the entry is valid (R397). -/
def State.gateCfg (s : State) (gid layer : Nat) : Option Nat :=
  ((look s.grids gid).bind (fun g => look g.gates layer)).filter (fun e => bit e 0)

/-- SGATE: the stream is parked, its pages pinned while room for pins remains (R103, R398). -/
def State.sgate (s : State) (a : Access) (sid layer : Nat) : SRes :=
  match s.stream? a sid with
  | none => s.sfail ssDead
  | some e =>
    if !e.ready then s.sfail ssState
    else if (s.gateCfg a.gid layer).isNone then s.sfail ssGate
    else
      let d := s.die (sidDie sid)
      let pin := decide ((d.pins ++ d.pagesOf e).eraseDups.length ≤ 4096)
      let s1 := s.setStream sid { e with layer := layer, status := .atGate, disp := false, arrived := s.gt.toNat, pinned := pin }
      (s1.mapDie (sidDie sid) (fun d =>
        let g := lookD d.gates (gateKey a.gid layer) {}
        { d with gates := put d.gates (gateKey a.gid layer) { g with parked := g.parked ++ [sid] } })).sok 0

/-- SFLAT (R402). -/
def State.sflat (s : State) (a : Access) (sid : Nat) : SRes :=
  match s.stream? a sid with
  | none => s.sfail ssDead
  | some e =>
    if e.status = .pruned then s.sfail ssState
    else
      let s1 := s.mapDie (sidDie sid) (fun d => { d with pool := d.pool.flatten e.map })
      s1.sok ((s1.die (sidDie sid)).pool.ownPages e.map)

/-- SINFO (R393, R405). -/
def State.sinfo (s : State) (a : Access) (sid off : Nat) : SRes :=
  match s.stream? a sid with
  | none => s.sfail ssDead
  | some e => (s.sput a off 64 (s.report sid e)).sok 0

/-! ### Migration (R403, R446) -/

/-- The packets of a transfer: entry, queue, visible pages in rising index, 2 KiB to a packet (R444, R446). -/
def State.migParts (s : State) (sid : Nat) (e : Stream) : List MigPart :=
  let d := s.die (sidDie sid)
  let vis := d.pool.visible 4 e.map
  .entry (BitVec.ofNat 512 (s.report sid e)) :: .queue (e.queue.map (BitVec.ofNat 512)) ::
    vis.flatMap (fun p => (List.range 16).map (fun j =>
      .page p.1 (2048 * j) (bytesOf 2048 (memRead s.mem (hearthKey (sidDie sid) p.2 (2048 * j)) 2048))))

/-- GANGV of a launch record (R364). -/
def gangv (lr : Nat) : Bool := bit lr 944
/-- GANGID of a launch record (R364). -/
def gangidOf (lr : Nat) : Nat := fld lr 927 896

/-- SMIG: its checks, or the transfer begun, its answer to come with MIGACK. With UNLINK set the packets carry no link;
the stream's own link is dropped with the stream, when the transfer is acknowledged, since a refused one leaves it
unchanged (R403, log 90). -/
def State.smig (s : State) (a : Access) (n : Nat) (sid : Nat) (x : List Nat) (die : Nat) (unlink : Bool) (ret : RegSpec) :
    State × Option (Nat × Nat) :=
  let fail (c : Nat) : State × Option (Nat × Nat) := let r := s.sfail c; (r.s, some (r.status, r.val))
  match s.stream? a sid with
  | none => fail ssDead
  | some e =>
    if e.status ≠ .live || e.pv || !(s.kids sid).isEmpty || e.mig then fail ssState
    else if !gangv (s.lr a.gid) then fail ssNogrid
    else if e.lnk && !unlink then fail ssLinked
    else
      let xfer := s.plat.xfers
      let s2 := s.setStream sid { e with mig := true, xfer := xfer }
      let parts := s2.migParts sid { e with mig := true, lnk := false, seq := 0 }
      let pk (i : Nat) (p : MigPart) : Packet := .migreq x
        { src := s.plat.here, xfer := xfer, die := BitVec.ofNat 3 die, gangid := gangidOf (s.lr a.gid), part := p, last := i + 1 == parts.length }
      let s3 := s2.mapPlat (fun p => { p with
        xfers := xfer + 1, sent := p.sent ++ ((List.range parts.length).zip parts).map (fun (i, q) => pk i q) })
      let w : Who := { cell := a.cell, hi := a.hi, act := a.act, msgid := a.msgid, gid := a.gid }
      (s3.resend n a.cell (.mig w sid ret xfer), none)

/-! ### Arrival at the slice -/

/-- The answer of a stream instruction on its way back (R406). -/
def SRes.reply (r : SRes) (n : Nat) (a : Access) : State :=
  r.s.resend n a.cell (.reply a (r.status * 2 ^ 48 + r.val % 2 ^ 48) none)

/-- A stream instruction carried out at its slice; SJOIN may wait, and SMIG answers later. -/
def State.streamAct (s : State) (n : Nat) (a : Access) (sid : Nat) (op : StreamOp) (ret : RegSpec) (gt : Nat) : State :=
  match op with
  | .fork k hor pers loff => (s.sfork a sid k hor pers loff gt).reply n a
  | .root k hor pers loff seq disc => (s.sroot a sid k hor pers loff seq disc gt).reply n a
  | .join red keep adopt wait ooff =>
    (match s.sjoin a sid red keep adopt wait ooff with
     | some r => r.reply n a
     | none => s.resend n a.cell
        (.sjoin { cell := a.cell, hi := a.hi, act := a.act, msgid := a.msgid, gid := a.gid } a op ret))
  | .kill => (s.skill a sid).reply n a
  | .step => (s.sstep a sid).reply n a
  | .act data => (s.sact a sid data).reply n a
  | .popa off => (s.spopa a sid off).reply n a
  | .ret r => (s.sret a sid r).reply n a
  | .gate layer => (s.sgate a sid layer).reply n a
  | .mig x die unlink =>
    (match s.smig a n sid x die unlink ret with
     | (t, some (st, v)) => ({ s := t, status := st, val := v } : SRes).reply n a
     | (t, none) => t)
  | .flat => (s.sflat a sid).reply n a
  | .info off => (s.sinfo a sid off).reply n a

/-- Whether a fork or a join of a stream must wait for an append to a linked sequence (R309, log 19). -/
def State.seqBusy (s : State) (a : Access) (sid : Nat) (op : StreamOp) : Bool :=
  let busy (e : Stream) : Bool := e.lnk && s.appending s.serial e.seq
  match op with
  | .fork _ _ _ _ => (s.stream? a sid).any busy
  | .join _ _ adopt _ _ => adopt && ((s.stream? a sid).any busy || (s.kids sid).any (fun c => busy c.2))
  | _ => false

/-- Whether a flight is a state-space load or store of the instruction that made an access: an activation has those of one
instruction at a time (R101). -/
def withState (a : Access) (f : Flight) : Bool :=
  match f with
  | .access b => b == a || (b.task && a.task && b.act == a.act && b.cell == a.cell && !b.op.isStream &&
      (match b.loc with | .hearth _ _ => true | _ => false))
  | _ => false

/-- The state-space accesses of one instruction carried out in their order, with their answers, or the answer of the first
that traps; none while one of them waits (R261, R383). -/
def State.stateLanes : List Fly → State → Option (Except Fly (State × List Fly))
  | [], s => some (.ok (s, []))
  | f :: l, s =>
    match f.f with
    | .access a =>
      (match a.loc with
       | .hearth sid off =>
         (match (s.roundTrip a.gid (dieOf a.cell) (sidDie sid)).bind (fun t => t.stateAccess a sid off) with
          | none => none
          | some (t, r) =>
            match r with
            | .reply _ _ (some _) => some (.error { f with f := r })
            | _ => (State.stateLanes l t).map (fun e => e.map (fun e => (e.1, { f with f := r } :: e.2))))
       | _ => State.stateLanes l s)
    | _ => State.stateLanes l s

/-- The state-space accesses of an instruction at their hearth slices: none of them has an effect where one traps, and
its trap answers for all (R261). -/
def State.stateArrive (s : State) (a : Access) : State :=
  let all := s.fly.filter (fun f => withState a f.f)
  if all.any (fun f => s.plat.down.any (fun l => s.onLink l f) || (match f.f with | .access b => s.blocked f.n b | _ => false)) then s
  else
    let s0 : State := { s with fly := s.fly.filter (fun f => !withState a f.f) }
    match s0.stateLanes all with
    | none => s
    | some (.error f) => { s0 with fly := s0.fly ++ [f] }
    | some (.ok (t, l)) => { t with fly := t.fly ++ l }

/-- HEARTH_SLICE_ARRIVAL: the state-space accesses of an instruction or a stream instruction take their place in the
slice's order, from another die once their flits are had (R84, R101, R104, R261, R383, R406). What arrives after its grid
has ended changes nothing. -/
def execHearthSliceArrival (k : Nat) (s : State) : Out :=
  match s.flight k with
  | some ⟨n, _, .access a⟩ =>
    match a.loc with
    | .hearth sid _ =>
      if s.blocked n a then .next s
      else if (look s.grids a.gid).isNone then .next (s.land k)
      else
        match a.op with
        | .stream op ret gt =>
          (match s.roundTrip a.gid (dieOf a.cell) (sidDie sid) with
           | none => .next s
           | some t => if s.seqBusy a sid op then .next s else .next ((t.land k).streamAct n a sid op ret gt))
        | _ => .next (s.stateArrive a)
    | _ => .next s
  | _ => .next s

/-- SJOIN_WAIT_COMPLETE: a waiting join looks at its group again (R400). -/
def execSjoinWaitComplete (k : Nat) (s : State) : Out :=
  match s.flight k with
  | some ⟨n, _, .sjoin _ a op _⟩ =>
    match op, a.loc with
    | .join red keep adopt wait ooff, .hearth sid _ =>
      if s.seqBusy a sid op then .next s
      else
      (match (s.land k).sjoin a sid red keep adopt wait ooff with
       | some r => .next (r.reply n a)
       | none => .next s)
    | _, _ => .next s
  | _ => .next s

/-! ### The instructions at issue (R405, R406) -/

/-- The scope of a stream instruction: die on the issuing die, pkg elsewhere (R406). -/
def State.streamScope (s : State) (sid : Nat) : Scope := if sidDie sid = dieOf s.cur.cell then .die else .pkg

/-- An offset of a field of an instruction and what is written from it (R118, R405). -/
def fieldTrap (off align n : Nat) : Option Cause :=
  if 2 ^ 18 ≤ off then some .addrRange
  else if off % align ≠ 0 then some .memAlign
  else if 2 ^ 18 < off + n then some .addrRange
  else none

/-- The access of a stream instruction on its way, its register pending. -/
def State.sendStream (s : State) (sid : Nat) (op : StreamOp) (r : RegSpec) (acq : Option Scope) : State :=
  let a : Access := { s.acc 0 (.hearth sid 0) 8 (.stream op r s.gt.toNat) with acq := acq }
  ((s.send s.cur.cell (.access a)).mapB (fun b => addPend b r)).retire

/-- A stream instruction that releases: the holder's trap, the offset's trap, the release, then its
access (R174, R405, R406). -/
def State.streamOp (s : State) (sid : Nat) (off : Option (Nat × Nat × Nat)) (r : RegSpec) (op : StreamOp) : Out :=
  if s.holder then .next (s.trap .asetIrrev 0 0)
  else
    match off.bind (fun o => (fieldTrap o.1 o.2.1 o.2.2).map (fun c => (c, o.1))) with
    | some (c, o) => .next (s.trap c o 0)
    | none =>
      match s.release (s.streamScope sid) with
      | .error t => .next t
      | .ok t => .next (t.sendStream sid op r (some (t.streamScope sid)))

/-- SFORK (R395). -/
def execSfork (x : SforkR) (s : State) : Out :=
  s.streamOp (s.rd x.b).toNat (some (x.loff.toNat, 4, 4 * x.n.toNat)) x.a
    (.fork x.n.toNat x.hor.toNat x.pers x.loff.toNat)

/-- SFORK `.root` (R395): the slice is that of the issuing cell's cluster. -/
def execSforkRoot (x : SforkRootR) (s : State) : Out :=
  s.streamOp (dieOf s.cur.cell * 2 ^ 14 + cluOf s.cur.cell) (some (x.loff.toNat, 4, 4 * x.n.toNat)) x.a
    (.root x.n.toNat x.hor.toNat x.pers x.loff.toNat (s.rd x.c).toNat ((s.rd x.d).toNat % 2 ^ 32))

/-- SJOIN (R400). -/
def execSjoin (x : SjoinR) (s : State) : Out :=
  s.streamOp (s.rd x.b).toNat (some (x.ooff.toNat, 8, 8)) x.a
    (.join x.red.toNat x.keep.toNat x.adopt x.wait x.ooff.toNat)

/-- SKILL (R401). -/
def execSkill (x : MovR) (s : State) : Out := s.streamOp (s.rd x.b).toNat none x.a .kill

/-- SSTEP (R396). -/
def execSstep (x : MovR) (s : State) : Out := s.streamOp (s.rd x.b).toNat none x.a .step

/-- SACT: the 64 bytes are captured at issue (R396). -/
def execSact (x : A3) (s : State) : Out :=
  if s.holder then .next (s.trap .asetIrrev 0 0)
  else
    match s.descr (s.rd x.c) 64 64 with
    | .error t => .next t
    | .ok data => s.streamOp (s.rd x.b).toNat none x.a (.act data)

/-- SPOPA (R396). -/
def execSpopa (x : A3) (s : State) : Out :=
  s.streamOp (s.rd x.b).toNat (some ((s.rd x.c).toNat, 64, 64)) x.a (.popa (s.rd x.c).toNat)

/-- SRET (R396). -/
def execSret (x : A3) (s : State) : Out :=
  s.streamOp (s.rd x.b).toNat none x.a (.ret ((s.rd x.c).toNat % 2 ^ 32))

/-- SGATE (R398). -/
def execSgate (x : SgateR) (s : State) : Out := s.streamOp (s.rd x.b).toNat none x.a (.gate x.layer.toNat)

/-- SMIG (R403). -/
def execSmig (x : SmigR) (s : State) : Out :=
  s.streamOp (s.rd x.b).toNat none x.a
    (.mig [x.x0.toNat, x.x1.toNat, x.x2.toNat, x.x3.toNat] x.die.toNat x.unlink)

/-- SFLAT (R402). -/
def execSflat (x : MovR) (s : State) : Out := s.streamOp (s.rd x.b).toNat none x.a .flat

/-- SINFO: no release, and a holder may issue it (R393, R405, R406). -/
def execSinfo (x : A3) (s : State) : Out :=
  let off := (s.rd x.c).toNat
  match fieldTrap off 64 64 with
  | some c => .next (s.trap c off 0)
  | none => .next (s.sendStream (s.rd x.b).toNat (.info off) x.a none)

end Sys2Proof.Machine
end

