-- ==== Sys2Proof/Machine/Tasks.lean ====
section
/-!
DEFINITION. Machine/Tasks.lean: messages, ready tables, spawned tasks and the dependence table, the time
budget, and class 0x22 (16 R372 to R382, R386 to R390).
-/

namespace Sys2Proof.Machine

/-! ### Memory read by the device under an ASID -/

/-- The lines of a range read at their home slices for a grid, from a die; none while slots or flits are spent (R86,
R383). -/
def State.hsReads (s : State) (g d pa n : Nat) : Option State :=
  (List.range ((pa + n + 63) / 64 - pa / 64)).foldl (fun s i => s.bind (fun s => s.hsRead g d ((pa / 64 + i) * 64))) (some s)

/-- Bytes at a virtual address as the device reads them for a grid through the walker of a die: a translation for
each 4 KiB, poison checked. An error that is no trap is a read that waits for a slot (R62, R69, R86, R383, R409). -/
def State.vread (s : State) (d0 g asid : Nat) : Nat → Nat → Nat → Except (Option Trap) (Nat × State)
  | 0, _, _ => .ok (0, s)
  | fuel + 1, va, n =>
    if n = 0 then .ok (0, s)
    else
      let k := Nat.min n (4096 - va % 4096)
      match s.walk d0 g asid va 0 with
      | .error t => .error (t.map (·.1))
      | .ok (e, s0) =>
        if e.ue then .error (some { cause := .memUe, pc := 0, addr := va, detail := 4 * 2 ^ 56 })
        else if s0.bad (e.pa va) k then .error (some { cause := .memUe, pc := 0, addr := va })
        else
          match (if e.mtype = 2 then some s0 else s0.hsReads g d0 (e.pa va) k) with
          | none => .error none
          | some s1 =>
            match State.vread s1 d0 g asid fuel (va + k) (n - k) with
            | .error t => .error t
            | .ok (d, s2) => .ok (memRead s1.mem (e.pa va) k + 256 ^ k * d, s2)

/-- `n` bytes under an ASID. -/
def State.vget (s : State) (d0 g asid va n : Nat) : Except (Option Trap) (Nat × State) := s.vread d0 g asid (n / 4096 + 2) va n

/-- NHAND of a record. -/
def nhand (lr : Nat) : Nat := fld lr 200 192

/-- A handler entry of a grid, read at its use by a cell (R366, R387). -/
def State.handlerPc (s : State) (c g h : Nat) : Except (Option Trap) (Nat × State) :=
  s.vget (dieOf c) g (asidOf (s.lr g)) (fld (s.lr g) 191 128 + 8 * h) 8

/-- Whether a handler index names an entry that is not 0, with the state after the read; one that cannot be read names
none. None while the read waits for a slot (R383, R387, log 15). -/
def State.hasHandler (s : State) (g h : Nat) : Option (Bool × State) :=
  if nhand (s.lr g) ≤ h then some (false, s)
  else
    match s.handlerPc s.cur.cell g h with
    | .ok r => some (r.1 != 0, r.2)
    | .error (some _) => some (false, s)
    | .error none => none

/-! ### Set descriptors (R372) -/

/-- The set of a valid descriptor; its bits [57:0] are taken whole as the base, so that a bit that must be
zero fails a check of R186. -/
def descSet (d : Nat) : Option SetSlot :=
  if bit d 63 then some { dsp := bit d 62, base := fld d 57 0, sz := fld d 61 58 } else none

/-- The declared sets of four descriptors, by slot. -/
def descSets (x : Nat) : Map SetSlot :=
  (List.range 4).filterMap (fun k => (descSet (fld x (64 * k + 63) (64 * k))).map (fun e => (k, e)))

/-- The set of a spawn's descriptor, whose bits that must be zero are a check of their own (R372, R388, log 99). -/
def SetSlot.plain (e : SetSlot) : SetSlot := { e with base := e.base % 2 ^ 57 / 64 * 64 }

/-- Whether the sets of some descriptors fail a check of R186, each against the ones before it. -/
def setsBad (lr die : Nat) : List SetSlot → List SetSlot → Bool
  | [], _ => false
  | e :: r, seen => decide (10 < e.sz) || setCheck lr die e.dsp e.base e.sz seen != 0 || setsBad lr die r (e :: seen)

/-! ### SEND and TSPAWN (R387, R388) -/

/-- The executing task's send buffer. -/
def State.sends (s : State) : List Send := (s.b.task.map (·.sends)).getD []

/-- SEND (R387). -/
def execSend (x : SendR) (s : State) : Out :=
  let lr := s.myLr
  let dest := (s.rd x.c).toNat
  let len := x.len.toNat
  match s.descr (s.rd x.b) 8 len with
  | .error t => .next t
  | .ok pay =>
    match (if x.setm = 0 then .ok 0 else s.descr (s.rd x.d) 8 32) with
    | .error t => .next t
    | .ok block =>
      let sets := (List.range 4).foldl (fun a k =>
        if bit x.setm.toNat k then a + fld block (64 * k + 63) (64 * k) * 2 ^ (64 * k) else a) 0
      let st0 := if 32 ≤ s.sends.length then 1 else if 2 ^ 13 ≤ dest || !inRect lr dest then 2 else 0
      match (if st0 = 0 then s.hasHandler s.gid x.hnd.toNat else some (true, s)) with
      | none => .next s
      | some (known, s) =>
      let st :=
        if st0 ≠ 0 then st0
        else if !known then 3
        else if 192 < len || len % 8 ≠ 0 then 4
        else if setsBad lr (dieOf s.cur.cell) ((descSets sets).map (·.2)) [] then 5
        else 0
      if st ≠ 0 then .next (s.finish x.a (BitVec.ofNat 64 st))
      else
        let r := s.newAge s.cur.cell
        let q := r.2.newMsgId s.cur.cell
        let m : Msg := { hdr := mkHdr r.1 s.gt.toNat q.1 dest x.hnd.toNat len x.pri sets, pay := bytesOf len pay }
        .next ((q.2.mapT (fun k => { k with sends := k.sends ++ [.msg m] })).finish x.a 0)

/-- The control fields of a spawn descriptor (R376). -/
def spCtl (d : Nat) : Nat := fld d 2047 1536
/-- HANDLER of a spawn. -/
def spHandler (d : Nat) : Nat := fld (spCtl d) 7 0
/-- Tile entry `k` of a spawn. -/
def spTile (d k : Nat) : Nat := fld d (512 + 128 * k + 127) (512 + 128 * k)
/-- The set descriptors of a spawn. -/
def spSets (d : Nat) : Nat := fld d 1535 1280
/-- The valid tiles of a spawn: identifier and coordinates, read tiles or write tiles. -/
def spTiles (d : Nat) (write : Bool) : List (Nat × Nat) :=
  ((if write then [4, 5] else [0, 1, 2, 3]).map (spTile d)).filterMap (fun t =>
    if bit t 127 then some (fld t 115 104, fld t 63 0) else none)
/-- EV and its threshold, when a wait is used. -/
def spWait (d k : Nat) : Option (Nat × Nat) :=
  let c := spCtl d
  if bit c (80 + 64 * k) then some (fld c (79 + 64 * k) (64 + 64 * k), fld c (127 + 64 * k) (96 + 64 * k)) else none
/-- PLACE of a spawn. -/
def spPlace (d : Nat) : Nat := fld (spCtl d) 11 10

/-- Whether every field of a spawn descriptor that must be zero is (R372, R376). -/
def spZeros (d : Nat) : Bool :=
  let c := spCtl d
  fld c 15 12 == 0 && fld c 31 29 == 0 && fld c 63 41 == 0 && fld c 95 81 == 0 && fld c 159 145 == 0 &&
    fld c 511 192 == 0 && (List.range 6).all (fun k => fld (spTile d k) 126 116 == 0 && fld (spTile d k) 103 64 == 0) &&
    (List.range 4).all (fun k => !bit (spSets d) (64 * k + 57) && fld (spSets d) (64 * k + 5) (64 * k) == 0)

/-- The cells of a sub-rectangle in rank order. -/
def subCells (o lw lh : Nat) : List Nat :=
  (List.range (2 ^ lh)).flatMap (fun dy => (List.range (2 ^ lw)).map (fun dx => (o / 128 + dy) * 128 + o % 128 + dx))

/-- Whether a sub-rectangle is aligned and lies within a grid (R365). -/
def subOk (lr o lw lh : Nat) : Bool :=
  o % 128 % 2 ^ lw == 0 && o / 128 % 2 ^ lh == 0 && decide (o % 128 + 2 ^ lw ≤ 128) && (subCells o lw lh).all (inRect lr)

/-- Whether a spawn's placement is one of the grid's (R388). -/
def spPlaceOk (lr d : Nat) : Bool :=
  let c := spCtl d
  match spPlace d with
  | 0 => inRect lr (fld c 28 16)
  | 1 => subOk lr (fld c 28 16) (fld c 34 32) (fld c 37 35)
  | 2 => decide (fld c 40 38 < 6) && bit (spTile d (fld c 40 38)) 127
  | _ => false

/-- TSPAWN (R388). -/
def execTspawn (x : MovR) (s : State) : Out :=
  match s.descr (s.rd x.b) 64 256 with
  | .error t => .next t
  | .ok d =>
    let die := dieOf s.cur.cell
    match (if 32 ≤ s.sends.length then some (true, s) else s.hasHandler s.gid (spHandler d)) with
    | none => .next s
    | some (known, s) =>
    let st :=
      if 32 ≤ s.sends.length then 1
      else if !known then 3
      else if setsBad s.myLr die ((descSets (spSets d)).map (·.2.plain)) [] then 5
      else if (spTiles d false ++ spTiles d true).any (fun t => !tValid (s.tidEnt s.gid die t.1)) then 6
      else if !spPlaceOk s.myLr d then 7
      else if !spZeros d then 9
      else 0
    if st ≠ 0 then .next (s.finish x.a (BitVec.ofNat 64 st))
    else
      let r := s.newAge s.cur.cell
      let q := r.2.newMsgId s.cur.cell
      let p : Spawn := { desc := d, age := BitVec.ofNat 64 r.1, msgid := q.1, gts := s.gt.toNat, gid := s.gid, die := die
                         parent := s.act }
      .next ((q.2.mapT (fun k => { k with sends := k.sends ++ [.spawn p] })).finish x.a 0)

/-! ### TEND (R389) -/

/-- A command of an activation whose token is still to be written. -/
def Cmd.owed (act : Nat) (k : Cmd) : Bool := k.act == act && k.tok.isSome

/-- Whether a flight is a command, or the token of one, that an activation's TEND waits for. -/
def owedFlight (act : Nat) (f : Flight) : Bool :=
  match f with
  | .cruc c => c.owed act
  | .accept c => c.owed act
  | .token t => t.cmd.owed act
  | .bloom w _ _ => w.act == act
  | .access a => a.task && a.act == act && (match a.op with | .btest _ => true | _ => false)
  | .reply a _ _ => a.task && a.act == act && (match a.op with | .btest _ => true | _ => false)
  | _ => false

/-- Whether an activation has an engine command that is not detached and not complete (R389). -/
def State.owes (s : State) (c act : Nat) : Bool :=
  let x := s.cell c
  [x.tongs, x.anvil, x.cruc, x.gen, x.coll].any (fun l => l.any (Cmd.owed act)) ||
    x.chans.any (fun h => match h.2.cmd with | some k => k.owed act | none => false) ||
    s.steps.any (fun t => t.joined.any (fun j => j.2.owed act)) ||
    s.colls.any (fun t => t.joined.any (fun j => j.2.owed act)) ||
    s.crucs.any (fun k => k.2.queries.any (fun q => q.cmd.owed act) || k.2.held.any (fun q => q.cmd.owed act)) ||
    s.cells.any (fun y => y.2.watch.any (fun w => w.who.act == act)) ||
    s.fly.any (fun f => owedFlight act f.f)

/-- The unresolved guard slots of a bank made false (R287, R389). -/
def closeGuards (b : Bank) : Bank :=
  { b with guards := (List.range 15).foldl (fun m n => if (look m n).isSome then m else put m n false) b.guards }

/-- Whether a die's dependence table has room, counting the spawns on their way to it (R376). -/
def State.depRoom (s : State) (d : Nat) : Bool :=
  decide ((s.die d).dep.length +
    (s.fly.filter (fun f => match f.f with | .dep p _ => p.die == d | _ => false)).length < 4096)

/-- The sends and spawns of the executing task leave in issue order, until one finds no room; whether all
have left (R376, R389). -/
def State.leave (s : State) (sc : Scope) : List Send → State × Bool
  | [] => (s.mapT (fun k => { k with sends := [] }), true)
  | .msg m :: r => (s.send s.cur.cell (.msg s.gid { msg := m, sc := sc, src := some s.act })).leave sc r
  | .spawn p :: r =>
    if s.depRoom p.die then (s.send s.cur.cell (.dep p sc)).leave sc r
    else (s.mapT (fun k => { k with sends := .spawn p :: r }), false)

/-- A spawn's entry leaves its table: what waited for it waits no more, and acquires at its TEND's scope
(R377, R389). -/
def State.depRelease (s : State) (d msgid : Nat) (sc : Scope) : State :=
  s.mapDie d (fun x => { x with dep := (x.dep.filter (fun e => e.p.msgid != msgid)).map (fun e =>
    if e.after.contains msgid then { e with after := e.after.filter (· != msgid), sc := Scope.wider e.sc sc } else e) })

/-- A list slot of a gate freed (R399). -/
def State.freeSlot (s : State) (d gate slot : Nat) : State :=
  s.mapDie d (fun x => match look x.gates gate with
    | some g => { x with gates := put x.gates gate { g with busy := g.busy.erase slot } }
    | none => x)

/-- The last step of TEND (R389). -/
def State.endTask (s : State) (k : Task) (sc : Scope) : State :=
  let s1 := match k.dep with | some (d, m) => s.depRelease d m sc | none => s
  let s2 := match k.batch with | some (d, g, n) => s1.freeSlot d g n | none => s1
  (s2.mapGrid k.gid (fun g => { g with tasks := g.tasks + 1 })).freeBank s.cur.cell s.cur.hi

/-- The release of TEND and what follows it (R389). -/
def State.tendOut (s : State) (k : Task) (sc : Scope) : State :=
  match s.release sc with
  | .error t => t
  | .ok t =>
    match t.leave sc k.sends with
    | (u, true) =>
      ((u.mapT (fun k => { k with depWait := false })).includeTask s.cur.cell s.cur.hi).endTask k sc
    | (u, false) =>
      let v := if k.depWait then u else u.countDie (dieOf s.cur.cell) k.gid 0x109
      v.mapT (fun k => { k with depWait := true }.exclude s.gt.toNat)

/-- TEND: held commands discarded, commands that are not detached awaited, a holder's buffer drained and
its sets released, a release, and the sends and spawns leave (R287, R389, R178). -/
def execTend (sc : Scope) (s : State) : Out :=
  match s.b.task with
  | none => .next s
  | some k =>
    if k.ending = .none then
      let s1 := s.mapB closeGuards
      if s.owes s.cur.cell k.act then .next s1
      else if s.holder then .next (s1.mapT (fun k => { k with ending := .draining }))
      else .next ((s1.mapT (fun k => { k with ending := .releasing })).tendOut k sc)
    else if k.ending = .releasing then .next (s.tendOut k sc)
    else .next s

/-! ### TINFO (R390) -/

/-- BUDGET of a record. -/
def budgetOf (lr : Nat) : Nat := fld lr 479 448

/-- Cycles of a task that count against its budget (R381). -/
def State.usedCycles (s : State) (k : Task) : Nat :=
  match k.first with
  | none => 0
  | some f => s.gt.toNat - f - k.excl - (match k.exclFrom with | some e => s.gt.toNat - e | none => 0)

/-- Whether an event of a grid is active: its count is not 0, or a spawn waits for it (R380). -/
def State.evActive (s : State) (g n : Nat) : Bool :=
  ((look s.grids g).map (fun x => lookD x.events n 0)).getD 0 != 0 ||
    s.dies.any (fun d => d.2.dep.any (fun e => e.p.gid == g &&
      ((!e.ev0 && ((spWait e.p.desc 0).map (·.1)) == some n) || (!e.ev1 && ((spWait e.p.desc 1).map (·.1)) == some n))))

/-- The events of a grid that may be active: counted or waited for. -/
def State.evNames (s : State) (g : Nat) : List Nat :=
  ((((look s.grids g).map (·.events)).getD []).map (·.1) ++
    s.dies.flatMap (fun d => d.2.dep.flatMap (fun e => if e.p.gid = g then
      [spWait e.p.desc 0, spWait e.p.desc 1].filterMap (·.map (·.1)) else []))).eraseDups

/-- Active events of a grid. -/
def State.evCount (s : State) (g : Nat) : Nat := ((s.evNames g).filter (s.evActive g)).length

/-- Active events at a die that is the home of several grids' events (R380). -/
def State.evHome (s : State) (d : Nat) : Nat :=
  (s.grids.filter (fun g => g.2.resid != .saved && homeDieOf g.2.lr == d)).foldl (fun n g => n + s.evCount g.1) 0

/-- Active entries of a die's event table (R380). -/
def eventEntries : Nat := 4096

/-- Entries of the event table in use on a home die. -/
def State.evTable (s : State) (d : Nat) : Nat :=
  s.evHome d - (s.grids.filter (fun g => g.2.resid != .saved && homeDieOf g.2.lr == d)).foldl (fun n g => n + g.2.evSpill.length) 0

/-- Entries of a home die's event area in use. -/
def State.evArea (s : State) (d : Nat) : Nat :=
  (s.grids.filter (fun g => g.2.resid != .saved && homeDieOf g.2.lr == d)).foldl (fun n g => n + g.2.evSpill.length) 0

/-- An event's place brought up to date: an event newly active takes an entry of the table or, when none is
free, of the area, whose use is counted; one that is active no more leaves; a full area ends the grid
(R380). -/
def State.evPlace (s : State) (g n : Nat) (was : Bool) : State :=
  let d := homeDieOf (s.lr g)
  let isSpilled := ((look s.grids g).map (fun x => x.evSpill.contains n)).getD false
  let now := s.evActive g n
  let s1 := if isSpilled then s.countDie d g 0x108 else s
  if isSpilled && !now then s1.mapGrid g (fun x => { x with evSpill := x.evSpill.filter (· != n) })
  else if isSpilled || was || !now then s1
  else if s.evTable d ≤ eventEntries then s1
  else if (lookD s.plat.evArea d (0, 0)).2 / 64 ≤ s.evArea d then s1.endGrid g { status := 0x15 }
  else (s1.mapGrid g (fun x => { x with evSpill := x.evSpill ++ [n] })).countDie d g 0x108

/-- TINFO (R390). -/
def execTinfo (x : TinfoR) (s : State) : Out :=
  let c := s.cell s.cur.cell
  let v := match x.sel.toNat, s.b.task with
    | 0, some k => if budgetOf s.myLr = 0 then 2 ^ 64 - 1 else budgetOf s.myLr - s.usedCycles k
    | 1, _ => s.sends.length
    | 2, _ => (c.ready.filter (·.hi)).length * 256 + (c.ready.filter (fun r => !r.hi)).length
    | 3, _ => c.qhi.length * 256 + c.qlo.length
    | 4, some k => (if s.cur.hi then 256 else 0) + k.msg.handler
    | 5, _ => if ((look s.grids s.gid).map (·.resid)) == some .preempting then 1 else 0
    | 6, _ => (s.die (dieOf s.cur.cell)).dep.length
    | 7, _ => s.evHome (homeDieOf s.myLr)
    | _, _ => 0
  .next (s.finish x.a (BitVec.ofNat 64 v))

/-! ### Messages (R373) -/

/-- A queue of a cell. -/
def Cell.msgs (x : Cell) (hi : Bool) : List QMsg := if hi then x.qhi else x.qlo
/-- A queue of a cell replaced. -/
def Cell.setMsgs (x : Cell) (hi : Bool) (l : List QMsg) : Cell := if hi then { x with qhi := l } else { x with qlo := l }

/-- A message enters its queue, recorded (R373, R429). -/
def State.queueMsg (s : State) (g : Nat) (q : QMsg) : State :=
  let c := q.msg.dest
  (s.mapCell c (fun x => x.setMsgs q.msg.pri (x.msgs q.msg.pri ++ [q]))).recordKind g c 16 (2 * c + (if q.msg.pri then 1 else 0)) q.msg.id

/-- Whether an older message of the same task to the same cell and priority is still on its way (R373). -/
def msgBefore (n : Nat) (q : QMsg) (f : Fly) : Bool :=
  decide (f.n < n) && (match f.f with
    | .msg _ p => q.src.isSome && p.src == q.src && p.msg.dest == q.msg.dest && p.msg.pri == q.msg.pri
    | _ => false)

/-- Whether a message's entry into its queue is held by a replay (R430). -/
def State.msgHeld (s : State) (g : Nat) (q : QMsg) : Bool :=
  s.replayHolds g 16 (spillKey q.msg.dest q.msg.pri) q.msg.id

/-- The flits of a message: a header, and its argument bytes (R383, log 92). -/
def QMsg.flits (q : QMsg) : Nat := 1 + (q.msg.pay.length + 63) / 64

/-- MESSAGE_ARRIVAL: the queue takes it, or the overflow area of the die; a full area ends the grid; one from another die
arrives once all its flits are had, which it takes as they come (R373, R383). -/
def execMessageArrival (k : Nat) (s : State) : Out :=
  match s.flight k with
  | some ⟨n, from_, .msg g q⟩ =>
    let c := q.msg.dest
    if (look s.grids g).isNone then .next (s.land k)
    else if s.fly.any (msgBefore n q) || (s.cell c).grid != some g then .next s
    else
      let d := dieOf c
      let wait := decide (32 ≤ ((s.cell c).msgs q.msg.pri).length) ||
        (s.die d).spillQ.any (fun e => e.1 == g && e.2.1 == spillKey c q.msg.pri)
      if !wait && s.msgHeld g q then .next s
      else
      let need := if dieOf from_ = d then 0 else q.flits - q.paid
      let t := s.flitsUp g (dieOf from_) need
      if t.2 ≠ 0 then
        .next { t.1 with fly := t.1.fly.modify k (fun f => { f with f := .msg g { q with paid := q.flits - t.2 } }) }
      else
      let q := { q with paid := 0 }
      let s1 := t.1.land k
      if !wait then .next (s1.queueMsg g q)
      else if (lookD s.plat.msgArea d (0, 0)).2 / 256 ≤ (s.die d).spillQ.length then
        .next (s1.endGrid g { status := 0x14 })
      else
        .next ((s1.mapDie d (fun x => { x with spillQ := x.spillQ ++ [(g, spillKey c q.msg.pri, q)] })).countDie d g 0x107)
  | _ => .next s

/-- OVERFLOW_RETURN: the oldest message of a queue in the overflow area returns to it when an entry is
free (R373). -/
def execOverflowReturn (d i : Nat) (s : State) : Out :=
  let l := (s.die d).spillQ
  match l[i]? with
  | some (g, key, q) =>
    let c := q.msg.dest
    if (s.cell c).grid != some g || (l.take i).any (fun e => e.1 == g && e.2.1 == key) || decide (32 ≤ ((s.cell c).msgs q.msg.pri).length) then .next s
    else
      if s.msgHeld g q then .next s
      else .next ((s.mapDie d (fun x => { x with spillQ := x.spillQ.eraseIdx i })).queueMsg g q)
  | none => .next s

/-! ### The ready table and task start (R374, R375, R193, R371) -/

/-- Whether the ready table takes another entry of a bank (R374). -/
def Cell.readyRoom (x : Cell) (hi : Bool) : Bool :=
  decide (x.ready.length < 32) && (hi || decide ((x.ready.filter (fun r => !r.hi)).length < 24))

/-- READY_ENTRY_FILL: a task to be run again enters first, then the head of the queue (R374). -/
def execReadyEntryFill (c : Nat) (hi : Bool) (s : State) : Out :=
  let x := s.cell c
  if !x.readyRoom hi then .next s
  else
    match x.again.find? (fun r => r.hi == hi), x.msgs hi with
    | some r, _ => .next (s.setCell c { x with ready := x.ready ++ [{ r with pass := 0 }], again := x.again.erase r })
    | none, q :: rest =>
      let r : Ready := { hi := hi, msg := q.msg, pass := 0, dep := q.dep, batch := q.batch, bufs := q.bufs, sc := q.sc }
      .next (s.setCell c { x.setMsgs hi rest with ready := x.ready ++ [r] })
    | none, [] => .next s

/-- The ready table after an entry of a bank is taken: the older ones of its bank pass on (R375). -/
def passOver (l : List Ready) (r : Ready) : List Ready :=
  (l.erase r).map (fun q => if q.hi == r.hi && q.older r then { q with pass := q.pass + 1 } else q)

/-- A bank as a task finds it (R193): frame, argument block and information block in s2, s3, s60 to s62,
trap enables and BANK in st. -/
def freshBank (lr : Nat) (hi : Bool) (k : Task) (pc : Nat) : Bank :=
  let top := frameTop lr hi
  { s := [(2, BitVec.ofNat 64 (top - 256)), (3, BitVec.ofNat 64 (top - 256)), (60, BitVec.ofNat 64 (top - 192)),
          (61, BitVec.ofNat 64 (fld lr 319 256)), (62, 0x3FFC0#64)]
    st := BitVec.ofNat 64 (fld lr 429 424 * 2 ^ 8 + (if hi then 2 ^ 16 else 0))
    age := k.msg.age, msg := BitVec.ofNat 64 k.msg.id, pc := BitVec.ofNat 64 pc, task := some k, lastTag := some k.msg.handler }

/-- A task started in a bank from a ready entry, with its handler's entry as it was read: its frame written, its sets
declared, its registers given, its acquire made (R161, R193, R371, R145). -/
def State.startTask (s : State) (c g : Nat) (r : Ready) (h : Except Trap (Nat × State)) : State :=
  let lr := s.lr g
  let top := frameTop lr r.hi
  let k0 : Task := { gid := g, act := s.serial, msg := r.msg, slots := descSets (r.msg.hdr / 2 ^ 256), dep := r.dep,
                     batch := r.batch, bufs := r.bufs, sc := r.sc }
  let k := match h with | .ok _ => k0 | .error t => { k0 with xfault := some t }
  let pc := match h with | .ok e => e.1 | .error _ => 0
  let s1 := (match h with | .ok e => e.2 | .error _ => s).tick
  let n := r.msg.pay.length
  let s2 := s1.poke false (padKey c (top - 256)) 64 (r.msg.hdr) (fullMask 64)
  let s3 := s2.poke false (padKey c (top - 192)) n (ofBytes r.msg.pay) (fullMask n)
  let s4 := s3.mapBank c r.hi (fun _ => freshBank lr r.hi k pc)
  let s5 := if r.hi then s4.mapBank c false (fun b => b.mapTask (·.exclude s.gt.toNat)) else s4
  let s6 := if r.rerun then s5.countAset g 7 1 else s5
  (s6.recordKind g c 17 (spillKey c r.hi) r.msg.id).acquire c r.sc

/-- TASK_START: an idle bank takes an entry, the low bank only while the high bank is idle, at an issue
group's boundary, and none of a grid that is ending or being switched out, or that has a pending copy
to the cell (R137, R192, R375, R382, R420). -/
def execTaskStart (c : Nat) (hi : Bool) (s : State) : Out :=
  let x := s.cell c
  match x.grid with
  | none => .next s
  | some g =>
    let on := match look s.grids g with | some y => y.ending.isNone && y.resid == .running | none => false
    if !on || (x.bank hi).task.isSome || (if hi then x.lo.joint else x.hi.task.isSome) then .next s
    else
      match choose (x.ready.filter (fun r => r.hi == hi)) (x.bank hi).lastTag with
      | none => .next s
      | some r =>
        if s.replayHolds g 17 (spillKey c hi) r.msg.id || s.pendAt g c then .next s
        else
          let s1 := s.setCell c { x with ready := passOver x.ready r }
          match s1.handlerPc c g r.msg.handler with
          | .error none => .next s
          | .error (some t) => .next (s1.startTask c g r (.error t))
          | .ok e => .next (s1.startTask c g r (.ok e))

/-! ### The dependence table (R376 to R379) -/

/-- What a new spawn takes from one tile: the buffer assigned, the spawns it waits for, and the state in
which the tensor is renamed; a reader waits for the writer of the buffer it is assigned, while that is in the table
(R377, R378). -/
def State.tileEntry (s : State) (p : Spawn) (mine : List Dep) (acc : Map Nat × List Nat) (t : Nat × Nat) (write : Bool) :
    State × (Map Nat × List Nat) :=
  let d0 := homeDieOf (s.lr p.gid)
  let e := s.tidEnt p.gid d0 t.1
  if tValid e && bit e 15 then
    if write then
      let cur := (tCur e + 1) % (tPoolN e + 1)
      let w : Who := { cell := originOf (s.lr p.gid), hi := false, act := s.serial, msgid := 0, gid := p.gid }
      ((s.setTid p.gid d0 t.1 (tSetCur e cur)).toReplicas w t.1 (tSetCur e cur) 0 0,
        (put acc.1 t.1 cur, acc.2 ++ (mine.filter (fun m => look m.bufs t.1 == some cur)).map (·.p.msgid)))
    else
      let wr := (mine.filter (fun m => (spTiles m.p.desc true).any (fun x => x.1 == t.1) && look m.bufs t.1 == some (tCur e))).getLast?
      (s, (put acc.1 t.1 (tCur e), acc.2 ++ (wr.map (·.p.msgid)).toList))
  else
    (s, (acc.1, acc.2 ++ (mine.filter (fun m => (spTiles m.p.desc true).contains t ||
      (write && (spTiles m.p.desc false).contains t))).map (·.p.msgid)))

/-- Whether a wait of a spawn is met at entry (R380). -/
def State.metNow (s : State) (p : Spawn) (k : Nat) : Bool :=
  match spWait p.desc k with
  | none => true
  | some (n, th) => decide (th ≤ ((look s.grids p.gid).map (fun g => lookD g.events n 0)).getD 0)

/-- DEP_TABLE_ENTRY: a spawn enters its die's table, its orders and buffers taken from those before it
(R233, R376 to R380); an event that a wait makes active takes its place at its home (R380). -/
def execDepTableEntry (k : Nat) (s : State) : Out :=
  match s.flight k with
  | some ⟨n, _, .dep p sc⟩ =>
    if (look s.grids p.gid).isNone then .next (s.land k)
    else if s.fly.any (fun f => decide (f.n < n) && (match f.f with | .dep q _ => q.parent == p.parent | _ => false)) ||
        decide (4096 ≤ (s.die p.die).dep.length) then .next s
    else
      let mine := (s.die p.die).dep.filter (fun e => e.p.gid == p.gid)
      let bar := if bit (spCtl p.desc) 8 then (mine.filter (fun e => e.p.parent == p.parent)).map (·.p.msgid) else []
      let tiles := (spTiles p.desc false).map (fun t => (t, false)) ++ (spTiles p.desc true).map (fun t => (t, true))
      let r := tiles.foldl (fun (r : State × (Map Nat × List Nat)) t => r.1.tileEntry p mine r.2 t.1 t.2) (s.land k, ([], bar))
      let waits := (spWait p.desc 0).isSome || (spWait p.desc 1).isSome
      let e : Dep := { p := p, after := r.2.2.eraseDups, ev0 := s.metNow p 0, ev1 := s.metNow p 1, started := false, bufs := r.2.1
                       sc := if waits then Scope.wider sc .pkg else sc }
      let names := ([(e.ev0, spWait p.desc 0), (e.ev1, spWait p.desc 1)].filterMap (fun w => if w.1 then none else w.2.map (·.1))).eraseDups
      .next (names.foldl (fun t n => t.evPlace p.gid n (s.evActive p.gid n)) (r.1.mapDie p.die (fun x => { x with dep := x.dep ++ [e] })))
  | _ => .next s

/-- The cell of some with the fewest ready entries of a bank, the first of equals (R376). -/
def State.fewest (s : State) (hi : Bool) : List Nat → Option Nat
  | [] => none
  | c :: l =>
    let n (c : Nat) : Nat := ((s.cell c).ready.filter (fun r => r.hi == hi)).length
    match s.fewest hi l with
    | some b => some (if n c ≤ n b then c else b)
    | none => some c

/-- The cell that created a message id (R372). -/
def msgCell (id : Nat) : Nat := cellAt (fld id 31 29) (fld id 28 19)

/-- The home of a spawn's placement tile, under the buffer that the tensor's entry has at that moment; none while the
walk waits for a slot (R376, R383, log 88). -/
def State.tileHome (s : State) (e : Dep) : Option (Nat × State) :=
  let lr := s.lr e.p.gid
  let t := spTile e.p.desc (fld (spCtl e.p.desc) 40 38)
  let x := s.tidEnt e.p.gid e.p.die (fld t 115 104)
  let i (k : Nat) : Nat := fld t (16 * k + 15) (16 * k) * tTs x k
  let a := tAddr x (i 0) (i 1) (i 2) (i 3)
  let at_ (home : Option Nat) (s : State) : Option (Nat × State) :=
    some ((match home with | some c => if inRect lr c then c else originOf lr | none => originOf lr), s)
  if !tValid x then at_ none s
  else if tSpace x = 0 then
    match s.walk e.p.die e.p.gid (asidOf lr) a 4 with
    | .ok r => at_ (if inGlobal (r.1.pa a) then some (cellIn (64 * homeDie (r.1.pa a) + homeSlice (r.1.pa a)) 0) else none) r.2
    | .error (some r) => at_ none r.2
    | .error none => none
  else at_ (if isPad (tSpace x) && fitsForm (tSpace x) a then some (formCell (msgCell e.p.msgid) (tSpace x) a) else none) s

/-- The placement of a spawn, and the state after it has been found (R376). -/
def State.placement (s : State) (e : Dep) : Option (Nat × State) :=
  let c := spCtl e.p.desc
  match spPlace e.p.desc with
  | 0 => some (fld c 28 16, s)
  | 1 => some ((s.fewest (bit c 9) (subCells (fld c 28 16) (fld c 34 32) (fld c 37 35))).getD (fld c 28 16), s)
  | _ => s.tileHome e

/-- SPAWN_READY: a spawn whose orders and events are met goes as a message to its placement (R376). -/
def execSpawnReady (d i : Nat) (s : State) : Out :=
  match (s.die d).dep[i]? with
  | some e =>
    if e.started || !e.after.isEmpty || !e.ev0 || !e.ev1 then .next s
    else
      match s.placement e with
      | none => .next s
      | some (dest, s) =>
      let p := e.p
      let m : Msg := { hdr := mkHdr p.age.toNat p.gts p.msgid dest (spHandler p.desc) 64 (bit (spCtl p.desc) 9) (spSets p.desc)
                       pay := bytesOf 64 p.desc }
      .next ((s.mapDie d (fun x => { x with dep := x.dep.set i { e with started := true } })).send (msgCell p.msgid)
        (.msg p.gid { msg := m, dep := some (d, p.msgid), bufs := e.bufs, sc := e.sc }))
  | none => .next s

/-! ### The time budget (R381) -/

/-- WDOG: a task whose cycles exceed BUDGET raises WDOG. -/
def execWdog (c : Nat) (hi : Bool) (s : State) : Out :=
  match (s.bank c hi).task with
  | some k =>
    let b := budgetOf (s.lr k.gid)
    if b ≠ 0 ∧ b < s.usedCycles k ∧ k.halted.isNone ∧ k.ending ≠ .draining ∧ k.ending ≠ .drained then
      .next (s.takeTrap c hi { cause := .wdog, pc := (s.bank c hi).pc.toNat, detail := s.usedCycles k, insn := insnAt (s.bank c hi) (s.bank c hi).pc.toNat })
    else .next s
  | none => .next s

end Sys2Proof.Machine
end

