-- ==== Sys2Proof/Machine/Gates.lean ====
section
/-!
DEFINITION. Machine/Gates.lean: the gates of a die and their batches (17 R397 to R399), and the receiving
side and the end of stream migration (17 R403, 19 R446).
-/

namespace Sys2Proof.Machine

/-! ### Gate entries (R397) -/

/-- LISTBASE. -/
def gListBase (e : Nat) : Nat := fld e 127 64
/-- TIMEOUT. -/
def gTimeout (e : Nat) : Nat := fld e 63 48
/-- The batch size. -/
def gBatch (e : Nat) : Nat := fld e 47 41 + 1
/-- List slots of a die. -/
def gSlots (e : Nat) : Nat := fld e 40 36 + 1
/-- The placement rectangle's cells in rank order. -/
def gCells (e : Nat) : List Nat := subCells (fld e 19 14 * 128 + fld e 26 20) (fld e 13 11) (fld e 10 8)

/-! ### Batches (R398, R399) -/

/-- Whether a grid runs and has not begun to end. -/
def State.gridOn (s : State) (g : Nat) : Bool :=
  match look s.grids g with | some x => x.ending.isNone && x.resid != .saved | none => false

/-- A list of streams by age, the oldest first (R393, R169). -/
def State.byAge (s : State) (l : List Nat) : List Nat :=
  let age (i : Nat) : Word := ((s.sEnt i).map (·.age)).getD 0
  l.mergeSort (fun a b => older (age a) a (age b) b || a == b)

/-- The list writes of a batch, from cluster 0 of the die (R399). -/
def State.listWrites (s : State) (d g pa : Nat) (ids : List Nat) : State :=
  ((List.range ids.length).zip ids).foldl (fun s (j, i) =>
    s.send (cellAt d 0) (.access { cell := cellAt d 0, hi := false, task := false, gid := g, asid := asidOf (s.lr g), msgid := 0
                                   act := 0, pc := 0, ea := pa + 4 * j, loc := .home (pa + 4 * j), n := 4
                                   op := .store i (fullMask 4) 8 })) s

/-- A batch formed of the oldest parked streams: its slot taken, its list on the way; a slot that does
not translate to writable global memory ends the grid (R398, R399). -/
def State.formBatch (s : State) (d key e : Nat) (x : Gate) : State :=
  let g := key / 1024
  let slot := x.next % gSlots e
  let ids := (s.byAge x.parked).take (gBatch e)
  if x.busy.contains slot || ids.isEmpty ||
      s.replayHolds g 21 (key % 1024 + d * 1024) (x.next * 256 + ids.length) then s
  else
    let bad (c : Cause) : State := s.endGrid g { status := 0x10, cause := c.code, fpc := 0, detail := cellAt d 0
                                                 fdetail := key % 1024 + d * 2 ^ 16 }
    match s.walk d g (asidOf (s.lr g)) (gListBase e + 512 * (32 * d + slot)) 1 with
    | .error none => s
    | .error (some t) => bad t.1.cause
    | .ok (t, s1) =>
      let pa := t.pa (gListBase e + 512 * (32 * d + slot))
      if !inGlobal pa then bad .xltPhys
      else
        let age := ((s.sEnt (ids.headD 0)).map (·.age)).getD 0
        let b : Batch := { ids := ids, mine := ids, num := x.next, slot := slot, age := age, gid := g, mark := s1.serial }
        let x1 := { x with parked := x.parked.filter (fun i => !ids.contains i), next := (x.next + 1) % 2 ^ 64
                           busy := slot :: x.busy, batches := x.batches ++ [b] }
        let s2 := s1.mapDie d (fun y => { y with gates := put y.gates key x1 })
        (s2.listWrites d g pa ids).recordKind g (originOf (s.lr g)) 21 (key % 1024 + d * 1024) (x.next * 256 + ids.length)

/-- A gate's step, when its grid runs and the gate is configured. -/
def State.onGate (s : State) (d key : Nat) (f : Nat → Gate → State) : Out :=
  match look (s.die d).gates key, s.gateCfg (key / 1024) (key % 1024) with
  | some x, some e => if s.gridOn (key / 1024) then .next (f e x) else .next s
  | _, _ => .next s

/-- GATE_BATCH_FORM: enough streams are parked (R398). -/
def execGateBatchForm (d key : Nat) (s : State) : Out :=
  s.onGate d key (fun e x => if gBatch e ≤ x.parked.length then s.formBatch d key e x else s)

/-- GATE_TIMEOUT: the earliest arrival lies TIMEOUT cycles back (R398). -/
def execGateTimeout (d key : Nat) (s : State) : Out :=
  s.onGate d key (fun e x =>
    let due := x.parked.any (fun i => match s.sEnt i with
      | some q => decide (gTimeout e ≤ s.gt.toNat - q.arrived)
      | none => false)
    if gTimeout e ≠ 0 ∧ due then s.formBatch d key e x else s)

/-- Whether every list write of a batch has arrived at its home slice. -/
def State.listed (s : State) (b : Batch) : Bool :=
  s.fly.all (fun f => !(decide (b.mark ≤ f.n) && decide (f.n < b.mark + b.ids.length)) || f.f.coming?.isNone)

/-- The streams of a sent batch that have not left the gate: DISP set, and pages that were not pinned filled (R103, R394,
R399). -/
def State.dispatch (s : State) (ids : List Nat) : State :=
  ids.foldl (fun s i => match s.sEnt i with
    | some q =>
      if q.status = .atGate then
        let s1 := s.setStream i { q with disp := true }
        if q.pinned then s1 else ((s1.die (sidDie i)).pagesOf q).foldl (fun s p => s.fillPage (sidDie i) p) s1
      else s
    | none => s) s

/-- GATE_BATCH_SEND: the message of a batch whose list has arrived goes to the placement cell (R399). -/
def execGateBatchSend (d key : Nat) (s : State) : Out :=
  s.onGate d key (fun e x =>
    match x.batches.find? s.listed with
    | none => s
    | some b =>
      match s.fewest (bit e 35) (gCells e) with
      | none => s
      | some c =>
        let r := s.newMsgId c
        let layer := key % 1024
        let pay := gListBase e + 512 * (32 * d + b.slot) + b.ids.length * 2 ^ 64 + layer * 2 ^ 96 + d * 2 ^ 112 + b.num * 2 ^ 128
        let m : Msg := { hdr := mkHdr b.age.toNat s.gt.toNat r.1 c (fld e 34 27) 32 (bit e 35) 0, pay := bytesOf 32 pay }
        let s1 := r.2.mapDie d (fun y => { y with gates := put y.gates key { x with batches := x.batches.erase b } })
        (s1.send (cellAt d 0) (.msg b.gid { msg := m, batch := some (d, key, b.slot), sc := .pkg })).dispatch b.mine)

/-! ### Migration (R403, R446) -/

/-- Whether a transfer that comes in is that of a package and number. -/
def MigIn.isOf (m : MigIn) (src xfer : Nat) : Bool := m.src == src && m.xfer == xfer

/-- Whether a packet of a transfer has the form of R444: at most 2 KiB of one page, or at most 64 queue elements; one
that has not is dropped (log 91). -/
def migFits : MigPart → Bool
  | .entry _ => true
  | .queue l => decide (l.length ≤ 64)
  | .page i off data => decide (i < 256) && decide (data.length ≤ 2048) && decide (off + data.length ≤ 32768)

/-- A transfer with one more packet. -/
def MigIn.add (m : MigIn) (p : MigPacket) : MigIn :=
  let m1 : MigIn := match p.part with
    | .entry e => { m with entry := some e.toNat }
    | .queue l => { m with queue := l.map (·.toNat) }
    | .page i off data => { m with pages := m.pages ++ [(i, off, data)] }
  { m1 with last := p.last }

/-- Whether the answer to a transfer is lost: the port by which it leaves has failed, or a bridge between its die and that
of the port (R15, R421). -/
def State.ackLost (s : State) (m : MigIn) : Bool :=
  (portTo s.plat.at_ (coordsOf m.src)).any (fun k => s.plat.down.contains (.port k) || s.cut m.die k)

/-- The answer to a transfer: one that is whole leaves the list of those that come in, and of another the packets
still to come are dropped, so that each transfer has one MIGACK. It is lost where a link on its way to the port has failed
(R15, R421, R446). -/
def State.migAnswer (s : State) (m : MigIn) (status newId : Nat) : State :=
  s.mapPlat (fun q => { q with
    migIn := if m.last then q.migIn.filter (fun x => !x.isOf m.src m.xfer)
      else q.migIn.map (fun x => if x.isOf m.src m.xfer then { m with refused := true } else x)
    sent := if s.ackLost m then q.sent else q.sent ++ [.migack m.src m.xfer status newId] })

/-- A transfer that came too late is refused, with one of the three statuses (R446, log 7). -/
def State.migRefuse (s : State) (m : MigIn) : State :=
  let r := s.freeVal
  r.2.migAnswer m ([ssNogrid, ssNostream, ssNopage].getD (r.1 % 3) ssNogrid) 0

/-- Whether a transfer's time has passed (R446). -/
def State.migLate (s : State) (m : MigIn) : Bool := decide (m.since + 2 ^ 24 ≤ s.gt.toNat)

/-- MIGREQ: a packet of a transfer arrives at the destination. One that comes 2^24 cycles after the first has the
transfer refused; what comes after a refusal is dropped, and so is what a failed port loses, or a failed bridge between
the port's die and the one it goes to (R15, R421, R446). -/
def execMigreq (p : MigPacket) (s : State) : Out :=
  if s.plat.lost p.src p.die.toNat s.cut || !migFits p.part then .next s
  else
    match s.plat.migIn.find? (fun m => m.isOf p.src p.xfer) with
    | none =>
      let m : MigIn := { src := p.src, xfer := p.xfer, gangid := p.gangid, die := p.die.toNat, since := s.gt.toNat
                         entry := none, queue := [], pages := [], last := false }
      .next (s.mapPlat (fun q => { q with migIn := q.migIn ++ [m.add p] }))
    | some m =>
      if m.last then .next s
      else if m.refused then
        .next (if p.last then s.mapPlat (fun q => { q with migIn := q.migIn.filter (fun x => !x.isOf p.src p.xfer) }) else s)
      else if s.migLate m then .next (s.migRefuse { m with last := p.last })
      else .next (s.mapPlat (fun q => { q with migIn := q.migIn.map (fun x => if x.isOf p.src p.xfer then m.add p else x) }))

/-- MIGRATION_RECEIPT: a whole transfer is taken by the resident grid of its gang on its die, or refused;
it waits for frames (R403). -/
def execMigrationReceipt (i : Nat) (s : State) : Out :=
  match s.plat.migIn[i]? with
  | some m =>
    if !m.last then .next s
    else
      let d := m.die
      let x := s.die d
      match (s.resident d).find? (fun g => gangv g.2 && gangidOf g.2 == m.gangid) with
      | none => .next (s.migAnswer m ssNogrid 0)
      | some (g, lr) =>
        match (freeStreams x 0 1 []).head?, x.pool.create streamMaps with
        | some ent, some (map, pool) =>
          let idxs := (m.pages.map (·.1)).eraseDups
          let w := idxs.foldl (fun (r : Option (Pool × List (Nat × Nat))) j =>
            r.bind (fun r => (r.1.write (s.statePages d) [] map j).map (fun w => (w.pool, r.2 ++ [(j, w.page)])))) (some (pool, []))
          (match w with
           | none => .next (s.migAnswer m ssNopage 0)
           | some (pool2, at_) =>
             if x.freeFrames < at_.length then .next s
             else
               let s1 := s.mapDie d (fun y => at_.foldl (fun y p => y.bring p.2) { y with pool := pool2 })
               let s2 := at_.foldl (fun s p => { s with mem := memClear s.mem (hearthKey d p.2 0) 32768
                                                        poison := poisonOff s.poison (hearthKey d p.2 0) 32768 }) s1
               let s3 := m.pages.foldl (fun s p => s.mapMem (fun mm => memPut mm (hearthKey d (lookD at_ p.1 0) p.2.1) p.2.2)) s2
               let e := m.entry.getD 0
               let q : Stream := { status := .live, gid := g, asid := asidOf lr, map := map, ret := fld e 511 480, disc := fld e 479 448
                                   jval := fld e 447 416, jwin := fld e 415 399, horizon := fld e 372 357, steps := fld e 356 341
                                   queue := m.queue, owner := originOf lr, pers := bit e 233, age := BitVec.ofNat 64 (fld e 63 0) }
               let id := d * 2 ^ 14 + ent
               .next ((s3.setStream id q).migAnswer m 0 id))
        | _, _ => .next (s.migAnswer m ssNostream 0)
  | none => .next s

/-- MIGRATION_TIMEOUT: a transfer that is not whole after 2^24 cycles is refused, with one of the three
statuses (R446, log 7). -/
def execMigrationTimeout (i : Nat) (s : State) : Out :=
  match s.plat.migIn[i]? with
  | some m =>
    if m.last || m.refused || !s.migLate m then .next s else .next (s.migRefuse m)
  | none => .next s

/-- Whether a stream is the one that a transfer moves. -/
def Stream.moves (e : Stream) (xfer : Nat) : Bool := e.mig && e.xfer == xfer

/-- The entry of a stream in transfer gone, or kept and unfrozen, in a table of entries. -/
def migEnds (l : Map Stream) (sid xfer : Nat) (gone : Bool) : Map Stream :=
  if gone then l.filter (fun e => !(e.1 == sid && e.2.moves xfer))
  else l.map (fun e => (e.1, if e.1 == sid && e.2.moves xfer then { e.2 with mig := false } else e.2))

/-- The end of a stream's transfer at its source, the entry in its table or saved with a grid: an accepted stream is
freed, its link dropped and its sequence left as it is; a refused one is kept unchanged but unfrozen (R403, log 90). -/
def State.migEnd (s : State) (sid xfer : Nat) (gone : Bool) : State :=
  let held := (s.sEnt sid).toList ++ s.grids.flatMap (fun g => (look g.2.savedStreams sid).toList)
  match held.find? (fun e => e.moves xfer) with
  | none => s
  | some e =>
    let s1 := if gone then
        (if e.lnk then s.linkSeq e.seq none else s).mapDie (sidDie sid) (fun d => { d with pool := d.pool.release e.map })
      else s
    let s2 := match (s1.sEnt sid).filter (fun e => e.moves xfer) with
      | some e => if gone then s1.delStream sid else s1.setStream sid { e with mig := false }
      | none => s1
    { s2 with grids := s2.grids.map (fun g => (g.1, { g.2 with savedStreams := migEnds g.2.savedStreams sid xfer gone })) }

/-- MIGACK: an accepted stream is freed and its new id given; a refused one is kept, unfrozen; nothing comes in on a
failed link, a port's or a bridge's on the way to the stream's die (R15, R403, R421). -/
def execMigack (xfer : Nat) (status : BitVec 16) (newId : Nat) (s : State) : Out :=
  match s.fly.findIdx? (fun f => match f.f with | .mig _ _ _ x => x == xfer | _ => false) with
  | none => .next s
  | some k =>
    match s.flight k with
    | some ⟨_, _, .mig w sid dst _⟩ =>
      let s2 := (s.land k).migEnd sid xfer (status = 0)
      let r := if status = 0 then (newId, s2) else s2.freeVal
      let s3 := r.2.answerReg w dst (status.toNat * 2 ^ 48 + r.1 % 2 ^ 48)
      let sc := if sidDie sid = dieOf w.cell then Scope.die else Scope.pkg
      .next (if s3.live w.cell w.hi w.act then s3.acquire w.cell sc else s3)
    | _ => .next s

end Sys2Proof.Machine
end

