-- ==== Sys2Proof/Machine/Events.lean ====
section
/-!
DEFINITION. Machine/Events.lean: class 0x23 and the events of a grid at their home (16 R380, R386, R391).
-/

namespace Sys2Proof.Machine

/-- An event instruction on its way to the home, its register pending (R391). -/
def State.sendEvent (s : State) (e : EvOp) (r : RegSpec) : State :=
  ((s.send s.cur.cell (.event s.who e r)).mapB (fun b => addPend b r)).retire

/-- The event that an instruction names (R391). -/
def State.evName (s : State) (c : RegSpec) (name : BitVec 16) : Nat := ((s.rd c).toNat + name.toNat) % 2 ^ 16

/-- EVSIG, EVSET and EVCLR: a holder may not; a release comes first (R391, R174). -/
def State.evChange (s : State) (kind name val : Nat) (r : RegSpec) (sc : Scope) : Out :=
  if s.holder then .next (s.trap .asetIrrev 0 0)
  else
    match s.release sc with
    | .error t => .next t
    | .ok t => .next (t.sendEvent { kind := kind, name := name, val := val, acq := none } r)

/-- EVSIG (R391). -/
def execEvsig (x : EvR) (s : State) : Out :=
  s.evChange 0 (s.evName x.c x.name) ((s.rd x.b).toNat % 2 ^ 32) x.a x.sc

/-- EVSET (R391). -/
def execEvset (x : EvR) (s : State) : Out :=
  s.evChange 1 (s.evName x.c x.name) ((s.rd x.b).toNat % 2 ^ 32) x.a x.sc

/-- EVCLR (R391). -/
def execEvclr (x : EvcR) (s : State) : Out := s.evChange 2 (s.evName x.c x.name) 0 x.a x.sc

/-- EVREAD: the answer is followed by an acquire (R391). -/
def execEvread (x : EvcR) (s : State) : Out :=
  .next (s.sendEvent { kind := 3, name := s.evName x.c x.name, val := 0, acq := some x.sc } x.a)

/-- The count that an event operation leaves (R391). -/
def EvOp.newCount (e : EvOp) (old : Nat) : Nat :=
  match e.kind with
  | 0 => Nat.min (old + e.val) (2 ^ 32 - 1)
  | 1 => e.val
  | 2 => 0
  | _ => old

/-- The waits on an event that a count meets; they stay met (R380). -/
def State.meetWaits (s : State) (g n count : Nat) : State :=
  let met (p : Spawn) (k : Nat) : Bool := match spWait p.desc k with
    | some (m, th) => m == n && decide (th ≤ count)
    | none => false
  { s with dies := s.dies.map (fun (d, x) => (d, { x with dep := x.dep.map (fun e =>
      if e.p.gid = g then { e with ev0 := e.ev0 || met e.p 0, ev1 := e.ev1 || met e.p 1 } else e) })) }

/-- EVENT_HOME_ARRIVAL: an event operation takes effect, meets the waits, and answers, one from another die once its flits
are had (R380, R383, R391, R429). -/
def execEventHomeArrival (k : Nat) (s : State) : Out :=
  match s.flight k with
  | some ⟨_, _, .event w e dst⟩ =>
    if (look s.grids w.gid).isNone then .next (s.land k)
    else
      let old := ((look s.grids w.gid).map (fun g => lookD g.events e.name 0)).getD 0
      let new := e.newCount old
      if e.kind ≠ 3 ∧ s.replayHolds w.gid 19 e.name (old * 2 ^ 32 + new) then .next s
      else
        match s.roundTrip w.gid (dieOf w.cell) (homeDieOf (s.lr w.gid)) with
        | none => .next s
        | some s =>
        let was := s.evActive w.gid e.name
        let s1 := (s.land k).mapGrid w.gid (fun g => { g with
          events := if new = 0 then del g.events e.name else put g.events e.name new })
        let s2 := (s1.meetWaits w.gid e.name new).evPlace w.gid e.name was
        let s3 := if e.kind = 3 then s2 else s2.recordKind w.gid w.cell 19 e.name (old * 2 ^ 32 + new)
        let s4 := s3.answerReg w dst old
        .next (match e.acq with
          | some sc => if s4.live w.cell w.hi w.act then s4.acquire w.cell sc else s4
          | none => s4)
  | _ => .next s

end Sys2Proof.Machine
end

