-- ==== Sys2Proof/Machine/Launch.lean ====
section
/-!
DEFINITION. Machine/Launch.lean: launch queues, the check of a launch record, admission and the completion
record (16 R364 to R371, 19 R439, R440).
-/

namespace Sys2Proof.Machine

/-! ### The completion record (R370) -/

/-- The 64 bytes of a completion record. -/
def completionOf (gt lr gtStart tasks abandon : Nat) (e : EndInfo) : Nat :=
  gt % 2 ^ 64 * 2 ^ 448 + gtStart % 2 ^ 64 * 2 ^ 384 + tasks % 2 ^ 64 * 2 ^ 320 + abandon % 2 ^ 32 * 2 ^ 288 +
    e.fpc % 2 ^ 64 * 2 ^ 192 + fld lr 127 96 * 2 ^ 160 + asidOf lr * 2 ^ 144 + e.detail % 2 ^ 32 * 2 ^ 96 +
    e.fdetail % 2 ^ 32 * 2 ^ 64 + e.cause % 2 ^ 16 * 2 ^ 48 + e.status % 2 ^ 16

/-- The completion record written at COMPL, or the host's interrupt when COMPL does not translate for a
write. -/
def State.completion (s : State) (lr gtStart tasks : Nat) (e : EndInfo) : State :=
  let ab := if gangv lr then lookD s.plat.abandons (gangidOf lr) 0 else 0
  let va := fld lr 639 576
  match s.walk (dieOf (originOf lr)) noGrid (asidOf lr) va 1 with
  | .error r => ((r.map (·.2)).getD s).mapPlat (fun p => { p with irqs := p.irqs ++ [.completion (fld lr 127 96) (asidOf lr) e.status] })
  | .ok (t, s1) => s1.poke true (t.pa va) 64 (completionOf s.gt.toNat lr gtStart tasks ab e) (fullMask 64)

/-! ### The queues (R440) -/

/-- A launch queue. -/
def State.lq (s : State) (q : Nat) : LQueue := lookD s.plat.queues q {}
/-- A launch queue replaced. -/
def State.setLq (s : State) (q : Nat) (x : LQueue) : State := s.mapPlat (fun p => { p with queues := put p.queues q x })

/-- QTAIL_WRITE: the host writes a queue's tail; queue numbers are taken modulo 64. -/
def execQtailWrite (q : Nat) (v : BitVec 32) (s : State) : Out :=
  .next (s.setLq (q % 64) { s.lq (q % 64) with tail := v.toNat })

/-- The head record leaves its queue: QHEAD rises. -/
def State.advanceQueue (s : State) (q : Nat) : State :=
  let x := s.lq q
  s.setLq q { x with head := (x.head + 1) % 2 ^ 32, pending := none }

/-- A launch refused with a status: its completion record, whose GTSTART is not stated, and the queue
advanced; the count of abandoned slices stays that of its gang's grids (R366, log 7). -/
def State.refuse (s : State) (q lr status detail : Nat) : State :=
  let f := s.freeVal
  (f.2.completion lr f.1 0 { status := status, detail := detail }).advanceQueue q

/-! ### The check of a record (R366) -/

/-- The fields of a record that must be zero (R364). -/
def lrZeros (lr : Nat) : Bool :=
  fld lr 2047 945 == 0 && fld lr 895 888 == 0 && fld lr 735 720 == 0 && fld lr 447 439 == 0 && fld lr 431 430 == 0 &&
    fld lr 423 423 == 0 && fld lr 403 403 == 0 && fld lr 399 397 == 0 && fld lr 255 243 == 0 && fld lr 207 201 == 0

/-- The 4 KiB blocks of save area that a grid needs (R426). -/
def saveBlocks (lr : Nat) : Nat := 1 + 66 * (2 ^ fld lr 239 237 * 2 ^ fld lr 242 240) + 24576 * (diesOf lr).length

/-- The bytes of save area that a grid needs, a tag to each block (R426). -/
def saveNeed (lr : Nat) : Nat := saveBlocks lr * 4096 + 16 * saveBlocks lr

/-- Whether the context's save area holds a grid (R426, R439). -/
def State.savable (s : State) (lr : Nat) : Bool :=
  decide (saveNeed lr ≤ fld (lookD s.ctx (asidOf lr) 0) 387 364 * 4096)

/-- Whether a record's rectangle is aligned and in the package (R365). -/
def rectOk (lr : Nat) : Bool :=
  let w := 2 ^ fld lr 239 237
  let h := 2 ^ fld lr 242 240
  fld lr 230 224 % w == 0 && fld lr 236 231 % h == 0 && decide (fld lr 230 224 + w ≤ 128) && decide (fld lr 236 231 + h ≤ 64)

/-- NTID of a record. -/
def ntidOf (lr : Nat) : Nat := fld lr 396 384
/-- NGATE of a record. -/
def ngateOf (lr : Nat) : Nat := fld lr 719 704
/-- FRAMEKB of a record. -/
def framekb (lr : Nat) : Nat := fld lr 438 432

/-- The checks of status FIELD that the record and the context entry alone decide (R366, R439). -/
def State.fieldOk (s : State) (lr : Nat) : Bool :=
  lrZeros lr && decide (1 ≤ framekb lr) && decide (framekb lr ≤ 64) && decide (1 ≤ nhand lr) && decide (nhand lr ≤ 256) &&
    decide (ntidOf lr ≤ 4096) && decide (ngateOf lr ≤ 1024) && (!gangv lr || decide (16 ≤ fld lr 943 928)) &&
    fld lr 639 576 % 64 == 0 && (match superOf lr with | some c => inRect lr c | none => true) &&
    (!gangv lr || s.savable lr) && (!recording lr || fld (lookD s.ctx (asidOf lr) 0) 459 440 != 0)

/-- Whether CODEBASE and CODELEN keep their rules (R24, R364). -/
def codeOk (lr : Nat) : Bool := fld lr 63 0 % 64 == 0 && fld lr 95 64 % 64 == 0 && decide (64 ≤ fld lr 95 64)

/-- Whether a valid gate entry keeps the rules of R397, with the handler table that was read. -/
def gateOk (lr htab e : Nat) : Bool :=
  gListBase e % 512 == 0 && fld e 7 1 == 0 && decide (fld e 34 27 < nhand lr) &&
    fld htab (64 * fld e 34 27 + 63) (64 * fld e 34 27) != 0 &&
    subOk lr (fld e 19 14 * 128 + fld e 26 20) (fld e 13 11) (fld e 10 8)

/-- The records of the tensor-identifier image, or the index of the first that cannot be read. -/
def State.readTids (s : State) (d asid va : Nat) : Nat → Nat → Except Nat (List Nat × State)
  | 0, _ => .ok ([], s)
  | n + 1, k =>
    match s.vget d noGrid asid (va + 72 * k) 72 with
    | .error _ => .error k
    | .ok r =>
      match State.readTids r.2 d asid va n (k + 1) with
      | .error j => .error j
      | .ok t => .ok (r.1 :: t.1, t.2)

/-- The entries of an image, or the id of the first that fails R232, names an id twice, or is no id. -/
def tidTable (lr : Nat) : List Nat → List Nat → Map Nat → Except Nat (Map Nat)
  | [], _, m => .ok m
  | r :: l, seen, m =>
    let id := r % 2 ^ 64
    let e := r / 2 ^ 64 % 2 ^ 512
    if 4096 ≤ id || seen.contains id || (tValid e && tidCheck lr e != 0) then .error id
    else tidTable lr l (id :: seen) (if tValid e then put m id (tSetCur e 0) else m)

/-- The ranks of the clusters that FUSEMAP or FUSEALL names, all 512 for FUSEALL. -/
def fuseOf (lr map : Nat) : List Nat := (List.range 512).filter (fun c => bit lr 421 || bit map c)

/-- Whether every area of R441 has been set. -/
def Plat.areasSet (p : Plat) : Bool :=
  (List.range 8).all (fun d => (look p.msgArea d).isSome && (look p.evArea d).isSome && (look p.lockArea d).isSome &&
    (look p.hearthArea d).isSome) && p.gangArea.isSome && p.coords.isSome

/-- Whether an ASID's context is being removed (R428). -/
def State.removing (s : State) (asid : Nat) : Bool := s.plat.removals.any (fun r => r.asid == asid)

/-- The copies kept of a record that passes, or the status and DETAIL of the first check it fails (R366). -/
def State.checkLaunch (s : State) (lr : Nat) : Except (Nat × Nat) (Launch × State) :=
  let a := asidOf lr
  let d := dieOf (originOf lr)
  if !s.plat.areasSet then .error (3, 0)
  else if a = 0 || !bit (lookD s.ctx a 0) 0 || s.removing a then .error (1, 0)
  else if !rectOk lr then .error (2, 0)
  else if !s.fieldOk lr then .error (3, 0)
  else if !codeOk lr then .error (4, 0)
  else
    match s.vget d noGrid a (fld lr 191 128) (8 * nhand lr) with
    | .error _ => .error (5, 0)
    | .ok (htab, s1) =>
      if htab % 2 ^ 64 = 0 || ((superOf lr).isSome && (decide (nhand lr < 2) || fld htab 127 64 == 0)) then .error (5, 0)
      else
        match s1.vget d noGrid a (fld lr 703 640) (16 * ngateOf lr) with
        | .error _ => .error (3, 0)
        | .ok (gates, s2) =>
          let gs := (List.range (ngateOf lr)).map (fun k => (k, fld gates (128 * k + 127) (128 * k)))
          if gs.any (fun g => bit g.2 0 && !gateOk lr htab g.2) then .error (3, 0)
          else
            match s2.vget d noGrid a (fld lr 575 512) (if bit lr 421 || fld lr 575 512 == 0 then 0 else 64) with
            | .error _ => .error (3, 0)
            | .ok (map, s3) =>
              match s3.readTids d a (fld lr 383 320) (ntidOf lr) 0 with
              | .error k => .error (6, 2 ^ 31 + k)
              | .ok (rs, s4) =>
                match tidTable lr rs [] [] with
                | .error id => .error (6, id % 2 ^ 32)
                | .ok tid =>
                  if [Slot.hbm, .hs, .flit, .cq, .tongs].any (fun k => decide (k.cap < reserved lr k)) then .error (7, 0)
                  else .ok ({ lr := lr, gates := gs, fuse := fuseOf lr map, tid := tid }, s4)

/-- Whether every die has verified firmware that runs: until then the package is in reset, and its queues rest (R448,
log 94). -/
def Plat.up (p : Plat) : Bool := (List.range 8).all p.booted.contains

/-- LAUNCH_RECORD_CHECK: the record at the head of a queue is read once, and refused or kept; a ring entry
or a record outside the map of R56 stops the machine (R366, R440, R441). -/
def execLaunchRecordCheck (q : Nat) (s : State) : Out :=
  let x := s.lq q
  if 64 ≤ q || x.head = x.tail || x.pending.isSome || !s.plat.up || s.plat.quench.isSome then .next s
  else
    let ra := x.base + 8 * (x.head % 2 ^ x.log)
    let pa := memRead s.mem ra 8
    if 2 ^ 41 < ra + 8 || 2 ^ 41 < pa + 256 then .fault .physicalHole
    else
      let lr := memRead s.mem pa 256
      match s.checkLaunch lr with
      | .error (st, detail) => .next (s.refuse q lr st detail)
      | .ok (l, t) => .next (t.setLq q { t.lq q with pending := some l })

/-! ### Admission (R367) -/

/-- PRIO of a record. -/
def prioOf (lr : Nat) : Nat := fld lr 402 400

/-- The resident grids that hold cells of a rectangle. -/
def State.holders (s : State) (lr : Nat) : List (Nat × Grid) :=
  s.grids.filter (fun g => g.2.resid != .saved && (rectCells lr).any (fun c => (s.cell c).grid == some g.1))

/-- Whether a launch may take the cells of a grid: it is of lower PRIO, and its save area is large enough
(R367, R439). -/
def State.yields (s : State) (lr : Nat) (g : Nat × Grid) : Bool := decide (prioOf g.2.lr < prioOf lr) && s.savable g.2.lr

/-- Whether a record's reservations fit beside those of the grids that stay resident (R367); they apply on every die of the package (R383). -/
def State.budgetsFit (s : State) (lr : Nat) (out : List Nat) : Bool :=
  [Slot.hbm, .hs, .flit, .cq, .tongs].all (fun k =>
    decide (reserved lr k + ((s.inside.filter (fun g => !out.contains g.1)).map (fun g => reserved g.2 k)).foldl (· + ·) 0 ≤ k.cap))

/-- Whether the gang gate lets a grid in: its job is the one that the last decision started (R384, log 20). -/
def State.gangGate (s : State) (lr : Nat) : Bool := !gangv lr || (s.plat.gangNow == some (gangidOf lr) && s.plat.gangTry.isNone)

/-- Whether a kept launch may be admitted, its cells free or held by grids that yield (R367, R431). -/
def State.admissible (s : State) (q : Nat) (l : Launch) : Bool :=
  let prev := match (s.lq q).last with | some g => bit l.lr 422 && (look s.grids g).isSome | none => false
  !prev && s.plat.quench.isNone && s.gangGate l.lr && (s.holders l.lr).all (s.yields l.lr) &&
    s.budgetsFit l.lr ((s.holders l.lr).map (·.1))

/-- The grid information block of a cell (R371). -/
def infoBlock (lr gtStart c : Nat) : Nat :=
  let rank := (c / 128 - fld lr 236 231) * 2 ^ fld lr 239 237 + (c % 128 - fld lr 230 224)
  fld lr 319 256 * 2 ^ 448 + gtStart % 2 ^ 64 * 2 ^ 384 + fld lr 127 96 * 2 ^ 352 + asidOf lr * 2 ^ 336 + c * 2 ^ 323 +
    rank * 2 ^ 310 + fld lr 230 224 * 2 ^ 303 + fld lr 236 231 * 2 ^ 297 + fld lr 239 237 * 2 ^ 294 + fld lr 242 240 * 2 ^ 291 +
    dieOf c * 2 ^ 288

/-- A cell as a grid finds it: only its TLB, its sequence and stamps, and its lock table stay. -/
def Cell.fresh (x : Cell) (g : Option Nat) : Cell :=
  { grid := g, seq := x.seq, stampGt := x.stampGt, stampN := x.stampN, tlb := x.tlb, locks := x.locks }

/-- A cell as a grid leaves it: its registers, accumulators, operand cache and counters stand until the next grid's
admission (R433, R454, R461). -/
def Cell.left (x : Cell) : Cell :=
  { x.fresh none with lo := x.lo, hi := x.hi, acc := x.acc, opc := x.opc, csr := x.csr }

/-- A cell's scratchpad cleared and its information block written (R371). -/
def State.clearPad (s : State) (lr gtStart c : Nat) : State :=
  ({ s with mem := memClear s.mem (padKey c 0) (2 ^ 18), poison := poisonOff s.poison (padKey c 0) (2 ^ 18) } : State).mapMem
    (fun m => memPut m (padKey c 0x3FFC0) (bytesOf 64 (infoBlock lr gtStart c)))

/-- Rank of a cluster among those that a rectangle touches (R364). -/
def clusterRank (lr c : Nat) : Nat :=
  (c / 128 / 4 - fld lr 236 231 / 4) * Nat.max 1 (2 ^ fld lr 239 237 / 4) + (c % 128 / 4 - fld lr 230 224 / 4)

/-- The clusters of a rectangle, by a cell of each. -/
def rectClusters (lr : Nat) : List (Nat × Nat) :=
  (rectCells lr).foldl (fun l c => if l.any (fun e => e.1 == gcluOf c) then l else l ++ [(gcluOf c, c)]) []

/-- A cluster made ready for a grid: its L1s written back and emptied, fused or not, its operand mode set
(R93, R282, R364). -/
def State.setCluster (s : State) (lr : Nat) (fuse : List Nat) (e : Nat × Nat) : State :=
  ((List.range 16).foldl (fun s k => s.flushAll (cellIn e.1 k)) s).mapCluster e.1 (fun x =>
    { x with fused := fuse.contains (clusterRank lr e.2), bus := bit lr 419 })

/-- The message that starts a cell's task of handler 0, in its low queue (R368). -/
def State.startMsg (s : State) (g c : Nat) : State :=
  let r := s.newMsgId c
  let age := s.gt.toNat % 2 ^ 48 * 2 ^ 16 + cellName c * 8
  let x := r.2.cell c
  let s1 := if x.stampGt = s.gt.toNat ∧ x.stampN ≠ 0 then r.2 else r.2.setCell c { x with stampGt := s.gt.toNat, stampN := 1 }
  s1.queueMsg g { msg := { hdr := mkHdr age s.gt.toNat r.1 c 0 0 false 0, pay := [] }, sc := .sys }

/-- A launch admitted: its grid, cells, clusters, replicas and first messages (R364 to R371). -/
def State.letIn (s : State) (q : Nat) (l : Launch) : State :=
  let g := s.serial
  let lr := l.lr
  let grid : Grid := { lr := lr, queue := q, gtStart := s.gt.toNat, gates := l.gates, fuse := l.fuse
                       tid := (diesOf lr).flatMap (fun d => l.tid.map (fun e => (d * 4096 + e.1, e.2)))
                       replay := (look s.plat.replays (fld lr 127 96)).map (fun l => (List.range l.length).zip l)
                       metAt := s.gt.toNat }
  let s1 := (rectClusters lr).foldl (fun s e => (s.setCluster lr l.fuse e).mapCluster e.1 (fun x =>
    { x with bloom := [], budget := 0, drops := 0 })) { s.tick with grids := put s.grids g grid }
  let s2 := (rectCells lr).foldl (fun s c => (s.mapCell c (fun x => x.fresh (some g))).clearPad lr s.gt.toNat c) s1
  let s3 := (s2.headCopy (asidOf lr) (s.ctxHead (asidOf lr))).mapPlat (fun p => { p with headDue := del p.headDue (asidOf lr) })
  let s4 := (if bit lr 418 then [originOf lr] else rectCells lr).foldl (fun s c => s.startMsg g c) s3
  (s4.advanceQueue q).setLq q { (s4.advanceQueue q).lq q with last := some g }

/-- GRID_ADMISSION: a kept launch is admitted when every cell of its rectangle is free (R367). -/
def execGridAdmission (q : Nat) (s : State) : Out :=
  match (s.lq q).pending with
  | some l =>
    if s.admissible q l && (rectCells l.lr).all (fun c => (s.cell c).grid.isNone) then .next (s.letIn q l) else .next s
  | none => .next s

/-! ### Time limit -/

/-- GRID_TIMEOUT: GRIDLIM has passed since admission (R369). -/
def execGridTimeout (gid : Nat) (s : State) : Out :=
  match look s.grids gid with
  | some g =>
    let lim := fld g.lr 767 736 * 1024
    if lim ≠ 0 ∧ g.gtStart + lim ≤ s.gt.toNat then .next (s.endGrid gid { status := 0x13 }) else .next s
  | none => .next s

end Sys2Proof.Machine
end

