-- ==== Sys2Proof/Machine/GridEnd.lean ====
section
/-!
DEFINITION. Machine/GridEnd.lean: what still belongs to a grid, the end of a grid and its end by a fault
(16 R369, R370, 18 R419, R420, R423), and the gang's READY (16 R384).
-/

namespace Sys2Proof.Machine

/-! ### What belongs to a grid -/

/-- The cells that a grid holds. -/
def State.cellsOf (s : State) (g : Nat) : List Nat := (s.cells.filter (fun c => c.2.grid == some g)).map (·.1)

/-- The grid that something on its way belongs to. -/
def State.flightGrid (s : State) (f : Flight) : Option Nat :=
  match f with
  | .access a => some a.gid
  | .fill a => some a.gid
  | .reply a _ _ => some a.gid
  | .ack a => some a.gid
  | .token t => some t.cmd.gid
  | .cruc c => some c.gid
  | .accept c => some c.gid
  | .count _ _ _ g _ => some g
  | .pieceAck c _ _ _ => (s.cell c).grid
  | .lock q => some q.who.gid
  | .grant q => some q.who.gid
  | .bloom w _ _ => some w.gid
  | .msg g _ => some g
  | .dep p _ => some p.gid
  | .event w _ _ => some w.gid
  | .sjoin w _ _ _ => some w.gid
  | .window w _ _ _ => some w.gid
  | .tid w _ _ _ => some w.gid
  | .mig w _ _ _ => some w.gid
  | .tlbi w _ _ _ _ _ _ => some w.gid
  | _ => none

/-- The grids that something on its way belongs to: a walk, to every grid that waits for its translation. -/
def State.flightGrids (s : State) (f : Flight) : List Nat := (s.flightGrid f).toList ++ f.xlats.map (·.gid)

/-- Whether a flight brings a fault to an engine of a grid, which ends: nobody takes it (R70). -/
def xlatOf (g : Nat) (f : Flight) : Bool :=
  match f with
  | .xfail x _ => x.gid == g
  | _ => false

/-- A wait that does not keep a grid alive: an SJOIN or SMIG whose answer nothing reads any more. -/
def idleFlight (f : Flight) : Bool :=
  match f with
  | .sjoin _ _ _ _ => true
  | .mig _ _ _ _ => true
  | _ => false

/-- A crucible command or its token on the way. -/
def crucFlight (f : Flight) : Bool := f.crucLink.isSome

/-- Whether something of a grid is on its way, its crucible commands aside when `run` is clear. -/
def State.inFlight (s : State) (g : Nat) (run : Bool) : Bool :=
  s.fly.any (fun f => s.flightGrid f.f == some g && !idleFlight f.f && (run || !crucFlight f.f))

/-- Whether a bank of a cell runs a task. -/
def Cell.runs (x : Cell) : Bool := x.lo.task.isSome || x.hi.task.isSome

/-- Whether a cell has a message, a ready entry or a held message (R369). -/
def Cell.pending (x : Cell) : Bool :=
  !x.qlo.isEmpty || !x.qhi.isEmpty || !x.ready.isEmpty || !x.again.isEmpty || !x.hold.isEmpty

/-- Whether a cell's tongs have a command. -/
def Cell.copies (x : Cell) : Bool := !x.tongs.isEmpty || x.chans.any (fun h => h.2.cmd.isSome)

/-- Whether a cell has a command of class 0x18, a collective or a generation command. -/
def Cell.arrays (x : Cell) : Bool := !x.anvil.isEmpty || x.ard.isSome || !x.coll.isEmpty || !x.gen.isEmpty

/-- Whether a gang step or a collective of a grid is in progress. -/
def State.joint (s : State) (g : Nat) : Bool :=
  s.steps.any (fun t => t.joined.any (fun j => j.2.gid == g)) || s.colls.any (fun t => t.joined.any (fun j => j.2.gid == g))

/-- Whether a crucible holds a query of a grid. -/
def State.querying (s : State) (g : Nat) : Bool :=
  s.crucs.any (fun k => (k.2.queries ++ k.2.held).any (fun q => q.cmd.gid == g))

/-- Whether a stream has a batch pending at a gate of a grid: parked there, or in a batch formed and not
yet sent (R369). -/
def State.batching (s : State) (g : Nat) : Bool :=
  s.dies.any (fun d => d.2.gates.any (fun x => x.1 / 1024 == g && !(x.2.parked.isEmpty && x.2.batches.isEmpty)))

/-- Whether a trace ring holds an entry of a recording grid (R99). -/
def State.tracing (s : State) (g : Nat) : Bool :=
  let mine (e : Nat) : Bool := fld e 95 80 == asidOf (s.lr g)
  recording (s.lr g) && (s.clusters.any (fun c => c.2.ring.any mine) || s.dies.any (fun d => d.2.hsRing.any (fun r => r.2.any mine)))

/-- Whether an engine of a grid is at work, or a write of it on its way. -/
def State.working (s : State) (g : Nat) : Bool :=
  (s.cellsOf g).any (fun c => (s.cell c).copies || (s.cell c).arrays || !(s.cell c).cruc.isEmpty) || s.joint g || s.querying g ||
    s.inFlight g true || s.tracing g

/-- Whether nothing of what R369 names remains of a grid. -/
def State.finished (s : State) (g : Nat) : Bool :=
  !(s.cellsOf g).any (fun c => (s.cell c).runs || (s.cell c).pending) && !s.working g && !s.batching g &&
    !s.dies.any (fun d => d.2.dep.any (fun e => e.p.gid == g) || d.2.spillQ.any (fun e => e.1 == g)) &&
    ((look s.grids g).map (·.pend)).getD [] == []

/-! ### The gang's READY (R384) -/

/-- Whether a grid of another gang than the one that comes in is resident. -/
def State.gangOut (s : State) (g : Nat) : Bool :=
  match s.plat.gangTry, look s.grids g with
  | some t, some x => gangv x.lr && gangidOf x.lr != t.gangid && x.resid != .saved
  | _, _ => false

/-- Whether a waiting launch of higher PRIO could be admitted but for a grid's cells (R367). -/
def State.launchWants (s : State) (g : Nat) : Bool :=
  s.plat.queues.any (fun q => match q.2.pending with
    | some l => s.admissible q.1 l && (s.holders l.lr).any (fun h => h.1 == g)
    | none => false)

/-- READY goes to every package of the job that comes in, with LATE when it is late, once the outgoing job's
grids are out; this package hears itself. -/
def State.gangReady (s : State) : State :=
  match s.plat.gangTry with
  | none => s
  | some t =>
    if t.sent || s.grids.any (fun g => s.gangOut g.1) then s
    else
      let p : GangPacket := { src := s.plat.here, late := false, gangid := t.gangid, slice := t.slice, gt := s.gt.toNat }
      let all := if t.at_ + 2048 < s.gt.toNat then [p, { p with late := true }] else [p]
      s.mapPlat (fun q => { q with
        gangTry := some { t with sent := true }
        sent := q.sent ++ (t.members.filter (· != q.here)).flatMap (fun m => all.map (Packet.gang m))
        gang := if t.members.contains q.here then q.gang ++ all else q.gang })

/-! ### The end (R19, R369, R370, R404) -/

/-- The streams at a gate whose batch is not sent (R394). -/
def Gate.waiting (x : Gate) : List Nat := x.parked ++ x.batches.flatMap (·.mine)

/-- A grid's streams: those that are not persistent ended and freed, and the persistent ones parked at its
gates with DISP clear made live, at gates saved with it too; its gates are gone (R404). -/
def State.endStreams (s : State) (g : Nat) : State :=
  let ids (d : Nat) : List Nat := ((s.die d).streams.filter (fun e => e.2.gid == g && !e.2.pers)).map (fun e => d * 2 ^ 14 + e.1)
  let s1 := (List.range 8).foldl (fun s d => (ids d).foldl (fun s i => (s.endStream true (s.sFuel i) i).1) s) s
  let mine := s1.dies.flatMap (fun d => d.2.gates.flatMap (fun x =>
    if x.1 / 1024 = g then x.2.waiting else [])) ++
    (((look s1.grids g).map (fun y => (y.savedGates.flatMap (fun e => e.2.2.waiting)).filter (fun i =>
      (look y.savedStreams i).isNone))).getD [])
  let s2 := mine.foldl (fun s i => match s.sEnt i with
    | some e => if e.status = .atGate ∧ !e.disp then s.setStream i { e with status := .live, pinned := false } else s
    | none => s) s1
  { s2 with dies := s2.dies.map (fun d => (d.1, { d.2 with gates := d.2.gates.filter (fun x => x.1 / 1024 != g) })) }

/-- A grid's sequences that are not persistent freed (R19, R296). -/
def State.endSequences (s : State) (g : Nat) : State :=
  { s with crucs := s.crucs.map (fun k =>
      (k.1, ((k.2.seqs.filter (fun e => e.2.gid == g && !e.2.pers)).map (·.1)).foldl (fun (x : Crucible) e => (x.free e).1) k.2)) }

/-- Streams that a switched-out grid holds: their maps and linked sequences freed, but for persistent sequences where
`keep` is set; a pruned one holds nothing (R19, R82, R369). -/
def State.endSaved (s : State) (keep : Bool) (l : Map Stream) : State :=
  (l.filter (fun e => e.2.status != .pruned)).foldl (fun s e =>
    ((s.mapDie (sidDie e.1) (fun d => { d with pool := d.pool.release e.2.map })).freeLink keep e.2).1) s

/-- A grid's dirty L1 lines on their way home, and its L1s empty (R93). -/
def State.flushGrid (s : State) (g : Nat) : State :=
  (s.cellsOf g).foldl (fun s c => (s.l1Cells c).foldl State.flushAll s) s

/-- Whether an L1 of a grid holds a line. -/
def State.caching (s : State) (g : Nat) : Bool := (s.cellsOf g).any (fun c => (s.l1Cells c).any (fun h => !(s.cell h).l1.isEmpty))

/-- The lock stores. -/
def State.lockStores (s : State) : List LockAt :=
  s.dies.flatMap (fun d => d.2.locks.map (fun l => LockAt.slice d.1 l.1)) ++ s.cells.map (fun c => LockAt.port c.1)

/-- What a grid that has ended still has in a lock store: its waiters withdrawn, and what it holds passed on, as when a
release was lost (R182, R421). -/
def State.clearStore (s : State) (g : Nat) (p : LockAt) : State :=
  let s1 := s.setLocks p ((s.locksAt p).map (fun e => { e with waiters := e.waiters.filter (fun w => w.gid != g) }))
  (s1.locksAt p).foldl (fun s e => match e.holder with
    | some h => if h.gid = g then
        s.passOn { who := h, asid := e.asid, dsp := e.dsp, base := e.base, sz := e.sz, place := e.place, release := true } e else s
    | none => s) s1

/-- No lock entry holds or awaits anything of a grid that has ended (R182). -/
def State.clearLocks (s : State) (g : Nat) : State :=
  (s.lockStores.filter (fun p => (s.locksAt p).any (fun e => e.holder.any (fun h => h.gid == g) || e.waiters.any (fun w => w.gid == g)))).foldl
    (fun s p => s.clearStore g p) s

/-- What goes with a grid of what is on its way: a migration goes on, since its stream may outlive the grid
(R403, R404). -/
def endsWith (f : Flight) : Bool :=
  match f with
  | .mig _ _ _ _ => false
  | _ => true

/-- The last steps of a grid's end: streams and sequences freed, the completion record written, the grid and
its cells gone, and its gang's count of abandoned slices with it (R370, R384). -/
def State.closeGrid (s : State) (g : Nat) (x : Grid) (e : EndInfo) : State :=
  let s1 := (((s.endStreams g).endSequences g).endSaved true x.savedStreams).completion x.lr x.gtStart x.tasks e
  let s2 := (s.cellsOf g).foldl (fun s c => s.mapCell c (·.left)) s1
  let s3 := if gangv x.lr then s2.mapPlat (fun p => { p with abandons := del p.abandons (gangidOf x.lr) }) else s2
  ({ s3.clearLocks g with
     grids := del s3.grids g
     fly := (s3.clearLocks g).fly.filter (fun f => !(s.flightGrid f.f == some g && endsWith f.f) && !xlatOf g f.f) } : State).gangReady

/-- A grid of which nothing remains: its L1s written back first, then closed. -/
def State.endIf (s : State) (g : Nat) (x : Grid) (e : EndInfo) : State :=
  if s.caching g then s.flushGrid g else s.closeGrid g x e

/-- GRID_END: nothing of a resident grid remains (R369). -/
def execGridEnd (gid : Nat) (s : State) : Out :=
  match look s.grids gid with
  | some x => if x.ending.isSome || x.resid == .saved || !s.finished gid then .next s else .next (s.endIf gid x { status := 0 })
  | none => .next s

/-! ### End by a fault (R420) -/

/-- Step 1 of R420: the tasks of a grid aborted, but for a holder whose drain has begun, which runs to its
end (R179, R180). -/
def State.abortTasks (s : State) (g : Nat) (keep : Task → Bool) (f : State → Nat → Bool → Task → State) : State :=
  (s.cellsOf g).foldl (fun s c => [false, true].foldl (fun s hi => match (s.bank c hi).task with
    | some k => if keep k then s else f s c hi k
    | none => s) s) s

/-- A cell's messages, ready entries, held messages and queued commands discarded; the commands of a
collective that runs stay (R420). -/
def Cell.discard (x : Cell) (keep : List Nat) : Cell :=
  { x with qlo := [], qhi := [], ready := [], again := [], hold := [], watch := [], tongs := [], anvil := [], cruc := [], gen := [], gbuf := []
           coll := x.coll.filter (fun k => keep.contains k.id)
           chans := x.chans.map (fun h => (h.1, match h.2.cmd with
             | some k => if k.started then h.2 else { status := h.2.status, bytes := h.2.bytes, addr := h.2.addr }
             | none => h.2)) }

/-- A token that holds bytes for a scratchpad (R307). -/
def holdsOut (f : Flight) : Bool :=
  match f with
  | .token t => t.out.isSome
  | _ => false

/-- What a fault discards of what is on its way. -/
def dropFlight (f : Flight) : Bool :=
  match f with
  | .msg _ _ => true
  | .dep _ _ => true
  | .event _ _ _ => true
  | .bloom _ _ _ => true
  | .window _ _ _ _ => true
  | .tid _ _ _ _ => true
  | .sjoin _ _ _ _ => true
  | _ => false

/-- Steps 1 to 3 of R420, but for the commands that have started. What a failed link carried, and the
engine commands it holds up, are lost with it (R421), and so are the held results of a grid that is switched
out. -/
def State.discardGrid (s : State) (g : Nat) : State :=
  let runs := (s.colls.filter (·.complete)).flatMap (fun t => t.joined.map (·.2.id))
  let s1 := s.abortTasks g Task.committing (fun s c hi _ => s.abortTask c hi 0)
  let cut := (look s.grids g).any (·.cut)
  let gone := ((look s.grids g).map (·.resid)) == some .saved
  let s2 : State := { s1 with
    steps := s1.steps.filter (fun t => !(t.joined.any (fun j => j.2.gid == g) && (cut || t.phase == .joining)))
    colls := s1.colls.filter (fun t => !(t.joined.any (fun j => j.2.gid == g) && (cut || !t.complete)))
    crucs := s1.crucs.map (fun k => (k.1, { k.2 with
        queries := k.2.queries.filter (fun q => !(cut && q.cmd.gid == g))
        held := k.2.held.filter (fun q => !((cut || gone) && q.cmd.gid == g)) }))
    dies := s1.dies.map (fun d => (d.1, { d.2 with
      dep := d.2.dep.filter (fun e => e.p.gid != g)
      spillQ := d.2.spillQ.filter (fun e => e.1 != g)
      gates := d.2.gates.map (fun x => (x.1, { x.2 with
        parked := x.2.parked ++ (x.2.batches.filter (fun b => b.gid == g)).flatMap (·.mine)
        batches := x.2.batches.filter (fun b => b.gid != g) })) }))
    fly := s1.fly.filter (fun f => !(s1.flightGrid f.f == some g && (dropFlight f.f || (gone && holdsOut f.f) || s1.plat.down.any (fun l => s1.onLink l f)))) }
  let s3 := (s.cellsOf g).foldl (fun s c => s.mapCell c (fun x =>
    let y := x.discard runs
    if cut then { y with chans := [], ard := none, coll := [] } else y)) s2
  s3.mapGrid g (fun x => { x with pend := [] })

/-- GRID_FAULT_END: a fault has arisen; what R420 discards goes at once, and the grid ends when started
commands, drains and writes are complete. -/
def execGridFaultEnd (gid : Nat) (s : State) : Out :=
  match look s.grids gid with
  | none => .next s
  | some x =>
    match x.ending with
    | none => .next s
    | some e =>
      let t := s.discardGrid gid
      if t.finished gid then .next (t.endIf gid ((look t.grids gid).getD x) e) else .next t

/-- The grids that own a failed structure of a die: the one named, or every one that is resident (R423). -/
def execHwUe (d what : Nat) (owner : Option Nat) (s : State) : Out :=
  let e : EndInfo := { status := 0x10, cause := 0x70, fdetail := what }
  .next (match owner with
    | some g => s.endGrid g e
    | none => (s.resident d).foldl (fun s g => s.endGrid g.1 e) s)

/-- REPLAY_DIVERGENCE: a record of the recording that a grid replays has not occurred within 2^24 cycles, counted from
the occurrence before (R430, log 14). -/
def execReplayDivergence (gid index : Nat) (s : State) : Out :=
  match look s.grids gid with
  | some x =>
    if (x.replay.getD []).any (fun r => r.1 == index) && decide (x.metAt + 2 ^ 24 ≤ s.gt.toNat) then
      .next (s.endGrid gid { status := 0x10, cause := 0x71, detail := index, fdetail := index })
    else .next s
  | none => .next s

/-! ### Link failure (R421) -/

/-- A transfer whose link has failed. The answer may have left: a free value says so, and then the stream is gone from here;
otherwise it stays and is frozen no more. It is live at one end either way (R403, log 102). -/
def State.migLost (s : State) (f : Fly) : State :=
  match f.f with
  | .mig _ sid _ x => let r := s.freeVal; r.2.migEnd sid x (r.1 % 2 == 1)
  | _ => s

/-- LINK_FAILURE: a link is lost, with what is on its way across it; the grids with cells at both of a
bridge's ends, or with a request on the link, end. A link that has failed already loses what has come onto
it since. -/
def execLinkFailure (l : LinkId) (s : State) : Out :=
  let lost := s.fly.filter (s.onLink l)
  let far : List (Nat × Nat) := match l with
    | .bridge a b => (s.resident a).filter (fun g => (diesOf g.2).contains b)
    | _ => []
  let asked := match l with
    | .crucible d => (((s.cruc (d / 2)).queries ++ (s.cruc (d / 2)).held).filter (fun q =>
        crucDie (d / 2) (dieOf q.cmd.cell) == d)).map (fun q => q.cmd.gid)
    | _ => []
  let ends := far.map (·.1) ++ asked ++ lost.flatMap (fun f => s.flightGrids f.f)
  let s1 := lost.foldl State.migLost (ends.foldl (fun s g => s.endGrid g { status := 0x11 }) s)
  .next ({ s1 with fly := s1.fly.filter (fun f => !s1.onLink l f) }.mapPlat (fun p => { p with down := if p.down.contains l then p.down else p.down ++ [l] }))

end Sys2Proof.Machine
end

