-- ==== Sys2Proof/Machine/Translate.lean ====
section
/-!
DEFINITION. Machine/Translate.lean: the steps of the cluster TLB and the walker (03 R66 to R74), the
invalidations (R75 to R77, 18 R435), and the fetch of instruction lines (02 R20 to R25).
-/

namespace Sys2Proof.Machine

/-! ### Answers to the cell -/

/-- Whether a command of an engine of a cell, or a pending copy of its grid, has a number. -/
def State.commands (s : State) (c g id : Nat) : Bool :=
  (s.cell c).chans.any (fun h => h.2.stop.isNone && h.2.cmd.any (·.id == id)) || (s.cell c).gen.any (·.id == id) ||
    (((look s.grids g).map (·.pend)).getD []).any (fun p => p.cmd.id == id)

/-- What a request for a translation receives: an entry, which goes to the cluster TLB and, but for an engine's, to the
cell TLB; a fault, which traps the task's instruction, ends the engine's piece, and drops a PF; or neither, when it is to
be made again. An entry that a waiting instruction receives stays with it until it has completed (R70, R72, R73, R108,
log 16). -/
def State.answer (s : State) (x : Xlat) (r : Option (Except Trap TlbEnt)) : State :=
  let s1 := match r with
    | some (.ok e) => if x.eng then s.cluTlbPut x.cell e else (s.cluTlbPut x.cell e).cellTlb x.cell e
    | _ => s
  let got : List TlbEnt := match r with | some (.ok e) => [e] | _ => []
  let t : Option Trap := match r with | some (.error t) => some t | _ => none
  match x.pf with
  | some a =>
    (match r with
     | some (.ok e) => if (s.cell x.cell).grid = some x.gid then s1.prefetch a e else s1
     | some (.error _) => s1
     | none => s1.send x.cell (.look x))
  | none =>
    if x.eng then
      (match t with
       | some t => if s.commands x.cell x.gid x.act then s1.send x.cell (.xfail x t) else s1
       | none => s1)
    else if s.live x.cell x.hi x.act then
      s1.mapBank x.cell x.hi (fun b =>
        if x.rep then { b with rep := b.rep.map (fun r => { r with xwait := none, xfault := t, xheld := got ++ r.xheld }) }
        else b.mapTask (fun k => { k with xwait := none, xfault := t, xheld := got ++ k.xheld }))
    else s1

/-- CLUSTER_TLB_LOOKUP: a hit is installed in the cell; a miss goes to the walker (R73). -/
def execClusterTlbLookup (k : Nat) (s : State) : Out :=
  match s.flight k with
  | some ⟨n, c, .look x⟩ =>
    match s.cluTlb? x.cell x.asid x.va with
    | some e => .next ((s.land k).answer x (some (.ok e)))
    | none => .next ((s.land k).resend n c (.walk { x := x, joined := [], lvl := 4, table := 0 }))
  | _ => .next s

/-! ### The walker (R69, R74) -/

/-- A trap for every request that a walk serves. -/
def State.walkFault (s : State) (w : Walk) (cause : Cause) (lvl addr : Nat) : State :=
  (w.x :: w.joined).foldl (fun s x => s.answer x (some (.error (xltTrap cause x.va lvl x.kind addr)))) s

/-- The die whose walker serves a request. -/
def Xlat.die (x : Xlat) : Nat := dieOf x.cell

/-- The walk that a flight carries, on a die. -/
def walkOn (d : Nat) : Flight → Option Walk
  | .wread w => if w.x.die = d then some w else none
  | .winst w _ => if w.x.die = d then some w else none
  | _ => none

/-- The places in the queue of misses of a die that found all 64 walks busy (R74). -/
def State.walkQueue (s : State) (d : Nat) : List Nat :=
  s.fly.filterMap (fun f => match f.f with
    | .walk w => if w.x.die = d then w.ticket else none
    | _ => none)

/-- TABLE_WALK: the checks before any read, a root outside global memory being XLT.PHYS at the level of the context
entry (log 73), then a walk joined or begun. The walker carries 64; further misses wait in a queue of 256 in their
order of arrival, and the others outside it (R69, R74). -/
def execTableWalk (k : Nat) (s : State) : Out :=
  match s.flight k with
  | some ⟨n, c, .walk w⟩ =>
    let d := w.x.die
    if 2 ^ 57 ≤ w.x.va then .next ((s.land k).walkFault w .xltCanon 15 0)
    else
      match ctxRoot s.ctx w.x.asid with
      | none => .next ((s.land k).walkFault w .xltInvalid 5 0)
      | some root =>
        if !inGlobal root then .next ((s.land k).walkFault w .xltPhys 5 0)
        else
          let same (v : Walk) : Bool := v.x.asid == w.x.asid && v.x.va / 4096 == w.x.va / 4096
          match s.fly.findIdx? (fun f => match walkOn d f.f with | some v => same v | none => false) with
          | some j =>
            let join (f : Flight) : Flight := match f with
              | .wread v => .wread { v with joined := v.joined ++ w.x :: w.joined }
              | .winst v e => .winst { v with joined := v.joined ++ w.x :: w.joined } e
              | f => f
            .next ({ s with fly := s.fly.modify j (fun f => { f with f := join f.f }) }.land k)
          | none =>
            let queue := s.walkQueue d
            let first := match w.ticket with | some t => queue.all (t ≤ ·) | none => queue.isEmpty
            if 64 ≤ (s.fly.filter (fun f => (walkOn d f.f).isSome)).length ∨ !first then
              (if w.ticket.isNone && decide (queue.length < 256) then
                .next ({ s with fly := s.fly.modify k (fun f => { f with f := .walk { w with ticket := some s.serial } }) }.tick)
               else .next s)
            else
              match (s.die d).wcLeaf w.x.asid w.x.va w.x.kind with
              | some e =>
                .next (((s.mapMem (fun m => accDirty m e.at_ (memRead m e.at_ 8) w.x.kind)).land k).resend n c
                  (.winst { w with lvl := 2, table := e.at_ / 4096 * 4096, pte := e.at_, ticket := none }
                  (leafEnt w.x.asid w.x.va e.pte 2 e.at_ (bit e.pte 9))))
              | none =>
                let start := ((s.die d).wcFind w.x.asid w.x.va).getD (4, root)
                .next ((s.land k).resend n c (.wread { w with lvl := start.1, table := start.2, ticket := none }))
  | _ => .next s

/-- WALK_ENTRY_READ: an entry is read at its home slice and checked at its level, for each request that the walk serves
under its own kind; a leaf's ACC and DIRTY are set there. While slots or flits are spent the read waits (R63 to R67, R69,
R70, R383). -/
def execWalkEntryRead (k : Nat) (s : State) : Out :=
  match s.flight k with
  | some ⟨n, c, .wread w⟩ =>
    let a := pteAddr w.table w.lvl w.x.va
    let e := memRead s.mem a 8
    let g := w.x.gid
    match (s.land k).hsRead g w.x.die a with
    | none => .next s
    | some s1 =>
      if s.bad a 8 then .next ((w.x :: w.joined).foldl (fun s x => s.answer x (some (.error (ptePoison x.va)))) s1)
      else
        match pteFault e w.lvl w.x.kind with
        | some _ =>
          .next ((w.x :: w.joined).foldl (fun s x =>
            s.answer x ((pteFault e w.lvl x.kind).map (fun cause => .error (xltTrap cause x.va w.lvl x.kind a)))) s1)
        | none =>
          if pteLeaf e w.lvl then
            match s1.leafRead w.x.die g w.x.asid w.x.va w.x.kind w.lvl w.table e with
            | none => .next s
            | some r => .next (r.2.resend n c (.winst { w with pte := a } r.1))
          else
            .next ((s1.mapDie w.x.die (fun d => d.wcPut w.lvl w.x.asid w.x.va e a)).resend n c
              (.wread { w with lvl := w.lvl - 1, table := fld e 51 12 * 4096, pte := a }))
  | _ => .next s

/-- Whether a miss that has not begun its walk lies in the page of a large leaf of its ASID, on the leaf's die, and is
served by it (R74). -/
def waitsFor (w : Walk) (e : TlbEnt) (f : Flight) : Option Walk :=
  match f with
  | .walk v =>
    if decide (12 < e.size) && v.x.die == w.x.die && v.x.asid == w.x.asid && v.x.va / 2 ^ e.size == e.vpn then some v else none
  | _ => none

/-- WALK_INSTALL: the leaf goes to the cluster TLB and the cell TLB of each requester, and with a large leaf to those
whose misses in its page still wait (R72 to R74). -/
def execWalkInstall (k : Nat) (s : State) : Out :=
  match s.flight k with
  | some ⟨_, _, .winst w e⟩ =>
    let s1 := s.land k
    let more := s1.fly.filterMap (fun f => waitsFor w e f.f)
    let s2 := { s1 with fly := s1.fly.filter (fun f => (waitsFor w e f.f).isNone) }
    .next (((w :: more).flatMap (fun v => v.x :: v.joined)).foldl (fun s x => s.answer x (some (.ok e))) s2)
  | _ => .next s

/-- DIRTY_UPDATE: the leaf is read again, checked, and its bits set by compare-and-swap, in a 64 KiB page
those of the 4 KiB frame touched (R67); otherwise a fresh walk decides (R66). It waits as any read does (R383). -/
def execDirtyUpdate (k : Nat) (s : State) : Out :=
  match s.flight k with
  | some ⟨n, c, .dirty x e⟩ =>
    let at_ := e.leafAt x.va
    let v := memRead s.mem at_ 8
    match (s.land k).hsRead x.gid x.die at_ with
    | none => .next s
    | some s1 =>
      if s.bad at_ 8 then .next (s1.answer x (some (.error (ptePoison x.va)))) else
      match pteFault v e.level x.kind with
      | some cause => .next (s1.answer x (some (.error (xltTrap cause x.va e.level x.kind at_))))
      | none =>
        if !pteLeaf v e.level then .next (s1.resend n c (.walk { x := x, joined := [], lvl := 4, table := 0 }))
        else .next ((s1.mapMem (fun m => accDirty m at_ v x.kind)).answer x (some (.ok { e with dirty := true })))
  | _ => .next s

/-! ### Invalidations (R75 to R77) -/

/-- Whether an invalidation of a kind removes a translation (R76). -/
def removes (kind asid va : Nat) (e : TlbEnt) : Bool :=
  let page := va / 2 ^ e.size == e.vpn
  match kind with
  | 0 => !e.glob && e.asid == asid
  | 1 => !e.glob && e.asid == asid && page
  | 2 => page
  | _ => true

/-- Whether it removes a walk-cache entry of a level (R76). -/
def removesWc (kind asid va lvl : Nat) (e : WalkEnt) : Bool :=
  match kind with
  | 0 => e.asid == asid && !(bit e.pte 1 && bit e.pte 10)
  | 1 => e.asid == asid && e.key == wcKey lvl va
  | 2 => e.key == wcKey lvl va
  | _ => true

/-- Whether a die is within an invalidation's scope. -/
def inScope (die : Option Nat) (d : Nat) : Bool := match die with | none => true | some x => x == d

/-- The entries removed from every structure within the scope, and the walks that could have read one
begun again (R76, R77). -/
def State.invalidate (s : State) (kind asid va : Nat) (die : Option Nat) : State :=
  let keep (e : TlbEnt) : Bool := !removes kind asid va e
  let again (f : Fly) : Fly :=
    match f.f with
    | .wread w => if inScope die w.x.die then { f with f := .walk { w with lvl := 4, table := 0 } } else f
    | .winst w _ => if inScope die w.x.die then { f with f := .walk { w with lvl := 4, table := 0 } } else f
    | .dirty x e => if inScope die x.die && !keep e then { f with f := .walk { x := x, joined := [], lvl := 4, table := 0 } } else f
    | _ => f
  let own (b : Bank) : Bank := { b.mapTask (fun k => { k with xheld := k.xheld.filter keep }) with
    rep := b.rep.map (fun r => { r with xheld := r.xheld.filter keep }) }
  { s with
    cells := s.cells.map (fun (c, x) => (c, if inScope die (dieOf c) then
      { x with tlb := x.tlb.filter keep, lo := own x.lo, hi := own x.hi } else x))
    clusters := s.clusters.map (fun (c, x) =>
      (c, if inScope die (c / 64) then { x with tlb := x.tlb.map (fun (k, l) => (k, l.filter keep)) } else x))
    dies := s.dies.map (fun (d, x) =>
      (d, if inScope die d then
            { x with wc4 := x.wc4.filter (fun e => !removesWc kind asid va 4 e)
                     wc3 := x.wc3.filter (fun e => !removesWc kind asid va 3 e)
                     wc2 := x.wc2.filter (fun e => !removesWc kind asid va 2 e) } else x))
    fly := s.fly.map again }

/-- The dirty L1 lines within the scope that may have been written under a translation which an invalidation removes on
their way to their serialisation points: every line of a cell whose grid has the ASID, and for kinds 2 and 3 of any cell
(R77, R92, log 100). -/
def State.cleanFor (s : State) (kind asid : Nat) (die : Option Nat) : State :=
  (s.cells.filter (fun c => inScope die (dieOf c.1) && (decide (2 ≤ kind) || c.2.grid.any (fun g => asidOf (s.lr g) == asid)))).foldl
    (fun s c => (s.l1Cells c.1).foldl (fun s h => s.clean h (fun _ => true)) s) s

/-- An invalidation begun by a cell for a party: the entries removed, the dirty lines sent, and its completion under way
(R76, R77). -/
def State.invBegin (s : State) (c : Nat) (w : Who) (dst : Option RegSpec) (kind asid va : Nat) (die : Option Nat) : State :=
  let t := (s.invalidate kind asid va die).cleanFor kind asid die
  t.send c (.tlbi w dst kind asid va die t.serial)

/-- The flits of an invalidation: one from its cell's die for all the others within its scope, and one of the answer of each
(R383, log 92). -/
def State.invFlits (s : State) (c gid : Nat) (die : Option Nat) : Option State :=
  match (List.range 8).filter (fun d => inScope die d && d != dieOf c) with
  | [] => some s
  | d :: l => (d :: l).foldl (fun s d => s.bind (fun s => s.flits gid d (dieOf c) 1)) (s.flits gid (dieOf c) d 1)

/-- Whether an older access within the scope is still on its way to its serialisation point (R77). -/
def State.accessesLeft (s : State) (die : Option Nat) (mark : Nat) : Bool :=
  s.fly.any (fun f => decide (f.n < mark) &&
    (match f.f.coming? with | some a => inScope die (dieOf a.cell) && a.loc.isGlobal | none => false))

/-- Whether a commit buffer within the scope holds a global line written under a translation that the
invalidation could have removed: its write is still to reach its serialisation point (R77, R174). -/
def State.commitsLeft (s : State) (kind asid : Nat) (die : Option Nat) (mark : Nat) : Bool :=
  s.cells.any (fun c => inScope die (dieOf c.1) && [false, true].any (fun hi =>
    let b := c.2.bank hi
    (decide (2 ≤ kind) || b.task.any (fun k => asidOf (s.lr k.gid) == asid)) &&
      b.commit.any (fun l => !l.dsp && decide (l.n ≤ mark))))

/-- Whether a copy channel within the scope still works under a translation, made before the invalidation, that it
removes: for the 4 KiB piece that it has reached (R77). -/
def State.piecesLeft (s : State) (kind asid va : Nat) (die : Option Nat) (mark : Nat) : Bool :=
  let holds (w : Work) : Bool := [w.src, w.dst].any (fun p => p.any (fun p => decide (p.n < mark) && removes kind asid va p.e))
  s.cells.any (fun c => inScope die (dieOf c.1) && c.2.chans.any (fun h => holds h.2.w)) ||
    s.grids.any (fun g => g.2.pend.any (fun p => inScope die (dieOf p.cmd.cell) && holds p.w))

/-- Whether an invalidation is still to wait (R77). -/
def State.tlbiWaits (s : State) (kind asid va : Nat) (die : Option Nat) (mark : Nat) : Bool :=
  s.accessesLeft die mark || s.commitsLeft kind asid die mark || s.piecesLeft kind asid va die mark

/-- TLBI: the invalidation of the grid's ASID; A is pending until it completes (R76, R435). -/
def execTlbi (x : TlbiR) (s : State) : Out :=
  .next (s.irrev 0
    (let kind := if x.byAddr then 1 else 0
     let va := (s.rd x.b).toNat
     let die := if x.pkg then none else some (dieOf s.cur.cell)
     ((s.invBegin s.cur.cell s.who (some x.a) kind s.asid va die).mapB (fun b => addPend b x.a)).retire))

/-- TLBI_COMPLETE: every access that could have used a removed translation has arrived; what was read
meanwhile goes too, and A is written with 0 (R77, R383, R435). -/
def execTlbiComplete (k : Nat) (s : State) : Out :=
  match s.flight k with
  | some ⟨_, c, .tlbi w dst kind asid va die mark⟩ =>
    if s.tlbiWaits kind asid va die mark then .next s
    else
      match (if dst.isSome then (s.land k).invFlits c w.gid die else some (s.land k)) with
      | none => .next s
      | some t =>
        let s1 := t.invalidate kind asid va die
        match dst with
        | some r =>
          if s1.live w.cell w.hi w.act then
            .next (s1.mapBank w.cell w.hi (fun b =>
              let b1 := dropPend (writeReg b r 0) r
              { b1 with tokens := if r = 0#8 then b1.tokens else put b1.tokens r.toNat (if die.isSome then .die else .pkg) }))
          else .next s1
        | none => .next s1
  | _ => .next s

/-- HOST_INVALIDATE: the host asks for an invalidation of any kind (R76). -/
def execHostInvalidate (kind : BitVec 2) (asid va : Nat) (die : Option Nat) (s : State) : Out :=
  .next (s.invBegin 0 { cell := 0, hi := false, act := 0, msgid := 0, gid := 0 } none kind.toNat asid va die)

/-! ### Instruction lines (R20 to R25) -/

/-- Whether 96 bits and a parity bit hold an even number of ones together (R21). -/
def evenParity (x n : Nat) (p : Bool) : Bool := (popCount n x + (if p then 1 else 0)) % 2 == 0

/-- Whether a line word's own parity holds (R21, R25). -/
def lineParity (line : Nat) : Bool := popCount 16 (line / 2 ^ 496) % 2 == 0

/-- The lowest slot whose parity fails (R25). -/
def badSlot (line : Nat) : Option Nat :=
  (List.range 5).find? (fun i => !evenParity (line / 2 ^ (96 * i) % 2 ^ 96) 96 (bit line (480 + 27 + i)))

/-- Whether a line passes its checks (R25). -/
def lineOk (line : Nat) : Bool := lineParity line && (badSlot line).isNone

/-- The line as the fetch reads it, no data when it is poisoned: from the L1, or from the home slice, and then placed in
the L1; the second copy bypasses the L1. None while the slots of a read at the home slice are spent (R25, R59, R86, R87,
R383, R422). -/
def State.fetchLine (s : State) (c pa : Nat) (bypass : Bool) : Option (Option Nat × State) :=
  let at_ := pa / 64 * 64
  let home := memRead s.mem at_ 64
  let bad := s.bad at_ 64
  let g := (s.cell c).grid.getD 0
  if bypass then (s.hsRead g (dieOf c) at_).map (fun t => (if bad then none else some home, t))
  else
    match (s.l1Look c pa).bind (fun x => (l1Hit x at_ 64).map (fun d => (d, x))) with
    | some (d, x) => some (if x.bad = 0 then some d else none, (s.l1Put c x).countCell c 2)
    | none =>
      let x := (s.l1Look c pa).getD (.empty pa false)
      (s.hsRead g (dieOf c) at_).map (fun t =>
        let s1 := t.countCell c 3
        if bad || Nat.land x.bad (wordsOf x.dirty) != 0 then (none, s1)
        else (some (blend 64 home x.data x.dirty), s1.l1Fill c pa home .line))

/-- The address under which a fetch of line a is reported: the target of a transfer, else the line
(R25, R355). -/
def fetchAt (b : Bank) (a : Nat) : Nat := if b.entered.isSome && b.past.isNone then b.pc.toNat else a

/-- A line that the executing bank wants arrives: translation and permission, poison, then parity; a
line that fails is fetched once more (R24, R25, R49, R354). A transfer's target is reported for each of these causes
(R355, log 23), and of another line that fails twice its lowest failing slot (R25). -/
def State.lineArrives (s : State) (a : Nat) : State :=
  let t := fetchAt s.b a
  if 2 ^ 57 ≤ t then s.fetchTrap .xltCanon t (xltDetail 15 3 0)
  else
    match s.xl t 3 with
    | .error u =>
      (match s.xlFind t with
       | some e => s.fetchTrap .xltPerm t (xltDetail e.level 3 (e.leafAt t))
       | none => u)
    | .ok e =>
      let s := s.tlbUse t
      if e.ue then s.fetchTrap .memUe t (4 * 2 ^ 56)
      else
        let second := s.b.refetch
        match s.fetchLine s.cur.cell (e.pa a) second with
        | none => s
        | some (none, u) => u.fetchTrap .memUe t 0
        | some (some d, u) =>
          if lineOk d then u.mapB (fun b => { b with line := some { addr := a, data := d }, refetch := false })
          else if second then
            u.fetchTrap .fetchPar (if s.b.entered.isSome && s.b.past.isNone then t else a + (badSlot d).getD 0) 0
          else (u.mapB (fun b => { b with refetch := true })).countCell s.cur.cell 0

/-- The fetch of a bank's line, when the bank wants one and its task runs. -/
def State.fetch (s : State) (c : Nat) (hi : Bool) (second : Bool) : State :=
  let t : State := { s with cur := { s.cur with cell := c, hi := hi, pair := 0 } }
  let gone := match t.b.task with | some k => k.pendTrap.isSome || k.xfault.isSome | none => true
  match wantLine t.b with
  | some a =>
    if t.runs c hi && !gone && !t.floatFirst && !t.b.fell && inCode t.myLr t.b.pc.toNat && inCode t.myLr a && t.b.refetch == second then
      t.lineArrives a
    else s
  | none => s

/-- LINE_FETCH (R23 to R26, R188). -/
def execLineFetch (c : Nat) (hi : Bool) (s : State) : Out := .next (s.fetch c hi false)

/-- LINE_REFETCH: the second fetch of a line that failed its checks (R25). -/
def execLineRefetch (c : Nat) (hi : Bool) (s : State) : Out := .next (s.fetch c hi true)

end Sys2Proof.Machine
end

