-- ==== Sys2Proof/Machine/Context.lean ====
section
/-!
DEFINITION. Machine/Context.lean: pre-emption, the saving and the restoring of a grid, the removal of a
context, package reset and the quench (16 R382, 18 R424 to R428, R431, 19 R443).
-/

namespace Sys2Proof.Machine

/-! ### Pre-emption (R367, R382, R384, R431) -/

/-- PREEMPT_REQUEST: a resident grid is to be switched out for an admission, at a gang slice, or in a
quench (R382, R424). -/
def execPreemptRequest (gid : Nat) (s : State) : Out :=
  match look s.grids gid with
  | some x =>
    if x.resid == .running && x.ending.isNone && (s.plat.quench.isSome || s.gangOut gid || s.launchWants gid) then
      .next (s.mapGrid gid (fun x => { x with resid := .preempting }))
    else .next s
  | none => .next s

/-! ### Saving (R424 to R426) -/

/-- A command that has not started, saved: its status, PENDING-SAVED with the pending copy kept, or that of the check
that refuses it (R123, R137, R138). -/
def State.saveWhole (s : State) (k : Cmd) : Nat × State :=
  match k.preStatus (s.lr k.gid) with
  | some st => (st, s)
  | none => (1, s.mapGrid k.gid (savePend k {} [none]))

/-- One queued copy command of a grid that is switched out: discarded by its guard, refused, or pending
(R138, R287). -/
def State.saveQueued (s : State) (k : Cmd) : State :=
  if s.verdict k = some true then
    let r := s.saveWhole k
    r.2.complete k r.1 0
  else s.complete k 3 0

/-- The running command of a channel stopped at a piece boundary and saved, its token to come with PENDING-SAVED; one
that is completing is left (R137, R138). -/
def State.saveChan (s : State) (c ch : Nat) (h : Chan) : State :=
  match h.cmd with
  | none => s
  | some k =>
    if h.stop.isSome || h.done then s
    else
      let r : Nat × State :=
        if !k.started then s.saveWhole k
        else (1, s.mapGrid k.gid (savePend k h.w
          (if h.away.isEmpty then [none] else (k.members.filter (fun m => !h.away.contains m)).map some)))
      (r.2.setChan c ch { h with stop := some (r.1, 0) }).chanEnd c ch

/-- The copy commands of a cell saved (R138). DESIGN CHOICE (log 107): the spec gives no order in which several pending copies
of a grid replay; the remainders of the running commands come first, in the order of their channels, then the queued
commands in issue order, as R116 would have started them, and the copies replay in the order in which they were saved. -/
def State.saveCopies (s : State) (c : Nat) : State :=
  let x := s.cell c
  let s1 := x.chans.foldl (fun s h => s.saveChan c h.1 h.2) s
  x.tongs.foldl State.saveQueued (s1.mapCell c (fun y => { y with tongs := [] }))

/-- What of a cell goes to the save area (R425). -/
def State.savedCell (s : State) (c : Nat) : SavedCell :=
  let x := s.cell c
  let k := padKey c 0
  { cell := c, pad := memSlice s.mem k 0x3FFC0
    poison := s.poison.filter (fun w => decide (k / 8 ≤ w) && decide (w < (k + 0x3FFC0) / 8))
    qlo := x.qlo, qhi := x.qhi, ready := x.ready, again := x.again, hold := x.hold, csr := x.csr
    missed := x.missed, passed := x.passed }

/-- The streams of a grid that go to the save area: those that are not persistent, no longer pinned. -/
def State.outStreams (s : State) (g : Nat) : Map Stream :=
  s.dies.flatMap (fun d => (d.2.streams.filter (fun e => e.2.gid == g && !e.2.pers)).map (fun e =>
    (d.1 * 2 ^ 14 + e.1, { e.2 with pinned := false })))

/-- The bytes of a block of a slice of memory as a number. -/
def blockOf (l : List Host.Cell) (a : Nat) : Nat :=
  (l.filter (fun c => decide (a ≤ c.1) && decide (c.1 < a + 4096))).foldl (fun n c => n + c.2.toNat * 256 ^ (c.1 - a)) 0

/-- The nonce of a block: ASID, save epoch and the block's index (R426). -/
def saveNonce (asid epoch i : Nat) : BitVec 96 := BitVec.ofNat 96 (asid * 2 ^ 80 + epoch * 2 ^ 48 + i)

/-- Bytes other than zero written into memory, each at its key. -/
def memAll (m : List Host.Cell) (l : List (Nat × Byte)) : List Host.Cell := l.foldl (fun m b => memSet m b.1 b.2) m

/-- The tag of a block under a save key: AES-256-GMAC, its bytes in order (R426). -/
def blockTag (key asid epoch i block : Nat) : List Byte :=
  beBytes 16 (gmac (Config.saveKey key) (saveNonce asid epoch i) (gmacBlocks block)).toNat

/-- The save area of a grid written from an address: its blocks, whose layout is not stated, and their tags (R425,
R426, log 7, log 9). -/
def State.saveArea (s : State) (lr at_ epoch : Nat) : State :=
  let n := saveBlocks lr
  let m1 := memAll (memClear s.mem at_ (saveNeed lr))
    (((Config.saveBytes s.fresh).filter (fun b => decide (b.1 < 4096 * n))).map (fun b => (at_ + b.1, b.2)))
  let l := memSlice m1 at_ (4096 * n)
  let tag (i : Nat) : List (Nat × Byte) :=
    ((List.range 16).zip (blockTag s.plat.keyEpoch (asidOf lr) epoch i (blockOf l (at_ + 4096 * i)))).map (fun b =>
      (at_ + 4096 * n + 16 * i + b.1, b.2))
  { s with
    mem := memAll m1 (((List.range n).flatMap tag).filter (fun b => b.2 != 0))
    poison := poisonOff s.poison at_ (saveNeed lr)
    weak := s.weak.filter (fun l => decide (l < at_ / 64) || decide ((at_ + saveNeed lr) / 64 < l))
    fresh := s.fresh + 1 }

/-- The save area of a context: its base and bytes (R439). -/
def State.saveBase (s : State) (asid : Nat) : Nat × Nat :=
  (fld (lookD s.ctx asid 0) 439 388 * 4096, fld (lookD s.ctx asid 0) 387 364 * 4096)

/-- Where a grid's part of its context's save area comes to stand: the lowest place that the parts of the context's
saved grids leave free; none where no such place is left (R426, R439, log 95). -/
def State.saveSpot (s : State) (lr : Nat) : Option Nat :=
  let a := s.saveBase (asidOf lr)
  let used := (s.grids.filter (fun g => g.2.resid == .saved && asidOf g.2.lr == asidOf lr)).map (fun g =>
    (g.2.sealAt, g.2.sealAt + saveNeed g.2.lr))
  ((a.1 :: used.map (fun u => (u.2 + 4095) / 4096 * 4096)).filter (fun p =>
    decide (a.1 ≤ p) && decide (p + saveNeed lr ≤ a.1 + a.2) &&
      used.all (fun u => decide (p + saveNeed lr ≤ u.1) || decide (u.2 ≤ p)))).min?

/-- A grid saved at a place of its context's save area: its cells free, and the context's EPOCH advanced (R425, R426,
R439). -/
def State.saveGrid (s0 : State) (g : Nat) (x : Grid) (at_ : Nat) : State :=
  let epoch := (fld (lookD s0.ctx (asidOf x.lr) 0) 363 332 + 1) % 2 ^ 32
  let s := s0.saveArea x.lr at_ epoch
  let a := asidOf x.lr
  let e := lookD s.ctx a 0
  let cs := s.cellsOf g
  let y : Grid := { x with
    resid := .saved
    saved := cs.map s.savedCell
    savedClus := (rectClusters x.lr).map (fun k =>
      let u := s.cluster k.1
      { clu := k.1, bloom := u.bloom, budget := u.budget, drops := u.drops })
    savedDep := s.dies.flatMap (fun d => (d.2.dep.filter (fun e => e.p.gid == g)).map (fun e => (d.1, e)))
    savedStreams := s.outStreams g
    savedGates := s.dies.flatMap (fun d => (d.2.gates.filter (fun x => x.1 / 1024 == g)).map (fun x => (d.1, x.1, x.2)))
    sealKey := s.plat.keyEpoch
    sealAt := at_
    image := memSlice s.mem at_ (saveNeed x.lr) }
  let s1 : State := { s with
    grids := put s.grids g y
    ctx := put s.ctx a (setFld e 363 332 epoch)
    dies := s.dies.map (fun d => (d.1, { d.2 with
      dep := d.2.dep.filter (fun e => e.p.gid != g)
      gates := d.2.gates.filter (fun x => x.1 / 1024 != g)
      streams := d.2.streams.filter (fun e => e.2.gid != g || e.2.pers) })) }
  (cs.foldl (fun s c => s.mapCell c (fun x => x.fresh none)) s1).gangReady

/-- CONTEXT_SAVE: a grid that is to be switched out, all of whose cells are idle and whose class 0x18
commands, collectives and generation commands are complete: its copies are stopped, its L1s written back,
and it is saved, in global memory (R138, R266, R424, R426, log 73). -/
def execContextSave (gid : Nat) (s : State) : Out :=
  match look s.grids gid with
  | none => .next s
  | some x =>
    let cs := s.cellsOf gid
    if x.resid != .preempting || x.ending.isSome || !s.savable x.lr then .next s
    else
    match s.saveSpot x.lr with
    | none => .next s
    | some at_ =>
    if 2 ^ 40 < at_ + saveNeed x.lr then .fault .physicalHole
    else if cs.any (fun c => (s.cell c).runs || (s.cell c).arrays || !(s.cell c).cruc.isEmpty) || s.joint gid then .next s
    else if cs.any (fun c => !(s.cell c).tongs.isEmpty || (s.cell c).chans.any (fun h => h.2.cmd.isSome && h.2.stop.isNone && !h.2.done)) then
      .next (cs.foldl State.saveCopies s)
    else if cs.any (fun c => (s.cell c).copies) || s.inFlight gid false then .next s
    else if s.caching gid then .next (s.flushGrid gid)
    else .next (s.saveGrid gid x at_)

/-! ### Restoring (R424, R425, R427) -/

/-- A cell restored: what was saved, a scratchpad cleared but for it, and the information block. -/
def State.restoreCell (s : State) (g : Nat) (x : Grid) (e : SavedCell) : State :=
  let s1 := (s.mapCell e.cell (fun y => { y.fresh (some g) with
    qlo := e.qlo, qhi := e.qhi, ready := e.ready, again := e.again, hold := e.hold, csr := e.csr, missed := e.missed, passed := e.passed })).clearPad x.lr x.gtStart e.cell
  { s1 with mem := e.pad.foldl (fun m b => memSet m b.1 b.2) s1.mem, poison := s1.poison ++ e.poison }

/-- A saved grid restored to its rectangle and its stream-table entries; its active events are placed anew. -/
def State.restoreGrid (s : State) (g : Nat) (x : Grid) : State :=
  let y : Grid := { x with resid := .running, saved := [], savedClus := [], savedDep := [], savedStreams := [], savedGates := [], evSpill := [], image := [], sealAt := 0 }
  let s1 := (rectClusters x.lr).foldl (fun s e => s.setCluster x.lr x.fuse e) { s with grids := put s.grids g y }
  let s2 := x.savedClus.foldl (fun s e => s.mapCluster e.clu (fun u => { u with bloom := e.bloom, budget := e.budget, drops := e.drops })) s1
  let s3 := x.saved.foldl (fun s e => s.restoreCell g x e) s2
  let s4 := x.savedDep.foldl (fun s e => s.mapDie e.1 (fun d => { d with dep := d.dep ++ [e.2] })) s3
  let s5 := x.savedStreams.foldl (fun s e => s.setStream e.1 e.2)
    (x.savedGates.foldl (fun s e => s.mapDie e.1 (fun d => { d with gates := put d.gates e.2.1 e.2.2 })) s4)
  (s5.evNames g).foldl (fun s n => s.evPlace g n false) s5

/-- Whether a saved grid may return: its rectangle and its stream-table entries are free, its reservations
and spawns fit, every die runs verified firmware, and nothing holds it out (R424, R367, R384, R448). -/
def State.mayReturn (s : State) (x : Grid) : Bool :=
  x.ending.isNone && s.plat.quench.isNone && s.gangGate x.lr && !s.removing (asidOf x.lr) &&
    (rectCells x.lr).all (fun c => (s.cell c).grid.isNone) && s.budgetsFit x.lr [] &&
    x.savedStreams.all (fun e => (s.sEnt e.1).isNone) && s.plat.up &&
    (List.range 8).all (fun d => decide ((s.die d).dep.length + (x.savedDep.filter (fun e => e.1 == d)).length ≤ 4096))

/-- A context begins to be removed, unless it is already; its grids end with a status. -/
def State.loseContext (s : State) (asid status : Nat) : State :=
  let s1 := (s.grids.filter (fun g => asidOf g.2.lr == asid)).foldl (fun s g => s.endGrid g.1 { status := status }) s
  if s1.removing asid then s1
  else s1.mapPlat (fun p => { p with removals := p.removals ++ [{ asid := asid, step := 1, since := s.gt.toNat }] })

/-- Whether every block of a saved grid's area passes its checks: it was written under the device's key, its bytes and
tags are those that the save left, and none is poisoned (R426, R427, log 95). -/
def State.areaIntact (s : State) (x : Grid) : Bool :=
  x.sealKey == s.plat.keyEpoch && memSlice s.mem x.sealAt (saveNeed x.lr) == x.image &&
    !s.poison.any (fun w => decide (x.sealAt / 8 ≤ w) && decide (8 * w < x.sealAt + saveNeed x.lr))

/-- CONTEXT_RESTORE: a saved grid returns when every block of its area passes its checks under the device's
key; else its context is lost. The step itself says whether the reading of the area meets an error of its own (R426,
R427, R443). -/
def execContextRestore (gid : Nat) (intact : Bool) (s : State) : Out :=
  match look s.grids gid with
  | some x =>
    if x.resid != .saved || !s.mayReturn x then .next s
    else if intact && s.areaIntact x then .next (s.restoreGrid gid x)
    else .next (s.loseContext (asidOf x.lr) 0x12)
  | none => .next s

/-! ### Package reset (R426, R443) -/

/-- The header that the device makes of a quench image: its save key wrapped, signed under its identity key (R443). -/
def headerOf (key : Nat) : QuenchHeader :=
  { wrapped := Config.wrapKey (Config.saveKey key), sig := Config.identitySign (Config.wrapKey (Config.saveKey key)) }

/-- Whether a header is signed under the device's own identity key (R443, log 8). -/
def ownHeader (h : QuenchHeader) : Bool := h.sig == Config.identitySign h.wrapped

/-- A saved grid under the key that a header carries: its area passes under the device only where that is the key that
sealed it (R443). -/
def Grid.unwrap (x : Grid) (h : QuenchHeader) (key : Nat) : Grid :=
  if Config.wrapKey (Config.saveKey x.sealKey) = h.wrapped then { x with sealKey := key } else x

/-- The package after a reset: memory keeps its bytes (log 22) and the host its table, GT runs on, and a new
save key is made. From a quench image, whose header the device verifies with its own identity key, the saved contexts come
back, their areas under the key that it unwraps from the header; there is one only where a quench has written a header and
saved every grid. An image of another package is refused (R443, log 93). -/
def State.packageReset (s : State) (img : Option QuenchHeader) : State :=
  let image := img.any ownHeader && s.plat.header.isSome && s.grids.all (fun g => g.2.resid == .saved)
  let key := s.plat.keyEpoch + 1
  let s0 : State := { State.reset with
    gt := s.gt, sched := s.sched, fresh := s.fresh, serial := s.serial, ctx := s.ctx, plat := { keyEpoch := key }, weak := s.weak
    mem := s.mem.filter (fun c => decide (c.1 < 2 ^ 41)), poison := s.poison.filter (fun w => decide (w < 2 ^ 38)) }
  if !image then s0
  else { s0 with
    grids := (s.grids.filter (fun g => g.2.resid == .saved)).map (fun g => (g.1, match img with | some h => g.2.unwrap h key | none => g.2))
    mem := s.mem.filter (fun c => decide (c.1 < 2 ^ 41) || decide (2 ^ 43 ≤ c.1))
    poison := s.poison.filter (fun w => decide (w < 2 ^ 38) || decide (2 ^ 40 ≤ w))
    dies := s.dies.map (fun d => (d.1, { pool := d.2.pool, spilled := d.2.spilled, recent := d.2.recent
                                         spillQ := d.2.spillQ, csr := d.2.csr, streams := d.2.streams.filter (fun e => e.2.pers) }))
    crucs := s.crucs.map (fun k => (k.1, { k.2 with queries := [], mu := {} })) }

/-- PACKAGE_RESET (R426, R443). -/
def execPackageReset (image : Option QuenchHeader) (s : State) : Out := .next (s.packageReset image)

/-! ### Removal (R428) -/

/-- The grids of an ASID. -/
def State.gridsOf (s : State) (asid : Nat) : List Nat := (s.grids.filter (fun g => asidOf g.2.lr == asid)).map (·.1)

/-- The ASID of a translation request on its way. -/
def xlatAsid (f : Flight) : Option Nat :=
  match f with
  | .look x => some x.asid
  | .walk w => some w.x.asid
  | .wread w => some w.x.asid
  | .winst w _ => some w.x.asid
  | .dirty x _ => some x.asid
  | _ => none

/-- Whether an access of an ASID is on its way. -/
def accessOf (asid : Nat) (task : Bool) (f : Flight) : Bool :=
  match f.acc? with
  | some a => a.asid == asid && (a.task || !task)
  | none => false

/-- Step 1: launch records of the ASID are refused. -/
def State.removeLaunches (s : State) (asid : Nat) : State :=
  s.plat.queues.foldl (fun s q => match q.2.pending with
    | some l => if asidOf l.lr = asid then s.refuse q.1 l.lr 1 0 else s
    | none => s) s

/-- Step 3: the tongs commands of the ASID stop at a piece boundary, and pending copies are dropped. -/
def State.removeCopies (s : State) (g : Nat) : State :=
  ((s.cellsOf g).foldl (fun s c => (s.cell c).chans.foldl (fun s h =>
    if h.2.cmd.isSome && h.2.stop.isNone && !h.2.done then (s.setChan c h.1 { h.2 with stop := some (2, 0) }).chanEnd c h.1 else s)
    (s.mapCell c (fun x => { x with tongs := [] }))) s).mapGrid g (fun x => { x with pend := [] })

/-- Step 5: every stream of the ASID freed. -/
def State.removeStreams (s : State) (asid : Nat) : State :=
  let ids := s.dies.flatMap (fun d => (d.2.streams.filter (fun e => e.2.asid == asid)).map (fun e => d.1 * 2 ^ 14 + e.1))
  let s1 := ids.foldl (fun s i => (s.endStream false (s.sFuel i) i).1) s
  (s.gridsOf asid).foldl (fun s g =>
    (s.endSaved false (((look s.grids g).map (·.savedStreams)).getD [])).mapGrid g (fun x => { x with savedStreams := [] })) s1

/-- Step 6: sequences and mask slots of the ASID freed. -/
def State.removeCrucible (s : State) (asid : Nat) : State :=
  { s with crucs := s.crucs.map (fun k =>
      let x := ((k.2.seqs.filter (fun e => e.2.asid == asid)).map (·.1)).foldl (fun (x : Crucible) e => (x.free e).1) k.2
      (k.1, { x with slots := x.slots.filter (fun e => e.2.1 != asid), asids := del x.asids asid
                     held := x.held.filter (fun q => asidOf (s.lr q.cmd.gid) != asid) })) }

/-- Step 7: lock entries of the ASID deleted. -/
def State.removeLocks (s : State) (asid : Nat) : State :=
  { s with
    dies := s.dies.map (fun d => (d.1, { d.2 with locks := d.2.locks.map (fun l => (l.1, l.2.filter (fun e => e.asid != asid))) }))
    cells := s.cells.map (fun c => (c.1, { c.2 with locks := c.2.locks.filter (fun e => e.asid != asid) })) }

/-- A step of a removal: the state after its action, and whether its units hold nothing of the ASID. -/
def State.removeStep (s : State) (asid : Nat) : Nat → State × Bool
  | 1 => (s.removeLaunches asid, true)
  | 2 =>
    let t := (s.gridsOf asid).foldl State.discardGrid s
    (t, !(t.gridsOf asid).any (fun g => (t.cellsOf g).any (fun c => (t.cell c).runs)) && !t.fly.any (fun f => accessOf asid true f.f))
  | 3 =>
    let t := (s.gridsOf asid).foldl State.removeCopies s
    (t, !(t.gridsOf asid).any (fun g => (t.cellsOf g).any (fun c => (t.cell c).copies)))
  | 4 => (s, !(s.gridsOf asid).any (fun g => s.joint g || (s.cellsOf g).any (fun c => (s.cell c).arrays)))
  | 5 => (s.removeStreams asid, true)
  | 6 =>
    let busy := (s.gridsOf asid).any (fun g =>
      s.crucs.any (fun k => k.2.queries.any (fun q => q.cmd.gid == g)) || s.fly.any (fun f => s.flightGrid f.f == some g && crucFlight f.f))
    if busy then (s, false) else (s.removeCrucible asid, true)
  | 7 => if s.fly.any (fun f => accessOf asid false f.f) then (s, false) else (s.removeLocks asid, true)
  | _ => if s.fly.any (fun f => xlatAsid f.f == some asid) || !(s.gridsOf asid).isEmpty then (s, false)
         else (s.invalidate 0 asid 0 none, true)

/-- CONTEXT_REMOVAL: the host begins the removal of a context, or the removal's present step acts and, when
its units hold nothing of the ASID, gives way to the next (R428). -/
def execContextRemoval (asid : Nat) (s : State) : Out :=
  match s.plat.removals.find? (fun r => r.asid == asid) with
  | none => .next (s.loseContext asid 0x16)
  | some r =>
    let t := s.removeStep asid r.step
    if !t.2 then .next t.1
    else if r.step = 8 then .next (t.1.mapPlat (fun p => { p with removals := p.removals.filter (fun x => x.asid != asid) }))
    else .next (t.1.mapPlat (fun p => { p with removals := p.removals.map (fun x =>
      if x.asid = asid then { x with step := x.step + 1, since := s.gt.toNat } else x) }))

/-- REMOVAL_TIMEOUT: a step that has not ended within 2^20 cycles makes the package reset (R428). -/
def execRemovalTimeout (asid : Nat) (s : State) : Out :=
  match s.plat.removals.find? (fun r => r.asid == asid) with
  | some r => if r.since + 2 ^ 20 ≤ s.gt.toNat then .next (s.packageReset none) else .next s
  | none => .next s

/-! ### The quench (R431) -/

/-- QUENCH: the host begins a quench: admissions stop, every resident grid is to be switched out, and the device writes the
signed header with which the image begins (R431, R443). -/
def execQuench (s : State) : Out :=
  if s.plat.quench.isSome then .next s
  else
    let out (g : Grid) : Grid := if g.resid = .running then { g with resid := .preempting } else g
    .next { s with grids := s.grids.map (fun (n, g) => (n, out g)), plat := { s.plat with
      quench := some s.gt.toNat, header := some (headerOf s.plat.keyEpoch) } }

/-- A task aborted by the quench, without a report; its message becomes a ready entry again (R171, R431). DESIGN CHOICE (log
105): R184 names wounds and RESUME alone; the re-run of a task that held a set when the quench aborted it counts in
ASET_RESTART as well. -/
def State.quenchTask (s : State) (c : Nat) (hi : Bool) (k : Task) : State :=
  (s.abortTask c hi 0).mapCell c (fun x => { x with again := x.again ++ [k.again hi (k.slots.any (fun e => e.2.held))] })

/-- QUENCH_ABORT_TIMEOUT: 2^20 cycles after the request the tasks that still run or are halted are aborted,
but for a holder whose drain has begun, and a grid that cannot be saved ends with NOSAVE (R431). -/
def execQuenchAbortTimeout (s : State) : Out :=
  match s.plat.quench with
  | none => .next s
  | some q =>
    if s.gt.toNat < q + 2 ^ 20 then .next s
    else
      .next (((s.grids.filter (fun g => g.2.resid != .saved && g.2.ending.isNone)).foldl (fun s g =>
        let t := s.abortTasks g.1 Task.committing State.quenchTask
        if s.savable g.2.lr && (s.saveSpot g.2.lr).isSome then t else t.endGrid g.1 { status := 0x17 }) s))

end Sys2Proof.Machine
end

