-- ==== Sys2Proof/Machine/Control.lean ====
section
/-!
DEFINITION. Machine/Control.lean: classes 0x20 and 0x21: branches, jumps and calls, and hardware loops
(15 R352 to R363).
-/

namespace Sys2Proof.Machine

/-- The sequential successor of the executing instruction (R23, R353). -/
def State.nextPc (s : State) : Word := BitVec.ofNat 64 (nextSeq s.b.pc.toNat)

/-- A target named by a line offset and a slot (R353, R359). -/
def State.target (s : State) (off : Int) (slot : Nat) : Word :=
  BitVec.ofNat 64 (lineOf s.b.pc.toNat) + BitVec.ofInt 64 (64 * off) + BitVec.ofNat 64 slot

/-- The link register written (R353). -/
def State.link (s : State) : State := s.wr 0x88#8 s.nextPc

/-- A jump to a computed target: a form that R22 forbids traps at the target, after the link and the
disarms (R22, R354, R355). -/
def State.jumpReg (s : State) (t : Word) : State :=
  let src := s.b.pc.toNat
  let s1 := s.jump t.toNat
  if 5 ≤ slotOf t.toNat || fld t.toNat 5 3 != 0 then
    s1.takeTrap s.cur.cell s.cur.hi { cause := .btm, pc := t.toNat, addr := t.toNat, spc := src }
  else if fld t.toNat 63 57 ≠ 0 then
    s1.takeTrap s.cur.cell s.cur.hi { cause := .xltCanon, pc := t.toNat, addr := t.toNat, detail := 15 * 2 ^ 60 + 3 * 2 ^ 56, spc := src }
  else s1

/-- B (R353). -/
def execB (x : BrR) (s : State) : Out :=
  let p := s.rd x.a
  let q := s.rd x.b
  .next (if iCond x.cond p.toInt q.toInt p.toNat q.toNat then s.jump (s.target x.loff.toInt x.tslot.toNat).toNat else s.retire)

/-- J (R353). -/
def execJ (x : JmpR) (s : State) : Out := .next (s.jump (s.target x.loff.toInt x.tslot.toNat).toNat)

/-- JL: the link is written at issue (R353). -/
def execJl (x : JmpR) (s : State) : Out := .next (s.link.jump (s.target x.loff.toInt x.tslot.toNat).toNat)

/-- JR (R353). -/
def execJr (a : RegSpec) (s : State) : Out := .next (s.jumpReg (s.rd a))

/-- JLR: the target is read before the link is written (R353). -/
def execJlr (a : RegSpec) (s : State) : Out := .next (s.link.jumpReg (s.rd a))

/-- The registers of a loop: its count, its start and its end (R357). -/
def loopRegs (k : Bool) : List RegSpec := if k then [0x91#8, 0x93#8, 0x95#8] else [0x90#8, 0x92#8, 0x94#8]

/-- START and END of loop `k` written; its three registers are written whole by the instruction (R359, R422). -/
def setRange (b : Bank) (k : Bool) (st en : Word) : Bank :=
  if k then { b.fresh (loopRegs k) with ls1 := st, le1 := en } else { b.fresh (loopRegs k) with ls0 := st, le0 := en }

/-- Whether the inner of two ranges lies in the outer (R359). -/
def nested (os oe is ie : Word) : Bool := decide (os.toNat ≤ is.toNat) && decide (ie.toNat ≤ oe.toNat)

/-- The bank after the zero-count skip of LSET: flow goes on after END, whose line is examined for END
when it was slot 4, unless the other loop returns to its start (R359). -/
def skipLoop (b : Bank) (o : Bool) (e : Word) : Bank :=
  let r := if armed b o && loopEnd b o == e then loopTest b o else (b, none)
  match r.2 with
  | some t => enter r.1 t e.toNat
  | none => { r.1 with
      pc := BitVec.ofNat 64 (nextSeq e.toNat), entered := none, fell := false, second := false, joint := false,
      past := if slotOf e.toNat = 4 then some (lineOf e.toNat) else none }

/-- LSET (R359). -/
def execLset (x : LsetR) (s : State) : Out :=
  let st := s.target x.sloff.toInt x.sslot.toNat
  let en := s.target x.eloff.toInt x.eslot.toNat
  let n := (s.rd x.b).toNat % 2 ^ 32
  let o := !x.k
  let b := s.b
  if en.toNat < st.toNat then .next (s.trap .loopRange 0 0)
  else if armed b o && !(if x.k then nested (loopStart b o) (loopEnd b o) st en else nested st en (loopStart b o) (loopEnd b o)) then
    .next (s.trap .loopNest 0 0)
  else
    let s1 := s.mapB (fun b => setLc (setRange b x.k st en) x.k (n != 0) n)
    if n = 0 then .next (s1.mapB (fun b => (skipLoop b o en).mapTask clearMarks))
    else .next s1.retire

/-- A loop's registers made zero (R362, R422). -/
def clearLoop (b0 : Bank) (k : Bool) : Bank :=
  let b := b0.fresh (loopRegs k)
  if k then { b with lc1 := 0, ls1 := 0, le1 := 0 } else { b with lc0 := 0, ls0 := 0, le0 := 0 }

/-- LCLR: 0 loop 0, 1 loop 1, 2 both (R362). -/
def execLclr (w : BitVec 2) (s : State) : Out :=
  .next (s.mapB (fun b =>
    let b1 := if w = 0 ∨ w = 2 then clearLoop b false else b
    if w = 1 ∨ w = 2 then clearLoop b1 true else b1)).retire

end Sys2Proof.Machine
end

