-- ==== Sys2Proof/Machine/Platform.lean ====
section
/-!
DEFINITION. Machine/Platform.lean: the host's registers (19 R438 to R441), gang slices (16 R384), the
packets of the torus (19 R444), global time (19 R447), firmware, attestation and power (19 R448 to R450).
-/

namespace Sys2Proof.Machine

/-! ### The host's registers (R438 to R441) -/

/-- An area of R441 written: kept when it has its minimum length and lies in global memory of its die, and
not changed while a grid is resident. -/
def State.setArea (s : State) (die : Option Nat) (base len least : Nat) (f : Plat → Plat) : Out :=
  if 2 ^ 40 < base + len then .fault .physicalHole
  else if len < least || s.grids.any (fun g => g.2.resid != .saved) ||
      die.any (fun d => 8 ≤ d || homeDie base != d || homeDie (base + len - 1) != d) then .next s
  else .next (s.mapPlat f)

/-- A context entry as the host writes it: EPOCH stays the device's, and the bits that are zero stay so (R439). -/
def hostEntry (old new : Nat) : Nat :=
  fld new 511 364 * 2 ^ 364 + fld old 363 332 * 2 ^ 332 + fld new 53 12 * 2 ^ 12 + new % 2

/-- A context entry written. -/
def State.setCtx (s : State) (asid entry : Nat) : State :=
  { s with ctx := put s.ctx (asid % 2 ^ 16) (hostEntry (lookD s.ctx (asid % 2 ^ 16) 0) entry) }

/-- HOST_REGISTER_WRITE: the host writes a register, its context table, or memory at sys scope; a place
outside the map of R56 stops the machine (R438 to R441). -/
def execHostRegisterWrite (w : HostWrite) (s : State) : Out :=
  match w with
  | .qbase q v => .next (s.setLq (q % 64) { s.lq (q % 64) with base := v.toNat })
  | .qlog q v => .next (s.setLq (q % 64) { s.lq (q % 64) with log := v.toNat })
  | .msgArea d base len => s.setArea (some d) base len (4 * 2 ^ 20) (fun p => { p with msgArea := put p.msgArea d (base, len) })
  | .evArea d base len => s.setArea (some d) base len (2 ^ 20) (fun p => { p with evArea := put p.evArea d (base, len) })
  | .lockArea d base len => s.setArea (some d) base len (64 * 16384 * 32) (fun p => { p with lockArea := put p.lockArea d (base, len) })
  | .hearthArea d base len =>
    s.setArea (some d) base len (192 * 2 ^ 20) (fun p => { p with hearthArea := put p.hearthArea d (base, len) })
  | .gangArea base len => s.setArea none base len (2 ^ 16) (fun p => { p with gangArea := some (base, len) })
  | .coords a b c d =>
    s.setArea none 0 0 0 (fun p => { p with coords := some (a.toNat, b.toNat, c.toNat, d.toNat) })
  | .context asid entry => .next (s.setCtx asid entry.toNat)
  | .store pa data =>
    if 2 ^ 41 < pa + data.length then .fault .physicalHole
    else .next (s.poke true pa data.length (ofBytes data) (fullMask data.length))
  | .replay id recs => .next (s.mapPlat (fun p => { p with replays := put p.replays id recs }))
  | .schedule l => .next (s.mapPlat (fun p => { p with gangSched := l }))
  | .packet dst flits =>
    if 64 < flits.length then .next s else .next (s.mapPlat (fun p => { p with sent := p.sent ++ [Packet.host dst flits] }))

/-- CONTEXT_ENTRY_SIGNAL: the host signals a changed entry, whose HEAD is on its way to the crucibles (R439). -/
def execContextEntrySignal (asid entry : Nat) (s : State) : Out :=
  let t := s.setCtx asid entry
  .next (t.mapPlat (fun p => { p with headDue := put p.headDue (asid % 2 ^ 16) (t.ctxHead (asid % 2 ^ 16)) }))

/-! ### Gang slices (R384) -/

/-- GWIN of the launch record of a gang's grid, resident, saved or waiting in a queue; a package that has none takes the
window of the host's schedule (R364, R384, log 20). -/
def State.gangWin (s : State) (gangid given : Nat) : Nat :=
  let lrs := s.grids.map (fun g => g.2.lr) ++ s.plat.queues.filterMap (fun q => q.2.pending.map (·.lr))
  ((lrs.find? (fun lr => gangv lr && gangidOf lr == gangid)).map (fun lr => fld lr 943 928)).getD given

/-- GANG_SLICE_INSTANT: at the instant of a slice of the schedule the job that owns it, or the one to be
tried again, begins to come in, and the others to go out. -/
def execGangSliceInstant (slice : Nat) (s : State) : Out :=
  match s.plat.gangSched.find? (fun e => e.slice == slice) with
  | none => .next s
  | some e =>
    if s.gt.toNat < e.at_ || s.plat.gangTry.isSome || s.plat.slices.contains slice || s.plat.quench.isSome then .next s
    else
      let again := s.plat.gangRetry.bind (fun j => s.plat.gangSched.find? (fun x => x.gangid == j))
      let own := again.getD e
      let t : GangTry := { slice := slice, at_ := e.at_, gangid := own.gangid, gwin := s.gangWin own.gangid own.gwin,
                           members := own.members }
      .next (s.mapPlat (fun p => { p with gangTry := some t })).gangReady

/-- Whether READY, stamped in time, has come from every member (R384). -/
def Plat.allReady (p : Plat) (t : GangTry) : Bool :=
  t.members.all (fun m => p.gang.any (fun g =>
    g.src == m && !g.late && g.gangid == t.gangid && g.slice == t.slice && decide (g.gt ≤ t.at_ + 2048)))

/-- GANG_DECISION: at the window's end the incoming job starts, or the slice is abandoned and the outgoing
job goes on, but for its grids that a quench or a waiting launch also requested to go (R382). -/
def execGangDecision (slice : Nat) (s : State) : Out :=
  match s.plat.gangTry with
  | none => .next s
  | some t =>
    if t.slice ≠ slice ∨ s.gt.toNat < t.at_ + 2048 + t.gwin then .next s
    else
      let done (p : Plat) : Plat := { p with
        gangTry := none, slices := p.slices ++ [slice], gang := p.gang.filter (fun g => g.slice != slice) }
      if s.plat.allReady t then .next (s.mapPlat (fun p => { done p with gangNow := some t.gangid, gangRetry := none }))
      else
        let back (n : Nat) (g : Grid) : Grid :=
          if g.resid = .preempting ∧ gangv g.lr ∧ gangidOf g.lr ≠ t.gangid ∧ s.plat.quench.isNone ∧ !s.launchWants n then
            { g with resid := .running } else g
        .next ({ s with grids := s.grids.map (fun (n, g) => (n, back n g)) }.mapPlat (fun p => { done p with
          gangRetry := some t.gangid, abandons := bump p.abandons t.gangid 1 }))

/-- GANG: a READY or LATE packet arrives, unless its port has failed (R421). -/
def execGang (p : GangPacket) (s : State) : Out :=
  if s.plat.deaf p.src then .next s else .next (s.mapPlat (fun q => { q with gang := q.gang ++ [p] }))

/-! ### Global time (R447) -/

/-- TSYNC: a sample from the neighbour on the way to the time root corrects GT towards it; more than 8 cycles
off is reported to the host. The root takes none, and nothing comes in on a failed port (R421). -/
def execTsync (port gt : Nat) (s : State) : Out :=
  if portTo s.plat.at_ [0, 0, 0, 0] ≠ some port ∨ s.plat.down.contains (.port port) then .next s
  else
    let off : Int := (gt : Int) - (s.gt.toNat : Int)
    .next (s.mapPlat (fun p => { p with slew := off, irqs := if 8 < off.natAbs then p.irqs ++ [.timeOff] else p.irqs }))

/-- TSYNC_PERIOD: every 2^20 cycles a sample goes to each neighbour. -/
def execTsyncPeriod (s : State) : Out :=
  let n := s.gt.toNat / 2 ^ 20
  if n ≤ s.plat.tsyncs then .next s
  else .next (s.mapPlat (fun p => { p with tsyncs := n, sent := p.sent ++ (List.range 8).map (fun k => Packet.tsync k s.gt.toNat) }))

/-! ### Other packets (R444) -/

/-- HOST: host-to-host traffic, opaque to the device, goes to the host; a packet has at most 64 data flits, and comes in
on a port that has not failed. -/
def execHost (port : Nat) (flits : List (BitVec 512)) (s : State) : Out :=
  if s.plat.down.contains (.port port) then .next s
  else .next (s.mapPlat (fun p => { p with hostIn := p.hostIn ++ [(port, flits.take 64)] }))

/-- LINK: link training and flow credit change nothing that the specification names. -/
def execLink (_port _kind : Nat) (s : State) : Out := .next s

/-- RESERVED_PACKET_DROP: a packet of kinds 8 to 15 is dropped and counted for its port. -/
def execReservedPacketDrop (port kind : Nat) (s : State) : Out :=
  if 8 ≤ kind ∧ kind < 16 ∧ !s.plat.down.contains (.port port) then .next (s.mapPlat (fun p => { p with rsvd := bump p.rsvd port 1 })) else .next s

/-! ### Firmware, attestation, power (R448 to R450) -/

/-- Bytes of a digest. -/
def digestBytes (d : BitVec 384) : List Byte := bytesOf 48 d.toNat

/-- FIRMWARE_VERIFY: a die's boot ROM verifies an image; one that passes runs and is measured, one that fails
leaves the package in reset with an error code, whose value is not stated (R448, log 7, log 8). -/
def execFirmwareVerify (die : Nat) (image sig : List (BitVec 8)) (s : State) : Out :=
  let h := Config.sha384 image
  if Config.ecdsaVerify (digestBytes h) sig then
    .next (s.mapPlat (fun p => { p with pcr := p.pcr ++ [h], booted := die :: p.booted.filter (· != die) }))
  else
    let f := s.freeVal
    .next (f.2.mapPlat (fun p => { p with bootErr := put p.bootErr die f.1 }))

/-- ATTESTATION_REQUEST: the report of R449 and its signature. -/
def execAttestationRequest (nonce : BitVec 384) (s : State) : Out :=
  let r := digestBytes nonce ++ bytesOf 8 s.gt.toNat ++ s.plat.at_.map (BitVec.ofNat 8) ++ s.plat.pcr.flatMap digestBytes ++
    bytesOf 8 Config.fuses.toNat
  .next (s.mapPlat (fun p => { p with reports := p.reports ++ [r ++ Config.identitySign r] }))

/-- POWER_LIMIT: issue cycles are withheld, which shows only in the count that the host reads (R450). -/
def execPowerLimit (cycles : Nat) (s : State) : Out := .next (s.mapPlat (fun p => { p with throttle := p.throttle + cycles }))

end Sys2Proof.Machine
end

