-- ==== Sys2Proof/Machine/Rings.lean ====
section
/-!
DEFINITION. Machine/Rings.lean: the barrier instructions (05 R134 to R136), ring handles (11 R267 to R273),
and guard slots (11 R288).
-/

namespace Sys2Proof.Machine

/-! ### Barriers -/

/-- The space that a barrier instruction names. -/
def barSpace (sp : BitVec 2) : Space := if sp = 0 then .l else if sp = 1 then .c else .d

/-- An access of the executing task on its way. -/
def State.sendAcc (s : State) (ea : Nat) (loc : Loc) (n : Nat) (op : AOp) : State :=
  s.send s.cur.cell (.access (s.acc ea loc n op))

/-- BINIT (R136). -/
def execBinit (x : BarR) (s : State) : Out :=
  let ea := (s.rd x.b).toNat
  match s.resolve (barSpace x.sp) ea 16 0 with
  | .error t => .next t
  | .ok p => if s.holder then .next (s.trap .asetIrrev ea 0) else .next (s.sendAcc ea p.loc 16 .binit).retire

/-- BPOST (R136). -/
def execBpost (x : BpostR) (s : State) : Out :=
  let ea := (s.rd x.b).toNat
  match s.resolve (barSpace x.sp) ea 16 0 with
  | .error t => .next t
  | .ok p =>
    if s.holder then .next (s.trap .asetIrrev ea 0)
    else .next (s.sendAcc ea p.loc 16 (.bpost ((s.rd x.c).toNat % 2 ^ 48))).retire

/-- BTESTs that a port watches or is about to. -/
def State.btests (s : State) (c : Nat) : Nat :=
  (s.cell c).watch.length + (s.fly.filter (fun f => match f.f with
    | .access a => (match a.loc, a.op with | .port d _, .btest _ => d == c | _, _ => false)
    | _ => false)).length

/-- BTEST: the token is pending; with s0 or DET it has no effect but its address checks, and it waits in
issue while the watch table is full (R136). -/
def execBtest (x : BtestR) (s : State) : Out :=
  let ea := (s.rd x.b).toNat
  match s.resolve (barSpace x.sp) ea 16 0 with
  | .error t => .next t
  | .ok p =>
    if x.det || x.a == 0#8 then .next s.retire
    else
      match p.loc with
      | .port c _ =>
        if 32 ≤ s.btests c then .next s
        else .next (((s.sendAcc ea p.loc 16 (.btest x.a)).mapB (fun b => addPend b x.a)).retire)
      | _ => .next s.retire

/-! ### Ring handles -/

/-- The scratchpad place of a bound handle's control word, for the issuing cell. -/
def State.ctlLoc (s : State) (r : Ring) : Loc := .port (cellAt (dieOf s.cur.cell) (r.ctl / 2 ^ 18)) (r.ctl % 2 ^ 18)

/-- NSLOT of a bound handle. -/
def Ring.nslot (r : Ring) : Nat := fld r.desc 143 128

/-- HBIND: 32 bytes read as a load; the handle is bound when they return (R272). -/
def execHbind (x : HbindR) (s : State) : Out :=
  let ea := (s.rd x.b).toNat
  let sp : Space := if x.loc then .l else .g
  match s.resolve sp ea 8 0 with
  | .error t => .next t
  | .ok p =>
    let k := Nat.min 32 (64 - ea % 64)
    match (if k < 32 then s.resolve sp (ea + k) 8 0 else .ok p) with
    | .error t => .next t
    | .ok q =>
      match s.withSets [(p, k), (q, 32 - k)] with
      | .error t => .next t
      | .ok _ =>
        let o1 := s.overlay p k
        let o2 := s.overlay q (32 - k)
        let die (p : Spot) (n : Nat) : Bool := s.localBad p .die n
        if die p k || die q (32 - k) then .next (s.trap .memUe ea (p.loc.uePlace * 2 ^ 56))
        else
          let a : Access := { s.acc ea p.loc 32 (.hbind x.n.toNat q.loc.key x.a) with
                              ovMask := o1.1 + o2.1 * 2 ^ k, ovData := o1.2 + o2.2 * 2 ^ (8 * k), unc := p.mt != 0,
                              also := some (hndSpec x.n) }
          .next ((((s.used p ea).used q (ea + k)).send s.cur.cell (.access a)).mapB
            (fun b => addPend (addPend b x.a) (hndSpec x.n))).retire

/-- HBIND `.none` (R272). -/
def execHbindNone (x : HndR) (s : State) : Out :=
  .next ((s.mapB (fun b => { b with hnd := del b.hnd x.n.toNat })).finish x.a 0)

/-- HADVP and HADVC: a release, the update at the owning port, an acquire (R273). -/
def State.advance (s : State) (x : HadvR) (consumer : Bool) : State :=
  match s.release x.sc with
  | .error t => t
  | .ok t =>
    match look t.b.hnd x.n.toNat with
    | none => (t.acquire t.cur.cell x.sc).finish x.a (BitVec.ofNat 64 (2 ^ 48))
    | some r =>
      let a : Access := { t.acc r.ctl (t.ctlLoc r) 8 (.advance consumer ((t.rd x.c).toNat % 2 ^ 32) r.nslot x.a) with acq := some x.sc, also := some (hndSpec x.n) }
      ((t.send t.cur.cell (.access a)).mapB (fun b => addPend (addPend b x.a) (hndSpec x.n))).retire

/-- HADVP (R273). -/
def execHadvp (x : HadvR) (s : State) : Out := .next (s.advance x false)
/-- HADVC (R273). -/
def execHadvc (x : HadvR) (s : State) : Out := .next (s.advance x true)

/-- HSTAT (R273). -/
def execHstat (x : HndR) (s : State) : Out :=
  match look s.b.hnd x.n.toNat with
  | none => .next (s.finish x.a (BitVec.allOnes 64))
  | some r => .next ((s.sendAcc r.ctl (s.ctlLoc r) 8 (.hstat x.a)).mapB (fun b => addPend b x.a)).retire

/-! ### Guards -/

/-- GSET (R288). -/
def execGset (x : GsetR) (s : State) : Out :=
  .next (s.mapB (fun b => { b with guards := put b.guards x.n.toNat (s.rd x.b != 0) })).retire

/-- GCLR (R288). -/
def execGclr (n : BitVec 4) (s : State) : Out :=
  .next (s.mapB (fun b => { b with guards := del b.guards n.toNat })).retire

end Sys2Proof.Machine
end

