-- ==== Sys2Proof/Machine/VecMem.lean ====
section
/-!
DEFINITION. Machine/VecMem.lean: class 0x14, the vector memory instructions (10 R260 to R263).
-/

namespace Sys2Proof.Machine

/-- VLD: one access of 64 bytes (R260, R261). -/
def execVld (x : MemR) (s : State) : Out := .next (s.load x.sp x.sc x.hint (s.ea x.m) 64 (.vec x.a) none)

/-- VST: one access of 64 bytes (R260, R261, R263). -/
def execVst (x : MemR) (s : State) : Out :=
  .next (s.store x.sp x.sc x.hint (s.ea x.m) 64 (fullMask 64) (readVec s.b x.a).toNat 0)

/-! ### Lane accesses -/

/-- Whether a load of a lane would use poisoned data: of the L1 or of the commit buffer, or of its serialisation point,
but for the bytes that those supply (R104, R422). -/
def State.laneBad (s : State) (p : Spot) (n : Nat) (sc0 : Scope) : Bool :=
  let sc := s.loadScope p sc0 n
  s.localBad p sc n ||
    (match p.loc with
     | .hearth _ _ => false
     | l => s.badBut l.key n (Nat.lor (s.l1Bytes p sc n).1 (s.bufBytes p n).1))

/-- The first cause of a state-space lane, checked before any lane's access, with the state in which a
store has taken its page (R102, R104, R261). -/
def State.laneState (s : State) (a : Access) (sid off : Nat) (store : Bool) : Except (Cause × Nat) State :=
  match s.stream? a sid with
  | none => .error (.stateDead, 0)
  | some e =>
    if !e.readable then .error (.stateDead, 0)
    else if off % a.n ≠ 0 then .error (.memAlign, 0)
    else if store then
      let x := s.die (sidDie sid)
      if e.mig || x.pool.frozen e.map then .error (.ovlFrozen, 0)
      else
        match x.pool.write (s.statePages (sidDie sid)) [] e.map (off / 2 ^ 15) with
        | none => .error (.ovlNopage, 0)
        | some w => .ok (s.mapDie (sidDie sid) (fun y => { y with pool := w.pool }))
    else
      match (s.die (sidDie sid)).pool.find e.map (off / 2 ^ 15) with
      | some (g, _) => if s.bad (hearthKey (sidDie sid) g (off % 2 ^ 15)) a.n then .error (.memUe, 3 * 2 ^ 56) else .ok s
      | none => .ok s

/-- Every lane checked in increasing order; `t` carries the pages that earlier lanes take (R261). While a write of the
cell to a poisoned lane's line is on its way, the instruction waits. DESIGN CHOICE (log 112): R165 does not say whether the
poison of a line in a set that is not granted yet is found before the set is requested; here it is, for the lanes of a load:
the instruction traps and requests nothing. -/
def State.resolveLanes (s : State) (x : MemR) (n : Nat) (store : Bool) :
    List (Nat × Nat) → State → Except State (List (Nat × Nat × Spot))
  | [], _ => .ok []
  | (i, ea) :: l, t =>
    match s.resolve x.sp ea n (if store then 1 else 0) with
    | .error u => .error u
    | .ok p =>
      let go (t : State) : Except State (List (Nat × Nat × Spot)) :=
        match s.resolveLanes x n store l t with
        | .error u => .error u
        | .ok r => .ok ((i, ea, p) :: r)
      match p.loc with
      | .hearth sid off =>
        (match t.laneState (s.acc ea p.loc n (.load .none .none)) sid off store with
         | .error (c, d) => .error (s.trap c ea d)
         | .ok t => go t)
      | _ =>
        if !store && s.laneBad p n x.sc then
          .error (if s.writing p then s else s.trap .memUe ea (p.loc.uePlace * 2 ^ 56))
        else go t

/-- The first lane at which a holder's stores would trap, before anything is changed (R174, R263). -/
def State.lanesTrap (s : State) : List (Nat × Nat × Spot) → List CommitLine → Option State
  | [], _ => none
  | (_, ea, p) :: l, buf =>
    if !s.holder || s.inFrame p then s.lanesTrap l buf
    else if p.sp = 2 ∨ p.mt = 2 then some (s.trap .asetIrrev ea 0)
    else
      match commitPut s.serial buf p 0 0 with
      | none => some (s.ovf ea)
      | some b => s.lanesTrap l b

/-- The lane accesses of an instruction (R261, R262). -/
def State.vmem (s : State) (x : MemR) (store : Bool) (l : List (Nat × Nat)) : State :=
  let w := Ty.width x.ty
  let n := w / 8
  match s.resolveLanes x n store l s with
    | .error t => t
    | .ok r =>
      match s.withSets (r.map (fun e => (e.2.2, n))) with
      | .error t => t
      | .ok _ =>
        if store then
          match s.lanesTrap r s.b.commit with
          | some t => t
          | none =>
            let v := readVec s.b x.a
            (r.foldl (fun (s : State) e => s.putTo e.2.2 x.sc x.hint e.2.1 n (fullMask n) (lane v w e.1) 0) s).retire
        else (r.foldl (fun (s : State) e => s.doLoad e.2.2 x.sc x.hint e.2.1 n (.lane x.a e.1 w) none) s).retire

/-- The lane addresses of a stride (R260). -/
def State.strided (s : State) (x : MemR) : List (Nat × Nat) :=
  let base := s.rd x.m.base + x.m.off.signExtend 64
  let step := s.rd x.m.idx <<< x.m.sh.toNat
  (List.range (lanes (Ty.width x.ty))).map (fun i => (i, (base + BitVec.ofNat 64 i * step).toNat))

/-- The lane addresses of an index vector; a lane whose index is all ones is skipped (R260). -/
def State.indexed (s : State) (x : MemR) : List (Nat × Nat) :=
  let w := Ty.width x.ty
  let v := readVec s.b x.m.idx
  let base := s.rd x.m.base + x.m.off.signExtend 64
  let idx (i : Nat) : Word :=
    if x.ty = .i64 ∨ x.ty = .i32 ∨ x.ty = .i16 ∨ x.ty = .i8 then BitVec.ofInt 64 (sx (lane v w i) w) else BitVec.ofNat 64 (lane v w i)
  ((List.range (lanes w)).filter (fun i => lane v w i != 2 ^ w - 1)).map (fun i => (i, (base + (idx i <<< x.m.sh.toNat)).toNat))

/-- VLDS (R260). -/
def execVlds (x : MemR) (s : State) : Out := .next (s.vmem x false (s.strided x))
/-- VSTS (R260). -/
def execVsts (x : MemR) (s : State) : Out := .next (s.vmem x true (s.strided x))
/-- VGATH (R260). -/
def execVgath (x : MemR) (s : State) : Out := .next (s.vmem x false (s.indexed x))
/-- VSCAT (R260). -/
def execVscat (x : MemR) (s : State) : Out := .next (s.vmem x true (s.indexed x))

end Sys2Proof.Machine
end

