-- ==== Sys2Proof/Machine/Rep.lean ====
section
/-!
DEFINITION. Machine/Rep.lean: repetition (11 R289, R290): the capture with its checks, the marks on the
registers that the iterations write, and the issue of one captured instruction.
-/

namespace Sys2Proof.Machine

/-! ### Capture -/

/-- The classes that may be captured. -/
def repClass (c : Nat) : Bool :=
  c == 0 || c == 0xA || c == 0xB || (decide (0x10 ≤ c) && decide (c ≤ 0x15)) || c == 0x18 || c == 0x1A || c == 0x1B || c == 0x1C

/-- The line that sequential flow enters while a block is captured, fetched with the checks of R25; the
state when a trap is taken. While it waits for its translation or a slot, the state is `s0`, from which the capture set
out, with the request (R23, R24, R73, R383). -/
def State.capLine (s0 s : State) (a : Nat) : Except State (Nat × State) :=
  if !inCode s.myLr a then .error (s.trap .falloff a 0)
  else
    match s0.xl a 3 with
    | .error t => .error t
    | .ok e =>
      let s1 := s.tlbUse a
      if e.ue then .error (s1.trap .memUe a (4 * 2 ^ 56))
      else
        match s1.fetchLine s.cur.cell (e.pa a) false with
        | none => .error s0
        | some (none, t) => .error (t.trap .memUe a 0)
        | some (some d, t) =>
          if lineOk d then .ok (d, t)
          else
            match (t.countCell s.cur.cell 0).fetchLine s.cur.cell (e.pa a) true with
            | none => .error s0
            | some (none, u) => .error (u.trap .memUe a 0)
            | some (some q, u) => if lineOk q then .ok (q, u) else .error (u.trap .fetchPar (a + (badSlot q).getD 0) 0)

/-- The next `n` instructions in sequential flow after a program counter of a line, with the line of the
last (R23, R290). -/
def State.capture (s0 s : State) (line : Line) (pc : Nat) : Nat → Except State (List (Nat × Nat) × Line × State)
  | 0 => .ok ([], line, s)
  | n + 1 =>
    let a := nextSeq pc
    let got : Except State (Nat × State) :=
      if lineOf a = line.addr then .ok (line.data, s)
      else if bit line.data (480 + 17) then .error (s.trap .falloff a 0)
      else s0.capLine s a
    match got with
    | .error t => .error t
    | .ok (d, s1) =>
      match State.capture s0 s1 { addr := lineOf a, data := d } a n with
      | .error t => .error t
      | .ok (l, last, t) => .ok ((a, d / 2 ^ (96 * slotOf a) % 2 ^ 96) :: l, last, t)

/-- Whether a bank has no register at an index (R41). -/
def noIndex (bank idx : Nat) : Bool :=
  if bank = 1 then decide (32 ≤ idx)
  else if bank = 2 then idx == 14 || idx == 15 || (decide (22 ≤ idx) && decide (idx ≤ 31)) || idx == 63
  else false

/-- Whether captured instruction `j` cannot be staggered to iteration `t`: a marked field leaves its bank,
names an unassigned index, or no longer fits its position (R290). -/
def stagBad (w j mark : Nat) (stag : Int) (t : Nat) : Bool :=
  [0, 1, 2, 3].any (fun f =>
    bit mark (4 * j + f) &&
      (let r := fld w (79 - 8 * f) (72 - 8 * f)
       let i : Int := ((r % 64 : Nat) : Int) + (t : Int) * stag
       decide (i < 0) || decide (63 < i) || noIndex (r / 64) i.toNat)) ||
    (match decodeCell (BitVec.ofNat 96 (stagWord w j mark ((t : Int) * stag))) with | .ok _ => false | .error _ => true)

/-- The trap that a captured instruction raises (R47, R290). -/
def repFault (mark : Nat) (stag : Int) (count j a w : Nat) : Option (Cause × Nat × Nat) :=
  if !repClass (fld w 95 90) then some (.repClass, a, 0)
  else
    match decodeCell (BitVec.ofNat 96 w) with
    | .error _ => some (.undef, a, 0)
    | .ok _ => ((List.range (Nat.min count 65)).find? (stagBad w j mark stag)).map (fun t => (.repRange, a, t))

/-! ### Marks -/

/-- The registers that the instructions still to issue write, each once (R290). -/
def repMarks (r : Rep) : List RegSpec := (((repRest r).drop r.at_).flatMap writesOf |>.filter (· != 0#8)).eraseDups

/-- The marks of a repetition put on a bank's scoreboard. -/
def markRep (b : Bank) (r : Rep) : Bank := { b with pend := b.pend ++ repMarks r }

/-- The loop tests at the addresses that the pipeline passes, the captured ones among them, and then
sequential flow (R290, R360). -/
def passBlock (b : Bank) : List Nat → Bank
  | [] => b
  | a :: rest =>
    let r := loopTests b (BitVec.ofNat 64 a)
    match r.2, rest with
    | some t, _ => enter r.1 t a
    | none, [] => stepSeq r.1 a 0
    | none, rest => passBlock r.1 rest

/-- REP: the block is captured and checked, the registers that its iterations write become pending, and the
pipeline goes on after it (R289, R290). -/
def execRep (x : RepR) (s : State) : Out :=
  match s.b.line with
  | none => .next s
  | some line =>
    match State.capture s s line s.b.pc.toNat x.n.toNat with
    | .error t => .next t
    | .ok (body, last, s1) =>
      let count := x.cntm1.toNat + 1
      match ((List.range body.length).zip body).findSome? (fun (j, a, w) => repFault x.mark.toNat x.stag.toInt count j a w) with
      | some (cause, a, detail) => .next (s1.trap cause a detail)
      | none =>
        let r : Rep := { body := body, iter := 0, count := count, stag := x.stag.toInt, mark := x.mark.toNat, at_ := 0 }
        let s2 := if s.cur.pair = 1 then s1.countCell s.cur.cell 1 else s1
        .next (s2.mapB (fun b =>
          (markRep { passBlock { b with line := some last } (b.pc.toNat :: body.map (·.1)) with rep := some r } r).mapTask clearMarks))

/-! ### Iterations -/

/-- A captured instruction executed (R290). -/
def repExec (i : Instr) (s : State) : Out :=
  match i with
  | .nop => execNop s
  | .hint x => execHint x s
  | .cpy x => execCpy x s
  | .cpym x => execCpym x s
  | .cpyr x => execCpyr x s
  | .cpyg x => execCpyg x s
  | .cpys x => execCpys x s
  | .chanRead x => execChanRead x s
  | .chanAddr x => execChanAddr x s
  | .chanAbort x => execChanAbort x s
  | .binit x => execBinit x s
  | .bpost x => execBpost x s
  | .btest x => execBtest x s
  | .vadd x => execVadd x s
  | .vsub x => execVsub x s
  | .vmul x => execVmul x s
  | .vmulh x => execVmulh x s
  | .vmin x => execVmin x s
  | .vmax x => execVmax x s
  | .vabs x => execVabs x s
  | .vsadd x => execVsadd x s
  | .vssub x => execVssub x s
  | .vshl x => execVshl x s
  | .vshr x => execVshr x s
  | .vsar x => execVsar x s
  | .vand x => execVand x s
  | .vor x => execVor x s
  | .vxor x => execVxor x s
  | .vnot x => execVnot x s
  | .vfadd x => execVfadd x s
  | .vfsub x => execVfsub x s
  | .vfmul x => execVfmul x s
  | .vfma x => execVfma x s
  | .vfmin x => execVfmin x s
  | .vfmax x => execVfmax x s
  | .vfabs x => execVfabs x s
  | .vfneg x => execVfneg x s
  | .vfcvt x => execVfcvt x s
  | .vrcp x => execVrcp x s
  | .vrsq x => execVrsq x s
  | .vexp x => execVexp x s
  | .vlog2 x => execVlog2 x s
  | .vcmp x => execVcmp x s
  | .vfcmp x => execVfcmp x s
  | .vsel x => execVsel x s
  | .vperm x => execVperm x s
  | .vbcast x => execVbcast x s
  | .vextr x => execVextr x s
  | .vins x => execVins x s
  | .vslide x => execVslide x s
  | .vcomp x => execVcomp x s
  | .viota x => execViota x s
  | .vred x => execVred x s
  | .vfred x => execVfred x s
  | .vscan x => execVscan x s
  | .vfscan x => execVfscan x s
  | .vargmax x => execVargmax x s
  | .vld x => execVld x s
  | .vst x => execVst x s
  | .vlds x => execVlds x s
  | .vsts x => execVsts x s
  | .vgath x => execVgath x s
  | .vscat x => execVscat x s
  | .mand x => execMand x s
  | .mor x => execMor x s
  | .mxor x => execMxor x s
  | .mnot x => execMnot x s
  | .mpopc x => execMpopc x s
  | .mfirst x => execMfirst x s
  | .mset x => execMset x s
  | .mget x => execMget x s
  | .acfg x => execAcfg x s
  | .amma x => execAmma x s
  | .azero x => execAzero x s
  | .ard x => execArd x s
  | .atq x => execAtq x s
  | .atapp x => execAtapp x s
  | .atseqCreate x => execAtseqCreate x s
  | .atseqFork x => execAtseqFork x s
  | .atseqCommit x => execAtseqCommit x s
  | .atseqTrim x => execAtseqTrim x s
  | .atseqFree x => execAtseqFree x s
  | .atseqReport x => execAtseqReport x s
  | .atmsk x => execAtmsk x s
  | .atcnt x => execAtcnt x s
  | .smpl x => execSmpl x s
  | .topk x => execTopk x s
  | .gmask x => execGmask x s
  | .gstep x => execGstep x s
  | .bqcfg x => execBqcfg x s
  | .bqpush x => execBqpush x s
  | .bqpop x => execBqpop x s
  | .bqstat x => execBqstat x s
  | .cred x => execCred x s
  | .cscan x => execCscan x s
  | .cbc x => execCbc x s
  | .cgath x => execCgath x s
  | _ => .next s

/-- The repetition after its next instruction has issued; none after the last. -/
def Rep.advance (r : Rep) : Option Rep :=
  let clear : Rep := { r with rel := none, xwait := none, xfault := none, xheld := [] }
  if r.at_ + 1 < r.body.length then some { clear with at_ := r.at_ + 1 }
  else if r.iter + 1 < r.count then some { clear with iter := r.iter + 1, at_ := 0 }
  else none

/-- The bank as the repetition hardware issues from it: the instruction's own place, its marks in place of
the task's, and none of the repetition's pending marks or of the loops. -/
def repView (b : Bank) (r : Rep) (a w : Nat) : Bank :=
  { b with
    pend := (repMarks r).foldl List.erase b.pend
    rep := none
    pc := BitVec.ofNat 64 a
    line := some { addr := lineOf a, data := w * 2 ^ (96 * slotOf a) }
    second := false
    joint := false
    entered := none
    fell := false
    past := none
    lc0 := 0
    lc1 := 0
    task := b.task.map (fun k => { k with rel := r.rel, xwait := r.xwait, xfault := none, xheld := r.xheld, until_ := none }) }

/-- The bank after an instruction of the repetition: what belongs to the pipeline is as before, and the
marks of the instructions still to issue stand (R290). -/
def repBack (old new : Bank) (r : Rep) (a : Nat) : Bank :=
  match old.task, new.task with
  | some k, some t =>
    let next := if new.pc.toNat = a then some { r with rel := t.rel, xwait := t.xwait, xfault := none, xheld := t.xheld } else r.advance
    let b : Bank :=
      { new with
        rep := next
        pc := old.pc
        line := old.line
        second := old.second
        joint := old.joint
        entered := old.entered
        fell := old.fell
        past := old.past
        lc0 := old.lc0
        lc1 := old.lc1
        task := some { t with rel := k.rel, xwait := k.xwait, xfault := k.xfault, xheld := k.xheld, until_ := k.until_ } }
    match next with
    | some q => markRep b q
    | none => b
  | _, _ => new

/-- Whether the repetition hardware of a bank may issue: its task is there, halted or suspended or not, and
has neither been wounded nor lost its grid (R290, R410). -/
def State.repRuns (s : State) (c : Nat) (hi : Bool) : Bool :=
  match (s.bank c hi).task with
  | none => false
  | some k => !k.wounded && k.pendTrap.isNone && (match look s.grids k.gid with
    | some g => g.ending.isNone && (g.resid != .saved)
    | none => true)

/-- An instruction of the repetition: its waits and its sources as for any other, then its effect (R145, R189,
R290, R422). -/
def State.repIssue (s : State) (i : Instr) : Out :=
  if s.stall i then .next s
  else
    match poisonSrc s.b i with
    | some r => .next (s.trap .memUe 0 (2 * 2 ^ 56 + r.toNat))
    | none => repExec i (s.tokenReads i)

/-- REP_ITERATION: the next captured instruction of a bank's repetition issues (R290). -/
def execRepIteration (c : Nat) (hi : Bool) (s : State) : Out :=
  match (s.bank c hi).rep with
  | none => .next s
  | some r =>
    match r.body[r.at_]?, stagInstr r r.at_ r.iter with
    | some (a, w), some i =>
      if !s.repRuns c hi then .next s
      else
        let old := s.bank c hi
        let s1 := { s with cur := { s.cur with cell := c, hi := hi, pair := 0, rep := true } }.mapBank c hi (fun b => repView b r a w)
        match r.xfault with
        | some t => .next { s1.takeTrap c hi { t with pc := a, insn := w } with cur := s.cur }
        | none =>
          match s1.repIssue i with
          | .next t => .next { t.mapBank c hi (fun b => repBack old b r a) with cur := s.cur }
          | o => o
    | _, _ => .next s

/-! ### Heads of queues (R270, R287) -/

/-- The head of a tongs queue whose guard is false is discarded; one that may run starts in a channel by
TONGS_COMMAND_START (R116, R287). -/
def State.tongsHead (s : State) (c : Nat) : State :=
  match (s.cell c).tongs with
  | [] => s
  | k :: _ => if s.verdict k = some false then (s.popQueue c .tongs).complete k 3 0 else s

/-- ENGINE_QUEUE_HEAD: the head of an engine queue reads its guard and runs, waits or is discarded; a
collective by its join, and the generation queue, which reads no guard, by its start (R287, R330, R345). -/
def execEngineQueueHead (c : Nat) (q : QueueId) (s : State) : Out :=
  .next (match q with
    | .tongs => s.tongsHead c
    | .anvil => s.anvilHead c
    | .crucible => s.crucHead c
    | .coll => s
    | .gen => s)

/-- RING_WAKE: the head of an engine queue that waits on a ring looks at its control word again (R270). -/
def execRingWake (c : Nat) (q : QueueId) (s : State) : Out :=
  match ((s.cell c).queue q).head? with
  | none => .next s
  | some k =>
    if k.ringC.isNone && k.ringD.isNone then .next s
    else .next (match q with
      | .anvil => s.anvilHead c
      | .crucible => s.crucHead c
      | _ => s)

end Sys2Proof.Machine
end

