-- ==== Sys2Proof/Machine/System.lean ====
section
/-!
DEFINITION. Machine/System.lean: classes 0x30 and 0x31: counters, time, trace records, the traps that a program
asks for, the register window, RESUME and FAULT (18 R415 to R419, R432 to R437).
-/

namespace Sys2Proof.Machine

/-! ### CSRs (R433) -/

/-- TRCTL. -/
def csrTrctl : Nat := 0x200

/-- Whether the executing task's grid traces (R433). -/
def State.traces (s : State) : Bool := ((look s.grids s.gid).map (·.trctl)).getD true

/-- The value of a CSR for the executing task. -/
def State.csr (s : State) (n : Nat) : Nat :=
  if n = csrTrctl then (if s.traces then 1 else 0)
  else if n < 0x100 then lookD (s.cell s.cur.cell).csr n 0
  else lookD (s.die (dieOf s.cur.cell)).csr (dieCsr s.gid n) 0

/-- A CSR written for the executing task. -/
def State.setCsr (s : State) (n v : Nat) : State :=
  if n = csrTrctl then s.mapGrid s.gid (fun g => { g with trctl := bit v 0 })
  else if n < 0x100 then s.mapCell s.cur.cell (fun x => { x with csr := put x.csr n v })
  else s.mapDie (dieOf s.cur.cell) (fun x => { x with csr := put x.csr (dieCsr s.gid n) v })

/-- CSRRD (R433). -/
def execCsrrd (x : CsrR) (s : State) : Out := .next (s.finish x.a (BitVec.ofNat 64 (s.csr x.csr.toNat)))

/-- CSRWR (R174, R433). -/
def execCsrwr (x : CsrwR) (s : State) : Out :=
  .next (s.irrev 0 ((s.setCsr x.csr.toNat (s.rd x.b).toNat).finish x.a 0))

/-! ### TIME (R434) -/

/-- TIME. -/
def execTime (a : RegSpec) (s : State) : Out := .next (s.readTime a)

/-- TIME with UNTIL: it waits until GT has reached the deadline. -/
def execTimeUntil (x : MovR) (s : State) : Out :=
  if (s.rd x.b).toNat ≤ s.gt.toNat then .next (s.readTime x.a)
  else .next (s.mapT (fun k => { k with until_ := some ((s.rd x.b).toNat, x.a) }))

/-- TIME_UNTIL_DEADLINE: GT has reached the deadline of a bank's TIME, which completes, as the first of a pair where one is
requested (R28, R434). -/
def execTimeUntilDeadline (c : Nat) (hi : Bool) (s : State) : Out :=
  match (s.bank c hi).task.bind (·.until_) with
  | none => .next s
  | some (d, r) =>
    if !s.runs c hi || decide (s.gt.toNat < d) then .next s
    else
      let s1 : State := { s with cur := { s.cur with cell := c, hi := hi } }
      .next { ({ s1 with cur := { s1.cur with pair := s1.pairAt } } : State).readTime r with cur := s.cur }

/-! ### TRACE (R436) -/

/-- TRACE. -/
def execTrace (x : A3) (s : State) : Out :=
  .next (s.irrev 0
    (if recording s.myLr && s.traces then
      (s.recordKind s.gid s.cur.cell 24 (s.rd x.b).toNat (s.rd x.c).toNat).finish x.a 0
     else s.finish x.a 1))

/-! ### BRK and TRAP (R437) -/

/-- BRK. -/
def execBrk (code : BitVec 32) (s : State) : Out :=
  match superOf s.myLr with
  | none => .next (s.countCell s.cur.cell 0xA).retire
  | some c =>
    if s.cur.hi && c == s.cur.cell then .next (s.countCell s.cur.cell 0xA).retire
    else .next (s.trap .brk 0 code.toNat)

/-- TRAP. -/
def execTrap (x : TrapR) (s : State) : Out := .next (s.trap .trap x.code.toNat (s.rd x.b).toNat)

/-! ### The register window (R415 to R418) -/

/-- What a task word names (R415). -/
inductive Target
  | halted (c : Nat) (hi : Bool) (t : Trap)
  | held (c : Nat) (e : Held)
  | gone
deriving DecidableEq, Repr

/-- The target of a task word in a grid: a halted task of the bank it names, or a message in the hold area of its cell,
which the two banks share (R415). -/
def State.winTarget (s : State) (g tw : Nat) : Target :=
  let c := tw % 2 ^ 13
  let hi := bit tw 13
  if fld tw 31 14 ≠ 0 ∨ !inRect (s.lr g) c then .gone
  else
    match (s.bank c hi).task.bind (fun k => if k.gid = g ∧ k.msg.id = tw / 2 ^ 32 ∧ !k.wounded then k.halted else none) with
    | some t => .halted c hi t
    | none =>
      match (s.cell c).hold.find? (fun e => e.r.msg.id == tw / 2 ^ 32) with
      | some e => .held c e
      | none => .gone

/-- Whether a window specifier word is malformed (R416). -/
def winBad (w : Nat) : Bool := decide (2 ^ 11 ≤ w) || (fld w 7 6 != 1 && fld w 10 8 != 0)

/-- Whether WINWR may write a register (R416). -/
def winWrites (r : RegSpec) : Bool :=
  let i := ridx r
  if rbank r = 0 then i != 0
  else if rbank r = 1 then decide (i < 32)
  else if rbank r = 2 then (decide (1 ≤ i) && decide (i ≤ 10)) || (decide (16 ≤ i) && decide (i ≤ 21))
  else false

/-- A part of a register as WINRD returns it. -/
def winRead (gt : Word) (b : Bank) (w : Nat) : Nat :=
  let r : RegSpec := BitVec.ofNat 8 w
  if rbank r = 1 then fld (readVec b r).toNat (64 * fld w 10 8 + 63) (64 * fld w 10 8) else (readReg gt b r).toNat

/-- A part of a register as WINWR writes it: a loop register, the program counter, a part of a vector, or
any other (R195, R357, R361). A register written whole is poisoned no more (R422). -/
def winWrite (b0 : Bank) (w : Nat) (v : Word) : Bank :=
  let r : RegSpec := BitVec.ofNat 8 w
  let b := if rbank r = 1 then b0 else b0.fresh [r]
  let lc : Word := BitVec.ofNat 64 (v.toNat / 2 ^ 63 * 2 ^ 63 + v.toNat % 2 ^ 32)
  if rbank r = 1 then writeLane b r (fld w 10 8) 64 v.toNat
  else if r = 0x89#8 then { b with pc := v }
  else if r = 0x90#8 then { b with lc0 := lc }
  else if r = 0x91#8 then { b with lc1 := lc }
  else if r = 0x92#8 then { b with ls0 := v }
  else if r = 0x93#8 then { b with ls1 := v }
  else if r = 0x94#8 then { b with le0 := v }
  else if r = 0x95#8 then { b with le1 := v }
  else writeReg b r v

/-- Whether a value has the form of a program counter (R22). -/
def pcForm (v : Nat) : Bool := decide (v < 2 ^ 57) && fld v 5 3 == 0 && decide (v % 8 < 5)

/-- A halted task that issues again, with no target-mask check (R417). -/
def State.resumeAt (s : State) (c : Nat) (hi : Bool) : State :=
  (s.unhalt c hi).mapBank c hi (fun b => { b with entered := none, second := false, joint := false, fell := false, past := none })

/-- A halted instruction completed with no effect of its own, its loop test made; the first of a requested pair then
issues apart from its second, a pair that could not issue together being counted. The end of a line that the bank does
not hold is examined when the line is there; the flow enters such a line after the instruction skipped (R28, R361, R417,
log 66). -/
def State.resumeSkip (s : State) (c : Nat) (hi : Bool) : State :=
  let s1 := s.resumeAt c hi
  let p := ({ s1 with cur := { s1.cur with cell := c, hi := hi } } : State).pairAt
  (if p = 1 then s1.countCell c 1 else s1).mapBank c hi (fun b =>
    let r := retireB b (if p = 0 then 0 else 1)
    let held := match b.line with | some l => l.addr == lineOf b.pc.toNat | none => false
    if slotOf b.pc.toNat = 4 ∧ !held ∧ r.entered.isNone then { r with past := some (lineOf b.pc.toNat) } else r)

/-- RESUME at its target (R415, R417). -/
def State.resume (s : State) (g tw mode : Nat) : Nat × State :=
  match s.winTarget g tw with
  | .gone => (2, s)
  | .halted c hi t => (0, if mode = 0 then s.resumeAt c hi else if mode = 1 then s.resumeSkip c hi else s.abortTask c hi t.cause.code)
  | .held c e =>
    let s1 := s.mapCell c (fun x => { x with hold := x.hold.erase e })
    (0, if mode = 2 then s1 else s1.mapCell c (fun x => { x with again := x.again ++ [e.r] }))

/-- WINWR at its target (R416). -/
def State.windowWrite (s : State) (g tw w : Nat) (v : Word) : Nat × State :=
  match s.winTarget g tw with
  | .halted c hi _ =>
    let r : RegSpec := BitVec.ofNat 8 w
    if winBad w || !winWrites r then (3, s)
    else if (s.bank c hi).pend.contains r then (4, s)
    else if r = 0x89#8 ∧ !pcForm v.toNat then (5, s)
    else (0, s.mapBank c hi (fun b => winWrite b w v))
  | _ => (2, s)

/-- WINRD at its target, with what a read of gt gives: none while it waits for a pending register (R416). -/
def State.windowRead (s : State) (gt : Word) (g tw w : Nat) : Option (Nat × Nat) :=
  match s.winTarget g tw with
  | .halted c hi _ =>
    let r : RegSpec := BitVec.ofNat 8 w
    if winBad w || rbank r == 3 || noIndex (rbank r) (ridx r) then some (3, 0)
    else if (s.bank c hi).pend.contains r then none
    else some (0, winRead gt (s.bank c hi) w)
  | _ => some (2, 0)

/-- Whether an older window operation of one task to one target is still on its way (R418). -/
def winBefore (n act tw : Nat) (f : Fly) : Bool :=
  decide (f.n < n) && (match f.f with
    | .window w t _ _ => w.act == act && t % 2 ^ 13 == tw % 2 ^ 13 && t / 2 ^ 32 == tw / 2 ^ 32
    | _ => false)

/-- The answer of a WINRD: D is written only with status 0, and A after it (R416). -/
def State.windowAnswer (s : State) (w : Who) (d dst : RegSpec) (r : Nat × Nat) : State :=
  let s1 := if r.1 = 0 then s.answerReg w d r.2
    else if s.live w.cell w.hi w.act then s.mapBank w.cell w.hi (fun b => dropPend b d) else s
  s1.answerReg w dst r.1

/-- A WINRD answered; a read of gt is recorded, and has met a replay (R416, R429, R430). -/
def State.windowDone (s : State) (w : Who) (spec : Nat) (d dst : RegSpec) (r : Nat × Nat) : State :=
  let t := s.windowAnswer w d dst r
  if r.1 = 0 ∧ spec = 0x8D then t.recordKind w.gid w.cell 23 w.cell r.2 else t

/-- The flits of a window operation to its target's die and of its answer; a word that names no cell of the grid is answered
where it stands (R383, R415, log 92). -/
def State.winFlits (s : State) (w : Who) (tw : Nat) : Option State :=
  let c := tw % 2 ^ 13
  if fld tw 31 14 ≠ 0 ∨ !inRect (s.lr w.gid) c then some s else s.roundTrip w.gid (dieOf w.cell) (dieOf c)

/-- WINDOW_OP_ARRIVAL: a window operation or RESUME acts at its target and answers, on another die once its flits are had
(R383, R415 to R418). -/
def execWindowOpArrival (k : Nat) (s : State) : Out :=
  match s.flight k with
  | some ⟨n, _, .window w tw o dst⟩ =>
    if s.fly.any (winBefore n w.act tw) then .next s
    else
      match s.winFlits w tw with
      | none => .next s
      | some t =>
      match o with
      | .rd spec d =>
        (match s.windowRead (BitVec.ofNat 64 (s.timeFor w.gid w.cell)) w.gid tw spec with
        | none => .next s
        | some r => .next ((t.land k).windowDone w spec d dst r))
      | .wr spec v => let r := (t.land k).windowWrite w.gid tw spec v
                      .next (r.2.answerReg w dst r.1)
      | .resume mode => let r := (t.land k).resume w.gid tw mode
                        .next (r.2.answerReg w dst r.1)
  | _ => .next s

/-- A window operation on its way, from the supervisor cell alone (R415, R416). -/
def State.sendWindow (s : State) (a b : RegSpec) (o : WinOp) : State :=
  if superOf s.myLr ≠ some s.cur.cell then s.finish a 1
  else
    ((s.send s.cur.cell (.window s.who (s.rd b).toNat o a)).mapB (fun x =>
      addPend (match o with | .rd _ d => addPend x d | _ => x) a)).retire

/-- WINRD (R416). -/
def execWinrd (x : A4) (s : State) : Out := .next (s.sendWindow x.a x.b (.rd (s.rd x.c).toNat x.d))
/-- WINWR (R416). -/
def execWinwr (x : A4) (s : State) : Out := .next (s.sendWindow x.a x.b (.wr (s.rd x.c).toNat (s.rd x.d)))
/-- RESUME retry (R417). -/
def execResumeRetry (x : MovR) (s : State) : Out := .next (s.sendWindow x.a x.b (.resume 0))
/-- RESUME skip (R417). -/
def execResumeSkip (x : MovR) (s : State) : Out := .next (s.sendWindow x.a x.b (.resume 1))
/-- RESUME drop (R417). -/
def execResumeDrop (x : MovR) (s : State) : Out := .next (s.sendWindow x.a x.b (.resume 2))

/-! ### FAULT (R419) -/

/-- FAULT: the grid ends, with the target's cause, a software cause, or 0x8000. -/
def execFault (x : FaultR) (s : State) : Out :=
  let own (code : Nat) : State :=
    s.endGrid s.gid { status := 0x10, cause := code, fpc := s.b.pc.toNat, detail := s.cur.cell }
  let of (c : Nat) (t : Trap) : State :=
    s.endGrid s.gid { status := 0x10, cause := t.cause.code, fpc := t.pc, detail := c, fdetail := t.detail }
  if x.code ≠ 0 then .next (own x.code.toNat)
  else if x.b = 0#8 then .next (own 0x8000)
  else
    match s.winTarget s.gid (s.rd x.b).toNat with
    | .halted c _ t => .next (of c t)
    | .held c e => .next (of c e.trap)
    | .gone => .next (own 0x8000)

end Sys2Proof.Machine
end

