-- ==== Sys2Proof/Machine/Dispatch.lean ====
section
/-!
DEFINITION. Machine/Dispatch.lean: one arm for each instruction, each a call of its meaning.
-/

namespace Sys2Proof.Machine

def exec (i : Instr) (s : State) : Host.Outcome State Fault Refusal :=
  match i with
  | .nop => Sys2Proof.Machine.execNop s
  | .hint n => Sys2Proof.Machine.execHint n s
  | .add x => Sys2Proof.Machine.execAdd x s
  | .sub x => Sys2Proof.Machine.execSub x s
  | .mul x => Sys2Proof.Machine.execMul x s
  | .mulh x => Sys2Proof.Machine.execMulh x s
  | .mulhn x => Sys2Proof.Machine.execMulhn x s
  | .div x => Sys2Proof.Machine.execDiv x s
  | .divn x => Sys2Proof.Machine.execDivn x s
  | .rem x => Sys2Proof.Machine.execRem x s
  | .remn x => Sys2Proof.Machine.execRemn x s
  | .and x => Sys2Proof.Machine.execAnd x s
  | .or x => Sys2Proof.Machine.execOr x s
  | .xor x => Sys2Proof.Machine.execXor x s
  | .andn x => Sys2Proof.Machine.execAndn x s
  | .shl x => Sys2Proof.Machine.execShl x s
  | .shr x => Sys2Proof.Machine.execShr x s
  | .sar x => Sys2Proof.Machine.execSar x s
  | .rol x => Sys2Proof.Machine.execRol x s
  | .min x => Sys2Proof.Machine.execMin x s
  | .max x => Sys2Proof.Machine.execMax x s
  | .minn x => Sys2Proof.Machine.execMinn x s
  | .maxn x => Sys2Proof.Machine.execMaxn x s
  | .sadd x => Sys2Proof.Machine.execSadd x s
  | .ssub x => Sys2Proof.Machine.execSsub x s
  | .movi x => Sys2Proof.Machine.execMovi x s
  | .addi x => Sys2Proof.Machine.execAddi x s
  | .andi x => Sys2Proof.Machine.execAndi x s
  | .ori x => Sys2Proof.Machine.execOri x s
  | .xori x => Sys2Proof.Machine.execXori x s
  | .shli x => Sys2Proof.Machine.execShli x s
  | .shri x => Sys2Proof.Machine.execShri x s
  | .sari x => Sys2Proof.Machine.execSari x s
  | .cmp x => Sys2Proof.Machine.execCmp x s
  | .sel x => Sys2Proof.Machine.execSel x s
  | .mov x => Sys2Proof.Machine.execMov x s
  | .clz x => Sys2Proof.Machine.execClz x s
  | .ctz x => Sys2Proof.Machine.execCtz x s
  | .popc x => Sys2Proof.Machine.execPopc x s
  | .brev x => Sys2Proof.Machine.execBrev x s
  | .bswap x => Sys2Proof.Machine.execBswap x s
  | .bfx x => Sys2Proof.Machine.execBfx x s
  | .bfxs x => Sys2Proof.Machine.execBfxs x s
  | .bfi x => Sys2Proof.Machine.execBfi x s
  | .sext x => Sys2Proof.Machine.execSext x s
  | .zext x => Sys2Proof.Machine.execZext x s
  | .fadd x => Sys2Proof.Machine.execFadd x s
  | .fsub x => Sys2Proof.Machine.execFsub x s
  | .fmul x => Sys2Proof.Machine.execFmul x s
  | .ffma x => Sys2Proof.Machine.execFfma x s
  | .fdiv x => Sys2Proof.Machine.execFdiv x s
  | .fsqrt x => Sys2Proof.Machine.execFsqrt x s
  | .fmin x => Sys2Proof.Machine.execFmin x s
  | .fmax x => Sys2Proof.Machine.execFmax x s
  | .fcmp x => Sys2Proof.Machine.execFcmp x s
  | .fclass x => Sys2Proof.Machine.execFclass x s
  | .fabs x => Sys2Proof.Machine.execFabs x s
  | .fneg x => Sys2Proof.Machine.execFneg x s
  | .fcvt x => Sys2Proof.Machine.execFcvt x s
  | .fcvti x => Sys2Proof.Machine.execFcvti x s
  | .icvtf x => Sys2Proof.Machine.execIcvtf x s
  | .frnd x => Sys2Proof.Machine.execFrnd x s
  | .ld x => Sys2Proof.Machine.execLd x s
  | .lda x => Sys2Proof.Machine.execLda x s
  | .lea x => Sys2Proof.Machine.execLea x s
  | .pf x => Sys2Proof.Machine.execPf x s
  | .st x => Sys2Proof.Machine.execSt x s
  | .stl x => Sys2Proof.Machine.execStl x s
  | .amo x => Sys2Proof.Machine.execAmo x s
  | .cas x => Sys2Proof.Machine.execCas x s
  | .amof x => Sys2Proof.Machine.execAmof x s
  | .fence x => Sys2Proof.Machine.execFence x s
  | .swf clus => Sys2Proof.Machine.execSwf clus s
  | .cflush m => Sys2Proof.Machine.execCflush m s
  | .cinv m => Sys2Proof.Machine.execCinv m s
  | .czero x => Sys2Proof.Machine.execCzero x s
  | .cpy x => Sys2Proof.Machine.execCpy x s
  | .cpym x => Sys2Proof.Machine.execCpym x s
  | .cpyr x => Sys2Proof.Machine.execCpyr x s
  | .cpyg x => Sys2Proof.Machine.execCpyg x s
  | .cpys x => Sys2Proof.Machine.execCpys x s
  | .chanRead x => Sys2Proof.Machine.execChanRead x s
  | .chanAddr x => Sys2Proof.Machine.execChanAddr x s
  | .chanAbort x => Sys2Proof.Machine.execChanAbort x s
  | .binit x => Sys2Proof.Machine.execBinit x s
  | .bpost x => Sys2Proof.Machine.execBpost x s
  | .btest x => Sys2Proof.Machine.execBtest x s
  | .hbind x => Sys2Proof.Machine.execHbind x s
  | .hbindNone x => Sys2Proof.Machine.execHbindNone x s
  | .hadvp x => Sys2Proof.Machine.execHadvp x s
  | .hadvc x => Sys2Proof.Machine.execHadvc x s
  | .hstat x => Sys2Proof.Machine.execHstat x s
  | .rep x => Sys2Proof.Machine.execRep x s
  | .gset x => Sys2Proof.Machine.execGset x s
  | .gclr n => Sys2Proof.Machine.execGclr n s
  | .tidset x => Sys2Proof.Machine.execTidset x s
  | .tidget x => Sys2Proof.Machine.execTidget x s
  | .tidinv x => Sys2Proof.Machine.execTidinv x s
  | .vadd x => Sys2Proof.Machine.execVadd x s
  | .vsub x => Sys2Proof.Machine.execVsub x s
  | .vmul x => Sys2Proof.Machine.execVmul x s
  | .vmulh x => Sys2Proof.Machine.execVmulh x s
  | .vmin x => Sys2Proof.Machine.execVmin x s
  | .vmax x => Sys2Proof.Machine.execVmax x s
  | .vabs x => Sys2Proof.Machine.execVabs x s
  | .vsadd x => Sys2Proof.Machine.execVsadd x s
  | .vssub x => Sys2Proof.Machine.execVssub x s
  | .vshl x => Sys2Proof.Machine.execVshl x s
  | .vshr x => Sys2Proof.Machine.execVshr x s
  | .vsar x => Sys2Proof.Machine.execVsar x s
  | .vand x => Sys2Proof.Machine.execVand x s
  | .vor x => Sys2Proof.Machine.execVor x s
  | .vxor x => Sys2Proof.Machine.execVxor x s
  | .vnot x => Sys2Proof.Machine.execVnot x s
  | .vfadd x => Sys2Proof.Machine.execVfadd x s
  | .vfsub x => Sys2Proof.Machine.execVfsub x s
  | .vfmul x => Sys2Proof.Machine.execVfmul x s
  | .vfma x => Sys2Proof.Machine.execVfma x s
  | .vfmin x => Sys2Proof.Machine.execVfmin x s
  | .vfmax x => Sys2Proof.Machine.execVfmax x s
  | .vfabs x => Sys2Proof.Machine.execVfabs x s
  | .vfneg x => Sys2Proof.Machine.execVfneg x s
  | .vfcvt x => Sys2Proof.Machine.execVfcvt x s
  | .vrcp x => Sys2Proof.Machine.execVrcp x s
  | .vrsq x => Sys2Proof.Machine.execVrsq x s
  | .vexp x => Sys2Proof.Machine.execVexp x s
  | .vlog2 x => Sys2Proof.Machine.execVlog2 x s
  | .vcmp x => Sys2Proof.Machine.execVcmp x s
  | .vfcmp x => Sys2Proof.Machine.execVfcmp x s
  | .vsel x => Sys2Proof.Machine.execVsel x s
  | .vperm x => Sys2Proof.Machine.execVperm x s
  | .vbcast x => Sys2Proof.Machine.execVbcast x s
  | .vextr x => Sys2Proof.Machine.execVextr x s
  | .vins x => Sys2Proof.Machine.execVins x s
  | .vslide x => Sys2Proof.Machine.execVslide x s
  | .vcomp x => Sys2Proof.Machine.execVcomp x s
  | .viota x => Sys2Proof.Machine.execViota x s
  | .vred x => Sys2Proof.Machine.execVred x s
  | .vfred x => Sys2Proof.Machine.execVfred x s
  | .vscan x => Sys2Proof.Machine.execVscan x s
  | .vfscan x => Sys2Proof.Machine.execVfscan x s
  | .vargmax x => Sys2Proof.Machine.execVargmax x s
  | .vld x => Sys2Proof.Machine.execVld x s
  | .vst x => Sys2Proof.Machine.execVst x s
  | .vlds x => Sys2Proof.Machine.execVlds x s
  | .vsts x => Sys2Proof.Machine.execVsts x s
  | .vgath x => Sys2Proof.Machine.execVgath x s
  | .vscat x => Sys2Proof.Machine.execVscat x s
  | .mand x => Sys2Proof.Machine.execMand x s
  | .mor x => Sys2Proof.Machine.execMor x s
  | .mxor x => Sys2Proof.Machine.execMxor x s
  | .mnot x => Sys2Proof.Machine.execMnot x s
  | .mpopc x => Sys2Proof.Machine.execMpopc x s
  | .mfirst x => Sys2Proof.Machine.execMfirst x s
  | .mset x => Sys2Proof.Machine.execMset x s
  | .mget x => Sys2Proof.Machine.execMget x s
  | .acfg x => Sys2Proof.Machine.execAcfg x s
  | .amma x => Sys2Proof.Machine.execAmma x s
  | .azero x => Sys2Proof.Machine.execAzero x s
  | .ard x => Sys2Proof.Machine.execArd x s
  | .atq x => Sys2Proof.Machine.execAtq x s
  | .atapp x => Sys2Proof.Machine.execAtapp x s
  | .atseqCreate x => Sys2Proof.Machine.execAtseqCreate x s
  | .atseqFork x => Sys2Proof.Machine.execAtseqFork x s
  | .atseqCommit x => Sys2Proof.Machine.execAtseqCommit x s
  | .atseqTrim x => Sys2Proof.Machine.execAtseqTrim x s
  | .atseqFree x => Sys2Proof.Machine.execAtseqFree x s
  | .atseqReport x => Sys2Proof.Machine.execAtseqReport x s
  | .atmsk x => Sys2Proof.Machine.execAtmsk x s
  | .atcnt x => Sys2Proof.Machine.execAtcnt x s
  | .smpl x => Sys2Proof.Machine.execSmpl x s
  | .topk x => Sys2Proof.Machine.execTopk x s
  | .gmask x => Sys2Proof.Machine.execGmask x s
  | .gstep x => Sys2Proof.Machine.execGstep x s
  | .bqcfg x => Sys2Proof.Machine.execBqcfg x s
  | .bqpush x => Sys2Proof.Machine.execBqpush x s
  | .bqpop x => Sys2Proof.Machine.execBqpop x s
  | .bqstat a => Sys2Proof.Machine.execBqstat a s
  | .cred x => Sys2Proof.Machine.execCred x s
  | .cscan x => Sys2Proof.Machine.execCscan x s
  | .cbc x => Sys2Proof.Machine.execCbc x s
  | .cgath x => Sys2Proof.Machine.execCgath x s
  | .b x => Sys2Proof.Machine.execB x s
  | .j x => Sys2Proof.Machine.execJ x s
  | .jl x => Sys2Proof.Machine.execJl x s
  | .jr a => Sys2Proof.Machine.execJr a s
  | .jlr a => Sys2Proof.Machine.execJlr a s
  | .lset x => Sys2Proof.Machine.execLset x s
  | .lclr w => Sys2Proof.Machine.execLclr w s
  | .send x => Sys2Proof.Machine.execSend x s
  | .tspawn x => Sys2Proof.Machine.execTspawn x s
  | .tend sc => Sys2Proof.Machine.execTend sc s
  | .tinfo x => Sys2Proof.Machine.execTinfo x s
  | .evsig x => Sys2Proof.Machine.execEvsig x s
  | .evset x => Sys2Proof.Machine.execEvset x s
  | .evclr x => Sys2Proof.Machine.execEvclr x s
  | .evread x => Sys2Proof.Machine.execEvread x s
  | .sfork x => Sys2Proof.Machine.execSfork x s
  | .sforkRoot x => Sys2Proof.Machine.execSforkRoot x s
  | .sjoin x => Sys2Proof.Machine.execSjoin x s
  | .skill x => Sys2Proof.Machine.execSkill x s
  | .sstep x => Sys2Proof.Machine.execSstep x s
  | .sact x => Sys2Proof.Machine.execSact x s
  | .spopa x => Sys2Proof.Machine.execSpopa x s
  | .sret x => Sys2Proof.Machine.execSret x s
  | .sgate x => Sys2Proof.Machine.execSgate x s
  | .smig x => Sys2Proof.Machine.execSmig x s
  | .sflat x => Sys2Proof.Machine.execSflat x s
  | .sinfo x => Sys2Proof.Machine.execSinfo x s
  | .adecl x => Sys2Proof.Machine.execAdecl x s
  | .astat x => Sys2Proof.Machine.execAstat x s
  | .csrrd x => Sys2Proof.Machine.execCsrrd x s
  | .csrwr x => Sys2Proof.Machine.execCsrwr x s
  | .time a => Sys2Proof.Machine.execTime a s
  | .timeUntil x => Sys2Proof.Machine.execTimeUntil x s
  | .tlbi x => Sys2Proof.Machine.execTlbi x s
  | .trace x => Sys2Proof.Machine.execTrace x s
  | .brk code => Sys2Proof.Machine.execBrk code s
  | .trap x => Sys2Proof.Machine.execTrap x s
  | .winrd x => Sys2Proof.Machine.execWinrd x s
  | .winwr x => Sys2Proof.Machine.execWinwr x s
  | .resumeRetry x => Sys2Proof.Machine.execResumeRetry x s
  | .resumeSkip x => Sys2Proof.Machine.execResumeSkip x s
  | .resumeDrop x => Sys2Proof.Machine.execResumeDrop x s
  | .fault x => Sys2Proof.Machine.execFault x s
  | .mlq d => Sys2Proof.Machine.execMlq d s
  | .mlk d => Sys2Proof.Machine.execMlk d s
  | .mldq d => Sys2Proof.Machine.execMldq d s
  | .mldk d => Sys2Proof.Machine.execMldk d s
  | .mla d => Sys2Proof.Machine.execMla d s
  | .mlp d imm => Sys2Proof.Machine.execMlp d imm s
  | .mli d imm => Sys2Proof.Machine.execMli d imm s
  | .madd x => Sys2Proof.Machine.execMadd x s
  | .msub x => Sys2Proof.Machine.execMsub x s
  | .mmin x => Sys2Proof.Machine.execMmin x s
  | .mmax x => Sys2Proof.Machine.execMmax x s
  | .mclt x => Sys2Proof.Machine.execMclt x s
  | .mcle x => Sys2Proof.Machine.execMcle x s
  | .mceq x => Sys2Proof.Machine.execMceq x s
  | .mband x => Sys2Proof.Machine.execMband x s
  | .mbor x => Sys2Proof.Machine.execMbor x s
  | .mbnot d a => Sys2Proof.Machine.execMbnot d a s
  | .mvis a => Sys2Proof.Machine.execMvis a s
  | .lineFetch c hi => Sys2Proof.Machine.execLineFetch c hi s
  | .lineRefetch c hi => Sys2Proof.Machine.execLineRefetch c hi s
  | .resultWriteback k => Sys2Proof.Machine.execResultWriteback k s
  | .homeSliceArrival k => Sys2Proof.Machine.execHomeSliceArrival k s
  | .homeSliceFill k => Sys2Proof.Machine.execHomeSliceFill k s
  | .writeThroughAck k => Sys2Proof.Machine.execWriteThroughAck k s
  | .loadReturn k => Sys2Proof.Machine.execLoadReturn k s
  | .l1Eviction c line => Sys2Proof.Machine.execL1Eviction c line s
  | .portArrival k => Sys2Proof.Machine.execPortArrival k s
  | .hearthSliceArrival k => Sys2Proof.Machine.execHearthSliceArrival k s
  | .hostWindowAccess k => Sys2Proof.Machine.execHostWindowAccess k s
  | .traceRingDrain ring => Sys2Proof.Machine.execTraceRingDrain ring s
  | .clusterTlbLookup k => Sys2Proof.Machine.execClusterTlbLookup k s
  | .tableWalk k => Sys2Proof.Machine.execTableWalk k s
  | .walkEntryRead k => Sys2Proof.Machine.execWalkEntryRead k s
  | .walkInstall k => Sys2Proof.Machine.execWalkInstall k s
  | .dirtyUpdate k => Sys2Proof.Machine.execDirtyUpdate k s
  | .tlbiComplete k => Sys2Proof.Machine.execTlbiComplete k s
  | .hostInvalidate kind asid va die => Sys2Proof.Machine.execHostInvalidate kind asid va die s
  | .hearthSpill d => Sys2Proof.Machine.execHearthSpill d s
  | .hearthFill d page => Sys2Proof.Machine.execHearthFill d page s
  | .tongsCommandStart c => Sys2Proof.Machine.execTongsCommandStart c s
  | .tongsPieceLand c ch => Sys2Proof.Machine.execTongsPieceLand c ch s
  | .tongsPieceAck k => Sys2Proof.Machine.execTongsPieceAck k s
  | .tokenWrite k => Sys2Proof.Machine.execTokenWrite k s
  | .barrierArrive k => Sys2Proof.Machine.execBarrierArrive k s
  | .pendingCopyReplay gid => Sys2Proof.Machine.execPendingCopyReplay gid s
  | .budgetPeriod => Sys2Proof.Machine.execBudgetPeriod s
  | .lockRequest k => Sys2Proof.Machine.execLockRequest k s
  | .taskAbort c hi => Sys2Proof.Machine.execTaskAbort c hi s
  | .setGrant k => Sys2Proof.Machine.execSetGrant k s
  | .commitDrain c hi => Sys2Proof.Machine.execCommitDrain c hi s
  | .setRelease c hi => Sys2Proof.Machine.execSetRelease c hi s
  | .asetWaitLimit c hi => Sys2Proof.Machine.execAsetWaitLimit c hi s
  | .engineQueueHead c q => Sys2Proof.Machine.execEngineQueueHead c q s
  | .ringWake c q => Sys2Proof.Machine.execRingWake c q s
  | .ammaJoin c => Sys2Proof.Machine.execAmmaJoin c s
  | .ammaStepStart idx => Sys2Proof.Machine.execAmmaStepStart idx s
  | .gangTimeout idx => Sys2Proof.Machine.execGangTimeout idx s
  | .ammaFetch idx => Sys2Proof.Machine.execAmmaFetch idx s
  | .ammaFetchEnd idx => Sys2Proof.Machine.execAmmaFetchEnd idx s
  | .ammaComputeEnd idx => Sys2Proof.Machine.execAmmaComputeEnd idx s
  | .ardRowLand c => Sys2Proof.Machine.execArdRowLand c s
  | .repIteration c hi => Sys2Proof.Machine.execRepIteration c hi s
  | .crucibleCommandArrival k => Sys2Proof.Machine.execCrucibleCommandArrival k s
  | .atqAccept k => Sys2Proof.Machine.execAtqAccept k s
  | .atqTileFetch cb q => Sys2Proof.Machine.execAtqTileFetch cb q s
  | .atqResult cb q => Sys2Proof.Machine.execAtqResult cb q s
  | .heldResultWrite cb idx => Sys2Proof.Machine.execHeldResultWrite cb idx s
  | .kvSpill cb page => Sys2Proof.Machine.execKvSpill cb page s
  | .kvFill cb page => Sys2Proof.Machine.execKvFill cb page s
  | .headCopy asid => Sys2Proof.Machine.execHeadCopy asid s
  | .genCommandStart c => Sys2Proof.Machine.execGenCommandStart c s
  | .bloomQueueArrival k => Sys2Proof.Machine.execBloomQueueArrival k s
  | .collectiveJoin c => Sys2Proof.Machine.execCollectiveJoin c s
  | .collectiveTimeout idx => Sys2Proof.Machine.execCollectiveTimeout idx s
  | .collectiveResult idx => Sys2Proof.Machine.execCollectiveResult idx s
  | .launchRecordCheck q => Sys2Proof.Machine.execLaunchRecordCheck q s
  | .gridAdmission q => Sys2Proof.Machine.execGridAdmission q s
  | .qtailWrite q v => Sys2Proof.Machine.execQtailWrite q v s
  | .hostRegisterWrite w => Sys2Proof.Machine.execHostRegisterWrite w s
  | .contextEntrySignal asid entry => Sys2Proof.Machine.execContextEntrySignal asid entry s
  | .messageArrival k => Sys2Proof.Machine.execMessageArrival k s
  | .overflowReturn d idx => Sys2Proof.Machine.execOverflowReturn d idx s
  | .readyEntryFill c hi => Sys2Proof.Machine.execReadyEntryFill c hi s
  | .taskStart c hi => Sys2Proof.Machine.execTaskStart c hi s
  | .depTableEntry k => Sys2Proof.Machine.execDepTableEntry k s
  | .spawnReady d idx => Sys2Proof.Machine.execSpawnReady d idx s
  | .eventHomeArrival k => Sys2Proof.Machine.execEventHomeArrival k s
  | .wdog c hi => Sys2Proof.Machine.execWdog c hi s
  | .gridTimeout gid => Sys2Proof.Machine.execGridTimeout gid s
  | .gridEnd gid => Sys2Proof.Machine.execGridEnd gid s
  | .preemptRequest gid => Sys2Proof.Machine.execPreemptRequest gid s
  | .contextSave gid => Sys2Proof.Machine.execContextSave gid s
  | .contextRestore gid intact => Sys2Proof.Machine.execContextRestore gid intact s
  | .gangSliceInstant slice => Sys2Proof.Machine.execGangSliceInstant slice s
  | .gangDecision slice => Sys2Proof.Machine.execGangDecision slice s
  | .gateTimeout d gate => Sys2Proof.Machine.execGateTimeout d gate s
  | .gateBatchForm d gate => Sys2Proof.Machine.execGateBatchForm d gate s
  | .gateBatchSend d gate => Sys2Proof.Machine.execGateBatchSend d gate s
  | .sjoinWaitComplete k => Sys2Proof.Machine.execSjoinWaitComplete k s
  | .migreq p => Sys2Proof.Machine.execMigreq p s
  | .migrationReceipt idx => Sys2Proof.Machine.execMigrationReceipt idx s
  | .migack xfer status newId => Sys2Proof.Machine.execMigack xfer status newId s
  | .migrationTimeout idx => Sys2Proof.Machine.execMigrationTimeout idx s
  | .gang p => Sys2Proof.Machine.execGang p s
  | .tsync port gt => Sys2Proof.Machine.execTsync port gt s
  | .tsyncPeriod => Sys2Proof.Machine.execTsyncPeriod s
  | .host port flits => Sys2Proof.Machine.execHost port flits s
  | .link port kind => Sys2Proof.Machine.execLink port kind s
  | .reservedPacketDrop port kind => Sys2Proof.Machine.execReservedPacketDrop port kind s
  | .linkFailure l => Sys2Proof.Machine.execLinkFailure l s
  | .hwUe d what owner => Sys2Proof.Machine.execHwUe d what owner s
  | .gridFaultEnd gid => Sys2Proof.Machine.execGridFaultEnd gid s
  | .windowOpArrival k => Sys2Proof.Machine.execWindowOpArrival k s
  | .contextRemoval asid => Sys2Proof.Machine.execContextRemoval asid s
  | .removalTimeout asid => Sys2Proof.Machine.execRemovalTimeout asid s
  | .packageReset image => Sys2Proof.Machine.execPackageReset image s
  | .replayDivergence gid index => Sys2Proof.Machine.execReplayDivergence gid index s
  | .quench => Sys2Proof.Machine.execQuench s
  | .quenchAbortTimeout => Sys2Proof.Machine.execQuenchAbortTimeout s
  | .firmwareVerify die image sig => Sys2Proof.Machine.execFirmwareVerify die image sig s
  | .attestationRequest nonce => Sys2Proof.Machine.execAttestationRequest nonce s
  | .timeUntilDeadline c hi => Sys2Proof.Machine.execTimeUntilDeadline c hi s
  | .tidReplicaUpdate k => Sys2Proof.Machine.execTidReplicaUpdate k s
  | .powerLimit cycles => Sys2Proof.Machine.execPowerLimit cycles s

end Sys2Proof.Machine
end

