-- ==== Sys2Proof/Machine/Upset.lean ====
section
/-!
DEFINITION. Machine/Upset.lean: errors that strike stored bits, correctable or not (03 R58, R59, 18 R422, log 75).
-/

namespace Sys2Proof.Machine

/-- A corrected error of a die's SRAM counted, for each grid that is resident there (R422, R433, log 75). -/
def State.dieCorr (s : State) (d : Nat) : State := (s.resident d).foldl (fun s g => s.countDie d g.1 0x10B) s

/-- A corrected error of a cell's SRAM counted (R422, R433). -/
def State.cellCorr (s : State) (c : Nat) : State := s.countCell c 0x0B

/-- An error in a 64-bit word of memory outside the stacks: corrected and counted, or the word poisoned (R422). -/
def State.wordUpset (s : State) (double : Bool) (key : Nat) (corr : State → State) : State :=
  if double then { s with poison := poisonMark s.poison false (key / 8 * 8) 8 } else corr s

/-- An error in a line of a stack: a single-bit one waits for the next read, an uncorrectable one poisons the line
(R58, R59). -/
def State.lineUpset (s : State) (double : Bool) (pa : Nat) : State :=
  if double then { s with poison := poisonMark s.poison true (pa / 64 * 64) 64, weak := s.weak.filter (· != pa / 64) }
  else if s.weak.contains (pa / 64) then s
  else { s with weak := s.weak ++ [pa / 64] }

/-- An L1 line with one of its 64-bit words poisoned (R422). -/
def L1Line.spoil (x : L1Line) (pa : Nat) : L1Line := { x with bad := Nat.lor x.bad (2 ^ (pa % 64 / 8)) }

/-- A register's bits struck: a vector's 64-bit word poisoned, or the whole of another register (R422). -/
def Bank.spoil (b : Bank) (r : RegSpec) (word : Nat) : Bank :=
  if rbank r = 1 then { b with vbad := put b.vbad (ridx r) (Nat.lor (lookD b.vbad (ridx r) 0) (2 ^ (word % 8))) }
  else { b with poison := r :: b.poison.filter (· != r) }

/-- An error strikes a place: where nothing is stored it does nothing. An entry of a TLB or a walk cache is dropped, and
walked again (R58, R59, R422, R423, log 75). -/
def State.upset (s : State) (double : Bool) : Site → State
  | .line pa => if pa < 2 ^ 40 then s.lineUpset double pa else s
  | .pad c off => if c < 8192 ∧ off < 2 ^ 18 then s.wordUpset double (padKey c off) (·.cellCorr c) else s
  | .l1 c pa =>
    if !(s.cell c).l1.any (fun x => x.pa == pa / 64 * 64) then s
    else if double then s.mapCell c (fun x => { x with l1 := x.l1.map (fun y => if y.pa = pa / 64 * 64 then y.spoil pa else y) })
    else s.cellCorr c
  | .slice pa =>
    if !(s.hsLines pa).contains (pa / 64) then s
    else if double then s.lineUpset true pa
    else s.dieCorr (homeDie pa)
  | .page d p off =>
    if ¬(d < 8 ∧ off < 32768) then s
    else if (s.die d).spilled.contains p then s.lineUpset double (hearthKey d p off)
    else s.wordUpset double (hearthKey d p off) (·.dieCorr d)
  | .kv cb p off => if cb < 4 ∧ off < 16384 then s.wordUpset double (kvKey cb p off) (·.dieCorr (2 * cb)) else s
  | .commit c hi dst off =>
    if !(s.bank c hi).commit.any (fun l => l.dst == dst) then s
    else if double then s.mapBank c hi (fun b => { b with commit := b.commit.map (fun l =>
      if l.dst = dst then { l with bad := Nat.lor l.bad (2 ^ (off % 64 / 8)) } else l) })
    else s.cellCorr c
  | .reg c hi r word =>
    if r = 0#8 then s else if double then s.mapBank c hi (·.spoil r word) else s.cellCorr c
  | .header cb p =>
    if ¬(cb < 4) || (look (s.cruc cb).kv p).isNone then s
    else if double then s.mapCruc cb (fun x => { x with kv := put x.kv p { x.page p with poison := true } })
    else s.dieCorr (2 * cb)
  | .table cb =>
    if double then
      let f := s.freeVal
      let e : EndInfo := { status := 0x10, cause := 0x70, fdetail := f.1 }
      [2 * cb, 2 * cb + 1].foldl (fun s d => (s.resident d).foldl (fun s g => s.endGrid g.1 e) s) f.2
    else s.dieCorr (2 * cb)
  | .tlb c n => s.mapCell c (fun x => { x with tlb := x.tlb.eraseIdx n })
  | .ctlb g k n => s.mapCluster g (fun x => { x with tlb := put x.tlb k ((lookD x.tlb k []).eraseIdx n) })
  | .wc d lvl n =>
    s.mapDie d (fun x => if lvl = 4 then { x with wc4 := x.wc4.eraseIdx n } else if lvl = 3 then { x with wc3 := x.wc3.eraseIdx n }
      else { x with wc2 := x.wc2.eraseIdx n })

end Sys2Proof.Machine
end

