-- ==== Sys2Proof/Machine/Turn.lean ====
section
/-!
DEFINITION. Machine/Turn.lean: which agent moves when the schedule names none (log 3), and the loading of
one instruction for a run of one step.
-/

namespace Sys2Proof.Machine

/-- The turn taken when the schedule is empty: the next instruction of the present bank (log 3). -/
def State.idleTurn (s : State) : Turn := { dt := 1, what := .issue s.cur.cell s.cur.hi }

/-- The counts by which GT is slewed in some cycles: at most one for each 1,024 cycles of a correction, and never
backwards (R447). -/
def State.slewBy (s : State) (dt : Nat) : Int :=
  let n := Nat.min dt ((s.plat.slewAt + dt) / 1024)
  max (-(n : Int)) (min (n : Int) s.plat.slew)

/-- Some cycles pass (R2, R447). -/
def State.pass (s : State) (dt : Nat) : State :=
  if s.plat.slew = 0 then { s with gt := s.gt + BitVec.ofNat 64 dt }
  else
    let d := s.slewBy dt
    { s with
      gt := s.gt + BitVec.ofNat 64 ((dt : Int) + d).toNat
      plat := { s.plat with slew := s.plat.slew - d, slewAt := (s.plat.slewAt + dt) % 1024 } }

/-- Whether a turn is taken while the package is in reset after a firmware image that failed: only the boot ROMs' checks
and a package reset are (R448). -/
def What.inReset : What → Bool
  | .ev (.firmwareVerify _ _ _) => true
  | .ev (.packageReset _) => true
  | _ => false

/-- The next turn and the state in which it is taken (log 3). -/
def State.turn (s : State) : Turn × State :=
  match s.sched with
  | [] => (s.idleTurn, s.pass s.idleTurn.dt)
  | t :: r => (t, { s.pass t.dt with sched := r })

/-- The instruction that a turn executes, with the state in which it does, or the state when none
executes: a trap of the fetch, a wait, no mask word, an error that strikes, or a package in reset (R448). -/
def State.pick (s : State) (w : What) : State × Option Instr :=
  if !s.plat.bootErr.isEmpty && !w.inReset then (s, none)
  else
  match w with
  | .upset site double => (s.upset double site, none)
  | .issue c hi => ({ s with cur := { s.cur with cell := c, hi := hi, pair := 0, rep := false } } : State).prepare
  | .ev i => (s, some i)
  | .mask cb =>
    let s := { s with cur := { s.cur with cb := cb } }
    match (s.cruc cb).mu.prog[(s.cruc cb).mu.at_]? with
    | none => (s, none)
    | some w =>
      match decodeMask w with
      | .ok i => (s, some i)
      | .error _ => (s, none)

/-- One instruction loaded for the next step: a mask word into the program of crucible 0, or an
instruction into slot 0 of the line at address 0, which the low bank of cell 0 holds, as the first
instruction of a task of a grid whose code is that line (log 10). -/
def State.load1 (s : State) (nbits w : Nat) : State :=
  if nbits ≤ 32 then
    { s.mapCruc 0 (fun k => { k with mu := { k.mu with prog := [BitVec.ofNat 32 w], at_ := 0 } }) with
      sched := [{ dt := 0, what := .mask 0 }] }
  else
    let grid : Grid := { lr := 64 * 2 ^ 64, queue := 0, gtStart := s.gt.toNat, tasks := 1 }
    let task : Task := { gid := 0, act := s.serial, msg := { hdr := 0, pay := [] } }
    let s := s.mapCell 0 (fun x => { x with
      lo := { x.lo with pc := 0, line := some { addr := 0, data := w % 2 ^ 96 }, task := some task, pend := [],
                        poison := [], rep := none, entered := none, past := none, fell := false,
                        refetch := false, second := false, joint := false }
      hi := { x.hi with task := none } })
    { s with grids := put s.grids 0 grid, serial := s.serial + 1, sched := [{ dt := 0, what := .issue 0 false }] }

end Sys2Proof.Machine
end

