-- ==== Sys2Proof/Machine/Step.lean ====
section
/-!
DEFINITION. Machine/Step.lean: one step: the turn that the schedule names, and the instruction that it
executes.
-/

namespace Sys2Proof.Machine

/-- One step of the package: a turn is taken, and its instruction, when there is one, is executed. -/
def step (s : State) : Host.Outcome State Fault Refusal :=
  match s.turn.2.pick s.turn.1.what with
  | (t, none) => .next t
  | (t, some i) => exec i t

/-- The state whose next step runs the instruction with bits `w` of a row of the opcode table. -/
def State.withFetchWord (s : State) (nbits w : Nat) : State := s.load1 nbits (w % 2 ^ nbits)

end Sys2Proof.Machine
end

