-- ==== Sys2Proof/Safety.lean ====
section
/-!
DEFINITION. Safety.lean: what a safe state of the package is, and what a completing instruction leaves as it
was, in the terms that statements use.
-/

namespace Sys2Proof.Machine

/-- The canonical form of the byte stores (log 2). -/
abbrev Memory.Wf (m : List Host.Cell) : Prop := Memory.wf m = true

/-- The invariant of the package: its byte stores have their canonical form. -/
def State.Inv (s : State) : Prop := Memory.Wf s.mem

/-- One step ends in a next state rather than in a fault or a refusal. -/
def State.goesOn (s : State) : Prop := ∃ t, step s = .next t

/-! ### What an instruction leaves as it was -/

/-- The registers that every completing instruction may change: pc, and lc0 and lc1 at the end of an armed
loop (R23, R360). -/
def flowRegs : List RegSpec := [0x89#8, 0x90#8, 0x91#8]

/-- Every byte of memory reads as before: global memory, the host window, scratchpads, hearth pages and KV
pages. -/
def MemKept (s t : State) : Prop := ∀ a, memGet t.mem a = memGet s.mem a

/-- Every register of the executing bank reads as before, scalar, vector, mask and special ones, flags, ring
handles and guards among them, but for those listed. -/
def RegsKept (s t : State) (rs : List RegSpec) : Prop :=
  ∀ r : RegSpec, r ∉ rs → readReg t.gt t.b r = readReg s.gt s.b r ∧ (rbank r = 1 → readVec t.b r = readVec s.b r)

/-- The other banks are as before, and of every cell all else but the counter UNPAIRED, which an instruction
that does not pair advances (R28, R433). -/
def CellsKept (s t : State) : Prop :=
  ∀ c, { t.cell c with lo := (s.cell c).lo, hi := (s.cell c).hi, csr := (s.cell c).csr } = s.cell c ∧
    (∀ n, n ≠ 1 → lookD (t.cell c).csr n 0 = lookD (s.cell c).csr n 0) ∧
    (∀ hi, (c ≠ s.cur.cell ∨ hi ≠ s.cur.hi) → t.bank c hi = s.bank c hi)

/-- Everything of the package outside its cells is as before, but for what is on its way. -/
def OthersKept (s t : State) : Prop := ({ t with cells := s.cells, fly := s.fly, serial := s.serial } : State) = s

/-- Whether the instruction at pc is the last of an armed loop (R360). -/
def atLoopEnd (b : Bank) : Prop := ∃ k, armed b k = true ∧ b.pc = loopEnd b k

/-- The count of a loop after one more pass, modulo 2^32 (R360). -/
def lessOne (n : Nat) : Nat := (n + 2 ^ 32 - 1) % 2 ^ 32

/-- Where the outer loop is armed and ends at pc, flow returns to its start, but on its last pass, which disarms it;
else flow goes on in sequence (R23, R360). -/
def OuterFlow (b t : Bank) : Prop :=
  if armed b false = true ∧ b.pc = loopEnd b false ∧ loopCount b false ≠ 1 then
    t.pc = loopStart b false ∧ t.lc0 = BitVec.ofNat 64 (2 ^ 63 + lessOne (loopCount b false))
  else
    t.pc = BitVec.ofNat 64 (nextSeq b.pc.toNat) ∧
      t.lc0 = if armed b false = true ∧ b.pc = loopEnd b false then 0 else b.lc0

/-- The flow of control after an instruction that makes no transfer: the inner loop is tested first, and the outer
loop when the inner does not return to its start (R23, R360). -/
def Flow (b t : Bank) : Prop :=
  if armed b true = true ∧ b.pc = loopEnd b true ∧ loopCount b true ≠ 1 then
    t.pc = loopStart b true ∧ t.lc1 = BitVec.ofNat 64 (2 ^ 63 + lessOne (loopCount b true)) ∧ t.lc0 = b.lc0
  else
    (t.lc1 = if armed b true = true ∧ b.pc = loopEnd b true then 0 else b.lc1) ∧ OuterFlow b t

/-- The executing task has gone on to its next instruction, at a loop's end as R360 says (R23). -/
def Advances (s t : State) : Prop := Flow s.b t.b

/-- The executing instruction has completed without a transfer, and has changed no more than some registers
of its bank. -/
def Done (s t : State) (rs : List RegSpec) : Prop :=
  OthersKept s t ∧ CellsKept s t ∧ MemKept s t ∧ RegsKept s t (rs ++ flowRegs) ∧ Advances s t ∧ t.fly = s.fly

/-- The executing instruction has completed without a transfer and has changed no register but the flow
registers: something is on its way that will write its result. -/
def Sent (s t : State) (dst : RegSpec) (f : Flight) : Prop :=
  OthersKept s t ∧ CellsKept s t ∧ MemKept s t ∧ RegsKept s t flowRegs ∧ Advances s t ∧
    t.fly = s.fly ++ [{ n := s.serial, cell := s.cur.cell, f := f }] ∧ (dst ≠ 0#8 → dst ∈ t.b.pend)

/-- The value of a one-cycle result in its register; s0 discards it (R41). -/
def Holds (t : State) (a : RegSpec) (v : Word) : Prop := readReg t.gt t.b a = if a = 0#8 then 0 else v

/-- An instruction completes and leaves a value in a scalar register. -/
def Gives (s : State) (i : Instr) (a : RegSpec) (v : Word) : Prop :=
  ∃ t, exec i s = .next t ∧ Done s t [a] ∧ Holds t a v

/-- An instruction completes and its result, of at most 512 bits, is on its way to a register with the flags
that it raises (R189, R194). -/
def Delivers (s : State) (i : Instr) (a : RegSpec) (val flags : Nat) : Prop :=
  ∃ t w, exec i s = .next t ∧ Sent s t a (.result w) ∧ w.cell = s.cur.cell ∧ w.hi = s.cur.hi ∧ w.act = s.act ∧
    w.dst = a ∧ w.val = val ∧ w.flags = flags

end Sys2Proof.Machine
end

