-- ==== Sys2Proof/Certificates/Slice0/Obligations.lean ====
section
/-!
DEFINITION. Certificates/Slice0/Obligations.lean: the statements about the model. Each says which rule of the
specification it formalises, and for which instructions it says that they complete.
-/

open Sys2Proof Sys2Proof.Machine

namespace Sys2Proof.Spec

/-! ### Terms of the statements -/

/-- The low bits of a register, at the width of a type (R200). -/
def low (s : State) (ty : Ty) (r : RegSpec) : BitVec (Ty.width ty) := (s.rd r).setWidth _

/-- A well-formed instruction completes in one cycle with a result of its type's width, sign-extended in its
register (R200). -/
def IntGives (s : State) (i : Instr) (ty : Ty) (a : RegSpec) (res : BitVec (Ty.width ty)) : Prop :=
  i.wf = true → Gives s i a (res.signExtend 64)

/-- A well-formed instruction of the multiply-divide unit sends such a result on its way. -/
def IntDelivers (s : State) (i : Instr) (ty : Ty) (a : RegSpec) (res : BitVec (Ty.width ty)) : Prop :=
  i.wf = true → Delivers s i a (res.signExtend 64).toNat 0

/-- The greatest signed number of a width. -/
def top (w : Nat) : BitVec w := BitVec.intMax w
/-- The least signed number of a width. -/
def bot (w : Nat) : BitVec w := BitVec.intMin w

/-- `sat_i` of an exact number (R7). -/
def clamp (w : Nat) (v : Int) : BitVec w :=
  if v < (bot w).toInt then bot w else if (top w).toInt < v then top w else BitVec.ofInt w v

end Sys2Proof.Spec

open Sys2Proof.Spec

/-! ## Integer instructions (08) -/

/-- R200: the one-cycle integer register instructions give the table's result, sign-extended from the width of
TYPE; nothing but the destination and the flow of control changes. Completes: ADD, SUB, AND, OR, XOR, ANDN, SHL,
SHR, SAR, ROL, MIN, MAX, MINN, MAXN, SADD, SSUB. -/
def Sys2Proof.Spec.IntegerResults : Prop :=
  ∀ (s : State) (x : T3),
    let p := low s x.ty x.b
    let q := low s x.ty x.c
    let k := q.toNat % Ty.width x.ty
    IntGives s (.add x) x.ty x.a (p + q) ∧
    IntGives s (.sub x) x.ty x.a (p - q) ∧
    IntGives s (.and x) x.ty x.a (p &&& q) ∧
    IntGives s (.or x) x.ty x.a (p ||| q) ∧
    IntGives s (.xor x) x.ty x.a (p ^^^ q) ∧
    IntGives s (.andn x) x.ty x.a (p &&& ~~~q) ∧
    IntGives s (.shl x) x.ty x.a (p <<< k) ∧
    IntGives s (.shr x) x.ty x.a (p >>> k) ∧
    IntGives s (.sar x) x.ty x.a (p.sshiftRight k) ∧
    IntGives s (.rol x) x.ty x.a (p.rotateLeft k) ∧
    IntGives s (.min x) x.ty x.a (if p.slt q then p else q) ∧
    IntGives s (.max x) x.ty x.a (if p.slt q then q else p) ∧
    IntGives s (.minn x) x.ty x.a (if p.ult q then p else q) ∧
    IntGives s (.maxn x) x.ty x.a (if p.ult q then q else p) ∧
    IntGives s (.sadd x) x.ty x.a (clamp _ (p.toInt + q.toInt)) ∧
    IntGives s (.ssub x) x.ty x.a (clamp _ (p.toInt - q.toInt))

/-- R200: the multiply and divide instructions send the table's result on its way. Completes: MUL, MULH, MULHN,
DIV, DIVN, REM, REMN. -/
def Sys2Proof.Spec.MultiplyDivideResults : Prop :=
  ∀ (s : State) (x : T3),
    let p := low s x.ty x.b
    let q := low s x.ty x.c
    let w := Ty.width x.ty
    IntDelivers s (.mul x) x.ty x.a (p * q) ∧
    IntDelivers s (.mulh x) x.ty x.a (BitVec.ofInt w (p.toInt * q.toInt / (2 : Int) ^ w)) ∧
    IntDelivers s (.mulhn x) x.ty x.a (BitVec.ofNat w (p.toNat * q.toNat / 2 ^ w)) ∧
    IntDelivers s (.div x) x.ty x.a (if q = 0 then BitVec.allOnes w else p.sdiv q) ∧
    IntDelivers s (.divn x) x.ty x.a (if q = 0 then BitVec.allOnes w else p / q) ∧
    IntDelivers s (.rem x) x.ty x.a (if q = 0 then p else p.srem q) ∧
    IntDelivers s (.remn x) x.ty x.a (p % q)

/-- The integer instructions of class 0x01: the statements IntegerResults, MultiplyDivideResults above, together. -/
def Obligations.IntegerArithmetic : Prop :=
  Sys2Proof.Spec.IntegerResults ∧ Sys2Proof.Spec.MultiplyDivideResults

/-- R201: the integer immediate instructions give the table's effect on 64 bits. Completes: MOVI, ADDI, ANDI,
ORI, XORI, SHLI, SHRI, SARI. -/
def Sys2Proof.Spec.ImmediateResults : Prop :=
  ∀ (s : State) (m : MoviR) (x : ImmR),
    ((Instr.movi m).wf = true → Gives s (.movi m) m.a m.imm) ∧
    ((Instr.addi x).wf = true →
      Gives s (.addi x) x.a (s.rd x.b + x.imm) ∧
      Gives s (.andi x) x.a (s.rd x.b &&& x.imm) ∧
      Gives s (.ori x) x.a (s.rd x.b ||| x.imm) ∧
      Gives s (.xori x) x.a (s.rd x.b ^^^ x.imm) ∧
      Gives s (.shli x) x.a (s.rd x.b * 2#64 ^ (x.imm.toNat % 64)) ∧
      Gives s (.shri x) x.a (BitVec.ofNat 64 ((s.rd x.b).toNat / 2 ^ (x.imm.toNat % 64))) ∧
      Gives s (.sari x) x.a (BitVec.ofInt 64 ((s.rd x.b).toInt / 2 ^ (x.imm.toNat % 64))))

namespace Sys2Proof.Spec

/-- The integer conditions of R39 on two words of a width. -/
def cond {w : Nat} (c : Cond) (p q : BitVec w) : Bool :=
  match c with
  | .eq => p == q
  | .ne => p != q
  | .lt => p.slt q
  | .ge => q.sle p
  | .ltn => p.ult q
  | .gen => q.ule p
  | .le => p.sle q
  | .gt => q.slt p
  | .len => p.ule q
  | .gtn => q.ult p
  | .always => true
  | .ord | .unord => false

/-- The number of set bits. -/
def ones {w : Nat} (p : BitVec w) : Nat := (List.range w).countP p.getLsbD

/-- The length that a bit field instruction takes: 65 to 127 act as 64 (R205). -/
def len (n : BitVec 7) : Nat := if n.toNat ≤ 64 then n.toNat else 64

end Sys2Proof.Spec

/-- R203 and R107: CMP writes 1 when its condition holds between the operands at the width of TYPE and 0
otherwise, SEL chooses by whether D is zero, and LEA writes the effective address of R35 and makes no access.
R206: SEXT and ZEXT. Completes: CMP, SEL, SEXT, ZEXT, LEA. -/
def Sys2Proof.Spec.CompareSelectResults : Prop :=
  ∀ (s : State) (c : CmpR) (x : SelR) (y : T2) (l : LeaR),
    ((Instr.cmp c).wf = true →
      Gives s (.cmp c) c.a (if cond c.cond (low s c.ty c.b) (low s c.ty c.c) then 1 else 0)) ∧
    ((Instr.sel x).wf = true → Gives s (.sel x) x.a (if s.rd x.d = 0 then s.rd x.c else s.rd x.b)) ∧
    ((Instr.sext y).wf = true → Gives s (.sext y) y.a ((low s y.ty y.b).signExtend 64)) ∧
    ((Instr.zext y).wf = true → Gives s (.zext y) y.a ((low s y.ty y.b).setWidth 64)) ∧
    ((Instr.lea l).wf = true →
      Gives s (.lea l) l.a (s.rd l.m.base + (s.rd l.m.idx <<< l.m.sh.toNat) + l.m.off.signExtend 64))

/-- Immediate forms, compares and selects: the statements ImmediateResults, CompareSelectResults above, together. -/
def Obligations.ImmediatesAndSelects : Prop :=
  Sys2Proof.Spec.ImmediateResults ∧ Sys2Proof.Spec.CompareSelectResults

/-- R204 and R205: what the bit instructions count, move and extract, bit by bit. Completes: CLZ, CTZ, POPC, BREV,
BSWAP, BFX, BFXS, BFI. -/
def Obligations.BitResults : Prop :=
  ∀ (s : State) (x : T2) (y : BfR) (z : BfiR),
    let w := Ty.width x.ty
    let p := low s x.ty x.b
    let f := (low s y.ty y.b).toNat / 2 ^ y.pos.toNat % 2 ^ len y.len
    ((Instr.clz x).wf = true → ∃ n, n ≤ w ∧ (∀ i, w - n ≤ i → p.getLsbD i = false) ∧
      (n < w → p.getLsbD (w - 1 - n) = true) ∧ Gives s (.clz x) x.a (BitVec.ofNat 64 n)) ∧
    ((Instr.ctz x).wf = true → ∃ n, n ≤ w ∧ (∀ i, i < n → p.getLsbD i = false) ∧
      (n < w → p.getLsbD n = true) ∧ Gives s (.ctz x) x.a (BitVec.ofNat 64 n)) ∧
    ((Instr.popc x).wf = true → Gives s (.popc x) x.a (BitVec.ofNat 64 (ones p))) ∧
    ((Instr.brev x).wf = true → ∃ v : BitVec w, (∀ i, i < w → v.getLsbD i = p.getLsbD (w - 1 - i)) ∧
      Gives s (.brev x) x.a (v.signExtend 64)) ∧
    ((Instr.bswap x).wf = true → ∃ v : BitVec w, (∀ i, i < w → v.getLsbD i = p.getLsbD (w - 8 - i / 8 * 8 + i % 8)) ∧
      Gives s (.bswap x) x.a (v.signExtend 64)) ∧
    IntGives s (.bfx y) y.ty y.a (BitVec.ofNat _ f) ∧
    IntGives s (.bfxs y) y.ty y.a ((BitVec.ofNat (len y.len) f).signExtend _) ∧
    (let mask : BitVec (Ty.width z.ty) := BitVec.ofNat _ ((2 ^ len z.len - 1) * 2 ^ z.pos.toNat)
     IntGives s (.bfi z) z.ty z.a
       (low s z.ty z.b &&& ~~~mask ||| (low s z.ty z.c <<< z.pos.toNat &&& mask)))

namespace Sys2Proof.Spec

/-- The executing task's grid neither records nor replays (R429, R430). -/
def plainGrid (s : State) : Prop := ∀ g, look s.grids s.gid = some g → recording g.lr = false ∧ g.replay = none

/-- What a register holds after MOV writes a value to it: s0, m0 and the read-only ones keep theirs, and st takes
bits [5:0] alone (R41, R42, R195, R203). -/
def moved (old v : Word) (a : RegSpec) : Word :=
  if a = 0#8 then 0
  else if a.isS then v
  else if 0x81#8 ≤ a ∧ a ≤ 0x88#8 then v
  else if a = 0x8A#8 then (old &&& ~~~0x3F#64) ||| (v &&& 0x3F#64)
  else old

end Sys2Proof.Spec

/-- R203, R42 and R195: MOV writes a scalar, mask or special register: a write to s0, m0 or a read-only register is
ignored, and a write to st sets bits [5:0] alone. Every other register, and all else, is as before. NOP and HINT
change nothing but the flow. MOV from gt and TIME give GT, where the grid neither records nor replays. Completes:
MOV, NOP, HINT, TIME, TIME with UNTIL. -/
def Obligations.MoveResults : Prop :=
  ∀ (s : State) (x : MovR),
    ((Instr.mov x).wf = true → x.b ≠ 0x8D#8 →
      ∃ t, exec (.mov x) s = .next t ∧ Done s t [x.a] ∧
        (x.a ∉ flowRegs → readReg t.gt t.b x.a = moved (s.rd x.a) (s.rd x.b) x.a)) ∧
    (∃ t, exec .nop s = .next t ∧ Done s t []) ∧
    (∀ n, ∃ t, exec (.hint n) s = .next t ∧ Done s t []) ∧
    ∀ i ∈ [Instr.mov { a := x.a, b := 0x8D#8 }, .time x.a, .timeUntil x], x.a.isS = true → plainGrid s →
      (s.rd x.b).toNat ≤ s.gt.toNat →
      ∃ t, exec i s = .next t ∧ MemKept s t ∧ RegsKept s t (x.a :: flowRegs) ∧ Advances s t ∧ Holds t x.a s.gt

/-- R189, R194 and R195: RESULT_WRITEBACK writes the result of the task's multi-cycle instruction, scalar, vector
or mask, and sets its flags, where no flag that it raises is enabled to trap; the sticky flags already set stay
set, nothing else of the registers changes, and the result is no longer on its way. Completes:
RESULT_WRITEBACK. -/
def Sys2Proof.Spec.ResultWriteback : Prop :=
  ∀ (s : State) (n k : Nat) (w : Wb) (task : Task),
    let b := s.bank w.cell w.hi
    s.flight k = some { n := n, cell := w.cell, f := .result w } → b.task = some task → task.act = w.act →
    w.dst.isS = true ∨ w.dst.isV = true ∨ w.dst.isMask = true → w.flags < 32 →
    (∀ i, i < 5 → w.flags.testBit i = true → b.st.getLsbD (8 + i) = false) →
    ∃ t, exec (.resultWriteback k) s = .next t ∧ t.fly = s.fly.eraseIdx k ∧ MemKept s t ∧
      (w.dst.isS = true → readReg t.gt (t.bank w.cell w.hi) w.dst = if w.dst = 0#8 then 0 else BitVec.ofNat 64 w.val) ∧
      (w.dst.isV = true → ridx w.dst < 32 → readVec (t.bank w.cell w.hi) w.dst = BitVec.ofNat 512 w.val) ∧
      (w.dst.isMask = true → w.dst ≠ 0x80#8 → readReg t.gt (t.bank w.cell w.hi) w.dst = BitVec.ofNat 64 w.val) ∧
      (t.bank w.cell w.hi).st = b.st ||| BitVec.ofNat 64 w.flags ∧
      (∀ r, r ≠ w.dst → r ≠ 0x8A#8 → readReg t.gt (t.bank w.cell w.hi) r = readReg s.gt b r ∧
        (rbank r = 1 → readVec (t.bank w.cell w.hi) r = readVec b r)) ∧
      (∀ c hi, (c ≠ w.cell ∨ hi ≠ w.hi) → t.bank c hi = s.bank c hi)

/-- R195 and R413: a float result that raises a flag whose trap is enabled is not written, and sets no flag: in a
grid with no supervisor it ends the grid with the cause of the first such flag in the order NV, DZ, OF, UF, NX, at
the pc of its instruction, when no earlier float result of the task is still to come and no commit of it is on its
way out. Every register is as before. -/
def Sys2Proof.Spec.ArithmeticTrap : Prop :=
  ∀ (s : State) (n k j : Nat) (w : Wb) (task : Task) (g : Grid),
    let b := s.bank w.cell w.hi
    let traps := fun i => w.flags.testBit (4 - i) && b.st.getLsbD (12 - i)
    s.flight k = some { n := n, cell := w.cell, f := .result w } → b.task = some task → task.act = w.act →
    task.committing = false → (∀ f ∈ s.fly, floatOf w.act f.f = true → n ≤ f.n) →
    look s.grids task.gid = some g → g.ending = none → superOf g.lr = none →
    j < 5 → traps j = true → (∀ i, i < j → traps i = false) →
    ∃ t e, exec (.resultWriteback k) s = .next t ∧ (look t.grids task.gid).bind (·.ending) = some e ∧
      e.status = 0x10 ∧ e.cause = 0x40 + j ∧ e.fpc = w.pc ∧ t.fly = s.fly.eraseIdx k ∧ MemKept s t ∧
      ∀ r, readReg t.gt (t.bank w.cell w.hi) r = readReg s.gt b r ∧ readVec (t.bank w.cell w.hi) r = readVec b r

/-- What a result does when it arrives: the statements ResultWriteback, ArithmeticTrap above, together. -/
def Obligations.ResultsReturn : Prop :=
  Sys2Proof.Spec.ResultWriteback ∧ Sys2Proof.Spec.ArithmeticTrap

/-! ## Float instructions and conversions (08, 09) -/

namespace Sys2Proof.Spec

/-- A well-formed instruction of class 0x04 or 0x05 sends a result with its flags on its way. -/
def FloatDelivers (s : State) (i : Instr) (a : RegSpec) (r : Fl) : Prop :=
  i.wf = true → Delivers s i a r.bits (flagBits r.nv r.dz r.of r.uf r.nx)

/-- The bits of a float operand (R207). -/
def fbits (s : State) (ty : Ty) (r : RegSpec) : Nat := (s.rd r).toNat % 2 ^ Ty.width ty

/-- A value as a rational; a NaN or an infinity has none. -/
def rat : Machine.Num → Option Rat
  | .fin neg m e false => some ((if neg then -1 else 1) * (m : Rat) * (if 0 ≤ e then (2 : Rat) ^ e.toNat else 1 / (2 : Rat) ^ (-e).toNat))
  | _ => none

/-- `v`, a value of the format with the pattern `bits`, is `r` rounded in a mode, beside another value `u` of the
format (R221). -/
def Nearer (md : Rnd) (bits : Nat) (r v u : Rat) : Prop :=
  match md with
  | .rne => (v - r).abs ≤ (u - r).abs ∧ ((v - r).abs = (u - r).abs → u ≠ v → bits % 2 = 0)
  | .rz => 0 ≤ v * r ∧ v.abs ≤ r.abs ∧ (u.abs ≤ r.abs → u.abs ≤ v.abs)
  | .rd => v ≤ r ∧ (u ≤ r → u ≤ v)
  | .ru => r ≤ v ∧ (r ≤ u → v ≤ u)

/-- A pattern of a format is an exact number rounded in a mode: no value of the format stands closer, a tie goes to
the even significand, and only a number beyond every finite value gives a pattern that is not one (R208, R213,
R221). -/
def Rounds (F : Fmt) (md : Rnd) (bits : Nat) (r : Rat) : Prop :=
  ∀ y u, rat (decodeF F y) = some u →
    (∀ v, rat (decodeF F bits) = some v → Nearer md bits r v u) ∧ (rat (decodeF F bits) = none → u.abs < r.abs)

/-- A finite pattern is the square root of a number rounded in a mode: the midpoint to any other value of the format
lies on its other side (R208, R221). -/
def RootRounds (F : Fmt) (md : Rnd) (bits : Nat) (p : Rat) : Prop :=
  ∃ v, rat (decodeF F bits) = some v ∧ 0 ≤ v ∧ ∀ y u, rat (decodeF F y) = some u → 0 ≤ u →
    match md with
    | .rne => (u < v → (u + v) * (u + v) ≤ 4 * p) ∧ (v < u → 4 * p ≤ (u + v) * (u + v))
    | .rz | .rd => v * v ≤ p ∧ (u * u ≤ p → u ≤ v)
    | .ru => p ≤ v * v ∧ (p ≤ u * u → v ≤ u)

/-- An integer is a number rounded to an integer in a mode (R214, R216). -/
def IntRounds (md : Rnd) (k : Int) (r : Rat) : Prop :=
  match md with
  | .rne => ((k : Rat) - r).abs ≤ 1 / 2 ∧ (((k : Rat) - r).abs = 1 / 2 → k % 2 = 0)
  | .rz => 0 ≤ (k : Rat) * r ∧ (k : Rat).abs ≤ r.abs ∧ r.abs < (k : Rat).abs + 1
  | .rd => (k : Rat) ≤ r ∧ r < (k : Rat) + 1
  | .ru => r ≤ (k : Rat) ∧ (k : Rat) - 1 < r

/-- The float conditions of R39 on two numbers. -/
def ratCond (c : Cond) (p q : Rat) : Bool :=
  match c with
  | .eq => decide (p = q)
  | .ne => decide (p ≠ q)
  | .lt => decide (p < q)
  | .ge => decide (q ≤ p)
  | .le => decide (p ≤ q)
  | .gt => decide (q < p)
  | .always | .ord => true
  | _ => false

end Sys2Proof.Spec

/-- R208 to R211: the scalar float instructions send their result, zero-extended, and the flags that it raises on
their way, and change nothing else. Completes: FADD, FSUB, FMUL, FFMA, FDIV, FSQRT, FMIN, FMAX, FCMP, FCLASS, FABS,
FNEG. -/
def Sys2Proof.Spec.FloatResults : Prop :=
  ∀ (s : State) (x : FR3) (y : FR4) (z : FR2) (m : T3) (c : CmpR) (u : T2),
    let F := Ty.fmt x.ty
    let p := fbits s x.ty x.b
    let q := fbits s x.ty x.c
    let pm := fbits s m.ty m.b
    let qm := fbits s m.ty m.c
    let pu := fbits s u.ty u.b
    FloatDelivers s (.fadd x) x.a (fArith .add F x.rnd x.sat p q 0) ∧
    FloatDelivers s (.fsub x) x.a (fArith .sub F x.rnd x.sat p q 0) ∧
    FloatDelivers s (.fmul x) x.a (fArith .mul F x.rnd x.sat p q 0) ∧
    FloatDelivers s (.fdiv x) x.a (fArith .div F x.rnd x.sat p q 0) ∧
    FloatDelivers s (.ffma y) y.a
      (fArith .fma (Ty.fmt y.ty) y.rnd y.sat (fbits s y.ty y.b) (fbits s y.ty y.c) (fbits s y.ty y.d)) ∧
    FloatDelivers s (.fsqrt z) z.a (fArith .sqrt (Ty.fmt z.ty) z.rnd z.sat (fbits s z.ty z.b) 0 0) ∧
    ((Instr.fmin m).wf = true → Delivers s (.fmin m) m.a (fMinMax (Ty.fmt m.ty) false pm qm) 0) ∧
    ((Instr.fmax m).wf = true → Delivers s (.fmax m) m.a (fMinMax (Ty.fmt m.ty) true pm qm) 0) ∧
    ((Instr.fcmp c).wf = true → Delivers s (.fcmp c) c.a
      (if fCond c.cond (decodeF (Ty.fmt c.ty) (fbits s c.ty c.b)) (decodeF (Ty.fmt c.ty) (fbits s c.ty c.c)) then 1 else 0) 0) ∧
    ((Instr.fclass u).wf = true → Delivers s (.fclass u) u.a (fClass (Ty.fmt u.ty) pu) 0) ∧
    ((Instr.fabs u).wf = true → Delivers s (.fabs u) u.a (fSign (Ty.fmt u.ty) false pu) 0) ∧
    ((Instr.fneg u).wf = true → Delivers s (.fneg u) u.a (fSign (Ty.fmt u.ty) true pu) 0)

/-- R213 to R216: the conversions send their result and flags on their way; an integer result is extended to 64
bits by the sign of its type, a NaN converts to the integer 0 with NV, and an integer operand is read by the sign
of its own type. Completes: FCVT, FCVTI, ICVTF, FRND. -/
def Sys2Proof.Spec.Conversions : Prop :=
  ∀ (s : State) (x : CvtR) (y : FrndR),
    let p := fbits s x.st x.b
    FloatDelivers s (.fcvt x) x.a (fCvt (Ty.fmt x.dt) (Ty.fmt x.st) x.rnd x.sat p) ∧
    ((Instr.fcvti x).wf = true → ∃ v : BitVec (Ty.width x.dt), ∃ nv nx,
      Delivers s (.fcvti x) x.a (if Ty.signed x.dt then v.signExtend 64 else v.setWidth 64).toNat (flagBits nv false false false nx) ∧
      ((decodeF (Ty.fmt x.st) p).isNan = true → v = 0 ∧ nv = true ∧ nx = false) ∧
      (∀ neg, decodeF (Ty.fmt x.st) p = .inf neg →
        v = BitVec.ofInt _ (if neg then Ty.minInt x.dt else Ty.maxInt x.dt) ∧ nv = !x.sat ∧ nx = false) ∧
      (∀ r, rat (decodeF (Ty.fmt x.st) p) = some r → ∃ k : Int, IntRounds x.rnd k r ∧
        (Ty.minInt x.dt ≤ k → k ≤ Ty.maxInt x.dt → v = BitVec.ofInt _ k ∧ nv = false ∧ nx = decide ((k : Rat) ≠ r)) ∧
        (k < Ty.minInt x.dt → v = BitVec.ofInt _ (Ty.minInt x.dt) ∧ nv = !x.sat ∧ nx = false) ∧
        (Ty.maxInt x.dt < k → v = BitVec.ofInt _ (Ty.maxInt x.dt) ∧ nv = !x.sat ∧ nx = false))) ∧
    FloatDelivers s (.icvtf x) x.a (iCvtF (Ty.fmt x.dt) x.st x.rnd x.sat p) ∧
    ((Instr.frnd y).wf = true → Delivers s (.frnd y) y.a (fRnd (Ty.fmt y.ty) y.rnd (fbits s y.ty y.b)) 0)

/-- R213, R215, R216 and R221: the value of a conversion without SAT. A finite number converted to a format is that
number rounded once in the mode, NX saying whether it is another; a NaN gives the canonical NaN, and an infinity the
infinity, or the NaN of E4M3 with NV. An integer converts as the number it stands for. FRND gives the number rounded to
an integer, with its sign. With SAT a result that would be infinite, or the NaN of E4M3, is the largest finite value. -/
def Sys2Proof.Spec.ConversionRounding : Prop :=
  ∀ (F G : Fmt) (md : Rnd) (x : Nat) (t : Ty),
    F ∈ [fmt64, fmt32, Ty.fmt .f16, fmtBf16, fmtE4m3, Ty.fmt .e5m2] →
    G ∈ [fmt64, fmt32, Ty.fmt .f16, fmtBf16, fmtE4m3, Ty.fmt .e5m2] →
    let a := decodeF F x
    let f := fCvt G F md false x
    let n : Int := if Ty.signed t then (BitVec.ofNat (Ty.width t) x).toInt else (BitVec.ofNat (Ty.width t) x).toNat
    (∀ r, rat a = some r → Rounds G md f.bits r ∧ f.nv = false ∧ (f.nx = false ↔ rat (decodeF G f.bits) = some r)) ∧
    (a.isNan = true → f = { bits := qnan G }) ∧
    (∀ neg, a = .inf neg → f = { bits := infBits G neg, nv := G.e4m3 } ∧ fCvt G F md true x = { bits := maxBits G neg }) ∧
    (∀ r, rat a = some r → fCvt G F md true x = { f with bits := if rat (decodeF G f.bits) = none then maxBits G a.neg else f.bits }) ∧
    Rounds G md (iCvtF G t md false x).bits (n : Rat) ∧
    (∀ r, rat a = some r → ∃ k : Int, IntRounds md k r ∧ rat (decodeF F (fRnd F md x)) = some (k : Rat) ∧
      (decodeF F (fRnd F md x)).neg = a.neg) ∧
    (a.isNan = true → fRnd F md x = qnan F) ∧ (∀ neg, a = .inf neg → decodeF F (fRnd F md x) = .inf neg)

namespace Sys2Proof.Spec

/-- Of each format its largest finite number, the spacing below that number, its smallest normal number, and the spacing
below that one with the exponent unbounded (R217, R221). -/
def limits : List (Fmt × Rat × Rat × Rat × Rat) :=
  [(fmt64, (2 ^ 53 - 1) * 2 ^ 971, 2 ^ 971, 1 / 2 ^ 1022, 1 / 2 ^ 1075),
   (fmt32, (2 ^ 24 - 1) * 2 ^ 104, 2 ^ 104, 1 / 2 ^ 126, 1 / 2 ^ 150),
   (Ty.fmt .f16, 65504, 32, 1 / 2 ^ 14, 1 / 2 ^ 25),
   (fmtBf16, (2 ^ 8 - 1) * 2 ^ 120, 2 ^ 120, 1 / 2 ^ 126, 1 / 2 ^ 134),
   (fmtE4m3, 448, 32, 1 / 2 ^ 6, 1 / 2 ^ 10),
   (Ty.fmt .e5m2, 57344, 8192, 1 / 2 ^ 14, 1 / 2 ^ 17)]

/-- A number rounded in a mode with the exponent unbounded exceeds the largest finite number `M`, whose spacing is `q`. The
tie above 448 goes to 448, and above the others' largest away from it (R209, R221). -/
def Overflows (F : Fmt) (md : Rnd) (M q r : Rat) : Prop :=
  match md with
  | .rne => if F = fmtE4m3 then M + q / 2 < r.abs else M + q / 2 ≤ r.abs
  | .rz => M + q ≤ r.abs
  | .rd => if r < 0 then M < r.abs else M + q ≤ r.abs
  | .ru => if r < 0 then M + q ≤ r.abs else M < r.abs

/-- A number other than zero, rounded in a mode with the exponent unbounded, is smaller than the smallest normal number `N`,
below which the spacing is `u` (R209). -/
def Tiny (md : Rnd) (N u r : Rat) : Prop :=
  r ≠ 0 ∧ match md with
  | .rne => r.abs < N - u / 2
  | .rz => r.abs < N
  | .rd => if r < 0 then r.abs ≤ N - u else r.abs < N
  | .ru => if r < 0 then r.abs < N else r.abs ≤ N - u

/-- The flags OF, UF and NX of a number delivered in a format without SAT, and the pattern of one that overflows: NaN in
E4M3; elsewhere an infinity under RNE, and under RU and RD on the side to which they round; the largest finite number
otherwise (R208, R209, R221). -/
def FlagsOf (F : Fmt) (md : Rnd) (f : Fl) (r : Rat) : Prop :=
  ∀ M q N u, (F, M, q, N, u) ∈ limits →
    (f.of = true ↔ Overflows F md M q r) ∧
    (f.uf = true ↔ Tiny md N u r ∧ rat (decodeF F f.bits) ≠ some r) ∧
    (f.nx = true ↔ rat (decodeF F f.bits) ≠ some r) ∧
    (Overflows F md M q r → f.bits =
      if F = fmtE4m3 then 0x7F
      else if md = .rne ∨ (md = .ru ∧ 0 < r) ∨ (md = .rd ∧ r < 0) then infBits F (decide (r < 0)) else maxBits F (decide (r < 0)))

end Sys2Proof.Spec

/-- R209, R213, R215, R217 and R221: the flags and the overflow of a conversion, by mode and sign. -/
def Sys2Proof.Spec.ConversionFlags : Prop :=
  ∀ (F G : Fmt) (md : Rnd) (x : Nat) (t : Ty) (r : Rat),
    F ∈ limits.map (·.1) → G ∈ limits.map (·.1) →
    let n : Int := if Ty.signed t then (BitVec.ofNat (Ty.width t) x).toInt else (BitVec.ofNat (Ty.width t) x).toNat
    (rat (decodeF F x) = some r → FlagsOf G md (fCvt G F md false x) r) ∧ FlagsOf G md (iCvtF G t md false x) (n : Rat)

/-- The conversions: the statements Conversions, ConversionRounding, ConversionFlags above, together. -/
def Obligations.ConversionResults : Prop :=
  Sys2Proof.Spec.Conversions ∧ Sys2Proof.Spec.ConversionRounding ∧ Sys2Proof.Spec.ConversionFlags

/-- R208, R209 and R221: the value of float arithmetic on numbers. Without SAT a result is the exact sum, difference,
product, fused product and sum, quotient or root, rounded once in the mode, and NX says whether it is another number;
with SAT an infinite result becomes the largest finite one of its sign, and the flags are the same. -/
def Sys2Proof.Spec.FloatRounding : Prop :=
  ∀ (F : Fmt) (md : Rnd) (x y z : Nat) (p q c : Rat),
    F ∈ [fmt64, fmt32, Ty.fmt .f16, fmtBf16] →
    rat (decodeF F x) = some p → rat (decodeF F y) = some q → rat (decodeF F z) = some c →
    let gives := fun (op : FOp) (r : Rat) =>
      let f := fArith op F md false x y z
      Rounds F md f.bits r ∧ f.nv = false ∧ f.dz = false ∧ (f.nx = false ↔ rat (decodeF F f.bits) = some r)
    gives .add (p + q) ∧ gives .sub (p - q) ∧ gives .mul (p * q) ∧ gives .fma (p * q + c) ∧
    (q ≠ 0 → gives .div (p / q)) ∧
    (0 ≤ p → RootRounds F md (fArith .sqrt F md false x y z).bits p) ∧
    (∀ op, let f := fArith op F md false x y z
      fArith op F md true x y z =
        { f with bits := if (decodeF F f.bits).isInf then maxBits F (decodeF F f.bits).neg else f.bits })

/-- R208, R209, R217 and R221: the flags OF, UF and NX of float arithmetic on numbers, and what overflows, by mode and sign.
A root neither overflows nor underflows. -/
def Sys2Proof.Spec.FloatFlags : Prop :=
  ∀ (F : Fmt) (md : Rnd) (x y z : Nat) (p q c : Rat),
    F ∈ [fmt64, fmt32, Ty.fmt .f16, fmtBf16] →
    rat (decodeF F x) = some p → rat (decodeF F y) = some q → rat (decodeF F z) = some c →
    let flags := fun (op : FOp) (r : Rat) => FlagsOf F md (fArith op F md false x y z) r
    flags .add (p + q) ∧ flags .sub (p - q) ∧ flags .mul (p * q) ∧ flags .fma (p * q + c) ∧ (q ≠ 0 → flags .div (p / q)) ∧
    (0 ≤ p → let f := fArith .sqrt F md false x y z
      f.of = false ∧ f.uf = false ∧ (f.nx = false ↔ ∃ v, rat (decodeF F f.bits) = some v ∧ v * v = p))

/-- R210, R211 and R39: the float instructions that choose, compare and classify, in every format. FMIN and FMAX give
the smaller and the larger of two numbers, -0 below +0, the other operand of a NaN, and the canonical NaN of two;
FABS and FNEG change the sign bit alone, but make a NaN canonical; FCMP compares numbers, and of a NaN says that it is
unordered and unequal; FCLASS sets the bit of the class. -/
def Sys2Proof.Spec.FloatSelects : Prop :=
  ∀ (F : Fmt) (x y : Nat),
    F ∈ [fmt64, fmt32, Ty.fmt .f16, fmtBf16] → x < 2 ^ F.width → y < 2 ^ F.width →
    let a := decodeF F x
    let b := decodeF F y
    let sign := 2 ^ (F.width - 1)
    (∀ p q, rat a = some p → rat b = some q →
      rat (decodeF F (fMinMax F false x y)) = some (if p ≤ q then p else q) ∧
      rat (decodeF F (fMinMax F true x y)) = some (if p ≤ q then q else p) ∧
      (p = 0 → q = 0 → (decodeF F (fMinMax F false x y)).neg = (a.neg || b.neg) ∧ (decodeF F (fMinMax F true x y)).neg = (a.neg && b.neg)) ∧
      ∀ cond, fCond cond a b = ratCond cond p q) ∧
    (∀ isMax, a.isNan = true → fMinMax F isMax x y = if b.isNan then qnan F else y) ∧
    (∀ isMax, a.isNan = false → b.isNan = true → fMinMax F isMax x y = x) ∧
    (∀ isMax neg, a = .inf neg → b.isNan = false →
      fMinMax F isMax x y = (if isMax = neg then y else x) ∧ fMinMax F isMax y x = (if isMax = neg then y else x)) ∧
    (a.isNan = true ∨ b.isNan = true →
      fCond .eq a b = false ∧ fCond .ne a b = true ∧ fCond .lt a b = false ∧ fCond .ge a b = false ∧ fCond .le a b = false ∧
      fCond .gt a b = false ∧ fCond .ord a b = false ∧ fCond .unord a b = true) ∧
    (a.isNan = false → fSign F false x = x % sign ∧ fSign F true x = (x + sign) % (2 * sign)) ∧
    (a.isNan = true → ∀ n, fSign F n x = qnan F) ∧
    (a.isNan = true → fClass F x = 256) ∧ (∀ neg, a = .inf neg → fClass F x = if neg then 1 else 128) ∧
    ∀ p, rat a = some p → fClass F x =
      (if p = 0 then (if x < sign then 16 else 8)
       else if x % sign < 2 ^ F.p then (if p < 0 then 4 else 32)
       else if p < 0 then 2 else 64)

/-- R208 and R209: the special cases of scalar float arithmetic in every format. An infinity less itself, zero times
an infinity, zero by zero, an infinity by an infinity and the root of a negative number are invalid: the
canonical NaN with NV alone. A finite number by zero is an infinity with DZ alone, its sign the exclusive or of the
operands' signs, and the largest finite number with SAT. A NaN gives the canonical NaN and no flag. -/
def Sys2Proof.Spec.FloatSpecialCases : Prop :=
  ∀ (F : Fmt) (md : Rnd) (sat : Bool) (x y : Nat),
    F ∈ [fmt64, fmt32, Ty.fmt .f16, fmtBf16] →
    let a := decodeF F x
    let b := decodeF F y
    let invalid : Fl := { bits := qnan F, nv := true }
    (a.isInf = true → b.isInf = true → a.neg = b.neg → fArith .sub F md sat x y 0 = invalid) ∧
    (a.isInf = true → b.isInf = true → a.neg ≠ b.neg → fArith .add F md sat x y 0 = invalid) ∧
    (a.isZero = true → b.isInf = true → fArith .mul F md sat x y 0 = invalid) ∧
    (a.isZero = true → b.isZero = true → fArith .div F md sat x y 0 = invalid) ∧
    (a.isInf = true → b.isInf = true → fArith .div F md sat x y 0 = invalid) ∧
    (a.neg = true → a.isZero = false → a.isNan = false → fArith .sqrt F md sat x 0 0 = invalid) ∧
    (∀ neg m e, a = .fin neg m e false → m ≠ 0 → b.isZero = true →
      fArith .div F md sat x y 0 =
        { bits := if sat then maxBits F (neg != b.neg) else infBits F (neg != b.neg), dz := true }) ∧
    (a.isNan = true → ∀ op ∈ [FOp.add, .sub, .mul, .div, .sqrt], fArith op F md sat x y 0 = { bits := qnan F })

/-- The floating-point instructions of class 0x04: the statements FloatResults, FloatSpecialCases, FloatRounding,
FloatFlags, FloatSelects above, together. -/
def Obligations.FloatArithmetic : Prop :=
  Sys2Proof.Spec.FloatResults ∧ Sys2Proof.Spec.FloatSpecialCases ∧ Sys2Proof.Spec.FloatRounding ∧
    Sys2Proof.Spec.FloatFlags ∧ Sys2Proof.Spec.FloatSelects

/-- R221: rounding to nearest is rounding to nearest. For every format, the value that `round` gives under RNE for a
non-zero dyadic number, where it is finite, lies no further from that number than any value of the format, and of two
that lie as far it is the one of the even significand; under RZ it lies between zero and the number, and no value of the
format lies between the two. -/
def Obligations.RoundingIsNearest : Prop :=
  ∀ (F : Fmt) (neg : Bool) (m : Nat) (e : Int) (v q u : Rat) (y : Nat),
    F ∈ [fmt64, fmt32, Ty.fmt .f16, fmtBf16, fmtE4m3, Ty.fmt .e5m2] → m ≠ 0 →
    rat (.fin neg m e false) = some q → rat (decodeF F y) = some u →
    (let r := (roundF F .rne false (.fin neg m e false)).bits
     rat (decodeF F r) = some v → Nearer .rne r q v u) ∧
    (let r := (roundF F .rz false (.fin neg m e false)).bits
     rat (decodeF F r) = some v → Nearer .rz r q v u)

/-! ## Vector instructions (10) -/

namespace Sys2Proof.Spec

/-- Lane `k` of a vector register, at the width of a type (R236). -/
def lane (s : State) (ty : Ty) (r : RegSpec) (k : Nat) : BitVec (Ty.width ty) :=
  (readVec s.b r).extractLsb' (Ty.width ty * k) _

/-- Lane `k` of a vector source: of the register, or the low bits of a scalar or a small immediate (R239). -/
def src (s : State) (ty : Ty) (r : RegSpec) (k : Nat) : BitVec (Ty.width ty) :=
  if r.isV then lane s ty r k else low s ty r

/-- Whether lane `k` is active under a mask register (R240). -/
def on (s : State) (msk : BitVec 3) (k : Nat) : Bool := (s.rd (0x80#8 + msk.setWidth 8)).getLsbD k

/-- The number of lanes of a type (R236). -/
def nl (ty : Ty) : Nat := 512 / Ty.width ty

/-- A well-formed instruction sends a vector on its way whose lanes are given. -/
def Lanes (s : State) (i : Instr) (ty : Ty) (a : RegSpec) (f : Nat → BitVec (Ty.width ty)) : Prop :=
  i.wf = true → ∃ v : Vec, Delivers s i a v.toNat 0 ∧
    ∀ k, k < nl ty → v.extractLsb' (Ty.width ty * k) (Ty.width ty) = f k

/-- The same where inactive lanes keep the destination's old value (R240). -/
def Merges (s : State) (i : Instr) (ty : Ty) (a : RegSpec) (msk : BitVec 3) (f : Nat → BitVec (Ty.width ty)) : Prop :=
  Lanes s i ty a (fun k => if on s msk k then f k else lane s ty a k)

/-- A lane read by type (R243). -/
def byType {w : Nat} (ty : Ty) (v : BitVec w) : Int := if Ty.signed ty then v.toInt else v.toNat

/-- An exact number saturated by type (R7, R243). -/
def clampBy (ty : Ty) (v : Int) : BitVec (Ty.width ty) :=
  if Ty.signed ty then clamp _ v
  else if v < 0 then 0 else if (2 : Int) ^ Ty.width ty ≤ v then BitVec.allOnes _ else BitVec.ofInt _ v

end Sys2Proof.Spec

/-- R236, R238 to R240 and R243: a vector integer instruction gives in every active lane the table's result of the
lanes of its sources, all read before, and leaves every other lane of its destination as it was. Completes: VADD,
VSUB, VMUL, VMULH, VMIN, VMAX, VABS, VSADD, VSSUB, VSHL, VSHR, VSAR, VAND, VOR, VXOR, VNOT. -/
def Obligations.VectorIntegerLanes : Prop :=
  ∀ (s : State) (x : V3) (y : VabsR) (z : V2),
    let w := Ty.width x.ty
    let p := src s x.ty x.b
    let q := src s x.ty x.c
    let P := fun k => byType x.ty (p k)
    let Q := fun k => byType x.ty (q k)
    let n := fun k => (q k).toNat % w
    Merges s (.vadd x) x.ty x.a x.msk (fun k => p k + q k) ∧
    Merges s (.vsub x) x.ty x.a x.msk (fun k => p k - q k) ∧
    Merges s (.vmul x) x.ty x.a x.msk (fun k => p k * q k) ∧
    Merges s (.vmulh x) x.ty x.a x.msk (fun k => BitVec.ofInt w (P k * Q k / (2 : Int) ^ w)) ∧
    Merges s (.vmin x) x.ty x.a x.msk (fun k => if P k ≤ Q k then p k else q k) ∧
    Merges s (.vmax x) x.ty x.a x.msk (fun k => if P k ≤ Q k then q k else p k) ∧
    Merges s (.vabs y) y.ty y.a y.msk (fun k =>
      let v := src s y.ty y.b k
      if Ty.signed y.ty then (if y.sat ∧ v = bot _ then top _ else v.abs) else v) ∧
    Merges s (.vsadd x) x.ty x.a x.msk (fun k => clampBy x.ty (P k + Q k)) ∧
    Merges s (.vssub x) x.ty x.a x.msk (fun k => clampBy x.ty (P k - Q k)) ∧
    Merges s (.vshl x) x.ty x.a x.msk (fun k => p k <<< n k) ∧
    Merges s (.vshr x) x.ty x.a x.msk (fun k => p k >>> n k) ∧
    Merges s (.vsar x) x.ty x.a x.msk (fun k => (p k).sshiftRight (n k)) ∧
    Merges s (.vand x) x.ty x.a x.msk (fun k => p k &&& q k) ∧
    Merges s (.vor x) x.ty x.a x.msk (fun k => p k ||| q k) ∧
    Merges s (.vxor x) x.ty x.a x.msk (fun k => p k ^^^ q k) ∧
    Merges s (.vnot z) z.ty z.a z.msk (fun k => ~~~src s z.ty z.b k)

namespace Sys2Proof.Spec

/-- The bits of a float result as a lane. -/
def fl (ty : Ty) (v : Nat) : BitVec (Ty.width ty) := BitVec.ofNat _ v

/-- Whether a source lane holds a NaN. -/
def nanLane (s : State) (u : V2) (k : Nat) : Bool := (decodeF (Ty.fmt u.ty) (src s u.ty u.b k).toNat).isNan

end Sys2Proof.Spec

/-- R245 to R250: the vector float instructions give in every active lane the result of the scalar instruction, the
rounded reciprocal, the rounded reciprocal root, or the tabled exponential or logarithm, and set no flag. VFCVT
converts the elements of R249 and places them as R250 says; every other lane keeps its old value. Completes: VFADD,
VFSUB, VFMUL, VFMA, VFMIN, VFMAX, VFABS, VFNEG, VFCVT, VRCP, VRSQ, VEXP, VLOG2. -/
def Obligations.VectorFloatLanes : Prop :=
  ∀ (s : State) (x : VF3) (y : VF4) (m : V3) (u : V2) (r : VF2) (t : VabsR) (c : VfcvtR),
    let F := Ty.fmt x.ty
    let p := fun k => (src s x.ty x.b k).toNat
    let q := fun k => (src s x.ty x.c k).toNat
    let v := fun k => decodeF (Ty.fmt r.ty) (src s r.ty r.b k).toNat
    let e := fun k => (src s t.ty t.b k).toNat
    let wd := Ty.width c.dt
    let ws := Ty.width c.st
    let n := 512 / max wd ws
    let part := c.part.toNat % (max wd ws / min wd ws)
    let conv := fun k => fl c.dt (convElem c.dt c.st c.rnd c.sat (src s c.st c.b k).toNat)
    Merges s (.vfadd x) x.ty x.a x.msk (fun k => fl x.ty (fArith .add F x.rnd x.sat (p k) (q k) 0).bits) ∧
    Merges s (.vfsub x) x.ty x.a x.msk (fun k => fl x.ty (fArith .sub F x.rnd x.sat (p k) (q k) 0).bits) ∧
    Merges s (.vfmul x) x.ty x.a x.msk (fun k => fl x.ty (fArith .mul F x.rnd x.sat (p k) (q k) 0).bits) ∧
    Merges s (.vfma y) y.ty y.a y.msk (fun k => fl y.ty (fArith .fma (Ty.fmt y.ty) y.rnd y.sat
      (src s y.ty y.b k).toNat (src s y.ty y.c k).toNat (src s y.ty y.d k).toNat).bits) ∧
    Merges s (.vfmin m) m.ty m.a m.msk (fun k =>
      fl m.ty (fMinMax (Ty.fmt m.ty) false (src s m.ty m.b k).toNat (src s m.ty m.c k).toNat)) ∧
    Merges s (.vfmax m) m.ty m.a m.msk (fun k =>
      fl m.ty (fMinMax (Ty.fmt m.ty) true (src s m.ty m.b k).toNat (src s m.ty m.c k).toNat)) ∧
    Merges s (.vfabs u) u.ty u.a u.msk (fun k =>
      if nanLane s u k then fl u.ty (qnan (Ty.fmt u.ty)) else src s u.ty u.b k &&& ~~~bot _) ∧
    Merges s (.vfneg u) u.ty u.a u.msk (fun k =>
      if nanLane s u k then fl u.ty (qnan (Ty.fmt u.ty)) else src s u.ty u.b k ^^^ bot _) ∧
    Merges s (.vrcp r) r.ty r.a r.msk (fun k =>
      fl r.ty (roundF (Ty.fmt r.ty) r.rnd r.sat (Machine.Num.div (Machine.Num.ofInt 1) (v k)).1).bits) ∧
    Merges s (.vrsq r) r.ty r.a r.msk (fun k =>
      fl r.ty (roundF (Ty.fmt r.ty) r.rnd r.sat (Machine.Num.rsqrt (v k))).bits) ∧
    Merges s (.vexp t) t.ty t.a t.msk (fun k => fl t.ty (satInf fmt32 t.sat (expTab (e k)))) ∧
    Merges s (.vlog2 t) t.ty t.a t.msk (fun k => fl t.ty (satInf fmt32 t.sat (log2Tab (e k)))) ∧
    (wd = ws → Merges s (.vfcvt c) c.dt c.a c.msk conv) ∧
    (ws < wd → Merges s (.vfcvt c) c.dt c.a c.msk (fun k => conv (part * n + k))) ∧
    (wd < ws → Lanes s (.vfcvt c) c.dt c.a (fun k =>
      if part * n ≤ k ∧ k < part * n + n ∧ on s c.msk (k - part * n) then conv (k - part * n) else lane s c.dt c.a k))

namespace Sys2Proof.Spec

/-- A well-formed instruction sends a mask of a type's lane count on its way; higher bits are zero (R237). -/
def MaskMerges (s : State) (i : Instr) (ty : Ty) (a : RegSpec) (msk : BitVec 3) (f : Nat → Bool) : Prop :=
  i.wf = true → ∃ v : Word, Delivers s i a v.toNat 0 ∧
    ∀ k, k < 64 → v.getLsbD k = (decide (k < nl ty) && if on s msk k then f k else (s.rd a).getLsbD k)

/-- The active lanes of a source, in lane order. -/
def actives (s : State) (ty : Ty) (r : RegSpec) (msk : BitVec 3) (n : Nat) : List (BitVec (Ty.width ty)) :=
  ((List.range n).filter (on s msk)).map (src s ty r)

end Sys2Proof.Spec

/-- R251 to R253: the compare and permute instructions. Completes: VCMP, VFCMP, VSEL, VPERM, VBCAST, VEXTR, VINS,
VSLIDE, VCOMP, VIOTA. -/
def Obligations.VectorCompareSelect : Prop :=
  ∀ (s : State) (c : VcmpR) (x : V3) (b : VbcastR) (y : T3) (d : VslideR) (u : V2) (o : ViotaR),
    let j := (s.rd y.c).toNat
    let e := if j < nl y.ty then src s y.ty y.b j else 0
    let sh := (s.rd d.c).toNat
    let from_ := fun k => if k < nl d.ty then src s d.ty d.b k else if k < 2 * nl d.ty then src s d.ty d.d (k - nl d.ty) else 0
    let F := Ty.fmt c.ty
    MaskMerges s (.vcmp c) c.ty c.a c.msk (fun k => cond c.cond (src s c.ty c.b k) (src s c.ty c.c k)) ∧
    MaskMerges s (.vfcmp c) c.ty c.a c.msk (fun k =>
      fCond c.cond (decodeF F (src s c.ty c.b k).toNat) (decodeF F (src s c.ty c.c k).toNat)) ∧
    Lanes s (.vsel x) x.ty x.a (fun k => if on s x.msk k then src s x.ty x.b k else src s x.ty x.c k) ∧
    Merges s (.vperm x) x.ty x.a x.msk (fun k =>
      if (src s x.ty x.c k).toNat < nl x.ty then src s x.ty x.b (src s x.ty x.c k).toNat else 0) ∧
    Merges s (.vbcast b) b.ty b.a b.msk (fun _ =>
      if b.b.isV ∧ nl b.ty ≤ b.lane.toNat then 0 else src s b.ty b.b b.lane.toNat) ∧
    ((Instr.vextr y).wf = true →
      Delivers s (.vextr y) y.a (if Ty.signed y.ty then (e.signExtend 64).toNat else e.toNat) 0) ∧
    Lanes s (.vins y) y.ty y.a (fun k => if k = j then low s y.ty y.b else lane s y.ty y.a k) ∧
    Merges s (.vslide d) d.ty d.a d.msk (fun k =>
      if d.up then
        (if sh ≤ k then src s d.ty d.b (k - sh) else if sh ≤ nl d.ty + k then src s d.ty d.d (nl d.ty + k - sh) else 0)
      else from_ (k + sh)) ∧
    Lanes s (.vcomp u) u.ty u.a (fun k => (actives s u.ty u.b u.msk (nl u.ty)).getD k 0) ∧
    Lanes s (.viota o) o.ty o.a (fun k => BitVec.ofNat _ ((List.range k).countP (on s o.msk)))

namespace Sys2Proof.Spec

/-- `r` is the reduction of a list of lanes (R255), said for each operation without a fold. -/
def Reduces {ty : Ty} (op : RedOp) (l : List (BitVec (Ty.width ty))) (r : BitVec (Ty.width ty)) : Prop :=
  match op with
  | .add => r = BitVec.ofNat _ (l.map BitVec.toNat).sum
  | .min => (∀ v ∈ l, byType ty r ≤ byType ty v) ∧ (r ∈ l ∨ l = [] ∧ r = if Ty.signed ty then top _ else BitVec.allOnes _)
  | .max => (∀ v ∈ l, byType ty v ≤ byType ty r) ∧ (r ∈ l ∨ l = [] ∧ r = if Ty.signed ty then bot _ else 0)
  | .and => ∀ k, k < Ty.width ty → (r.getLsbD k = true ↔ ∀ v ∈ l, v.getLsbD k = true)
  | .or => ∀ k, (r.getLsbD k = true ↔ ∃ v ∈ l, v.getLsbD k = true)
  | .xor => ∀ k, (r.getLsbD k = true ↔ (l.countP (·.getLsbD k)) % 2 = 1)

/-- One float operation of a reduction, and its value over no lanes (R256). -/
def redStep (op : RedOp) (ty : Ty) (rnd : Rnd) (p q : Nat) : Nat :=
  match op with
  | .min => fMinMax (Ty.fmt ty) false p q
  | .max => fMinMax (Ty.fmt ty) true p q
  | _ => (fArith .add (Ty.fmt ty) rnd false p q 0).bits

/-- The value over no lanes: +0, +inf or -inf (R256). -/
def redNone (op : RedOp) (ty : Ty) : Nat :=
  match op with
  | .min => infBits (Ty.fmt ty) false
  | .max => infBits (Ty.fmt ty) true
  | _ => 0

/-- The value at place `i` of level `k` of R256's tree: an empty half takes the other. -/
def treeAt (f : Nat → Nat → Nat) (t : Nat → Option Nat) : Nat → Nat → Option Nat
  | 0, i => t i
  | k + 1, i =>
    match treeAt f t k (2 * i), treeAt f t k (2 * i + 1) with
    | none, q => q
    | p, none => p
    | some p, some q => some (f p q)

/-- One running value over lanes in order (R257). -/
def running (f : Nat → Nat → Nat) : List Nat → Option Nat
  | [] => none
  | v :: l => some (l.foldl f v)

/-- A float result canonical, and finite with SAT (R256). -/
def canonSat (ty : Ty) (sat : Bool) (v : Nat) : Nat :=
  match decodeF (Ty.fmt ty) v with
  | .nan => qnan (Ty.fmt ty)
  | .inf n => if sat then maxBits (Ty.fmt ty) n else v
  | _ => v

/-- Whether a lane value is the larger, by type (R258). -/
def larger (ty : Ty) (p q : BitVec (Ty.width ty)) : Prop :=
  if Ty.isF6 ty then fCond .gt (decodeF (Ty.fmt ty) p.toNat) (decodeF (Ty.fmt ty) q.toNat) = true else byType ty q < byType ty p

end Sys2Proof.Spec

/-- R254 to R258: an integer reduction or scan gives the sum, least, greatest, conjunction, disjunction or parity of
the lanes that take part; a float reduction follows the pairwise tree and a float scan one running value; VARGMAX
finds the first active lane that no other exceeds. Completes: VRED, VFRED, VSCAN, VFSCAN, VARGMAX. -/
def Obligations.ReductionsAndScans : Prop :=
  ∀ (s : State) (x : VredR) (y : VfredR) (z : VscanR) (f : VfscanR) (g : V3),
    ((Instr.vred x).wf = true → ∃ r : BitVec (Ty.width x.ty),
      Reduces x.op (actives s x.ty x.b x.msk (nl x.ty)) r ∧
      Delivers s (.vred x) x.a (if Ty.signed x.ty then (r.signExtend 64).toNat else r.toNat) 0) ∧
    ((Instr.vfred y).wf = true → Delivers s (.vfred y) y.a (canonSat y.ty y.sat
      ((treeAt (redStep y.op y.ty y.rnd) (fun k => if on s y.msk k then some (src s y.ty y.b k).toNat else none)
        (Nat.log2 (nl y.ty)) 0).getD (redNone y.op y.ty))) 0) ∧
    ((Instr.vscan z).wf = true → ∃ v : Vec, Delivers s (.vscan z) z.a v.toNat 0 ∧ ∀ k, k < nl z.ty →
      let r := v.extractLsb' (Ty.width z.ty * k) (Ty.width z.ty)
      if on s z.msk k then Reduces z.op (actives s z.ty z.b z.msk (if z.ex then k else k + 1)) r else r = lane s z.ty z.a k) ∧
    Merges s (.vfscan f) f.ty f.a f.msk (fun k => fl f.ty (canonSat f.ty f.sat
      ((running (redStep f.op f.ty f.rnd) ((actives s f.ty f.b f.msk (if f.ex then k else k + 1)).map BitVec.toNat)).getD
        (redNone f.op f.ty)))) ∧
    ((Instr.vargmax g).wf = true →
      let v := src s g.ty g.b
      let part := fun k => k < nl g.ty ∧ on s g.msk k = true ∧
        (Ty.isF6 g.ty = true → (decodeF (Ty.fmt g.ty) (v k).toNat).isNan = false)
      ((∀ k, ¬ part k) → Delivers s (.vargmax g) g.a (2 ^ 64 - 1) 0) ∧
      ∀ k, part k → (∀ j, part j → ¬ larger g.ty (v j) (v k) ∧ (j < k → larger g.ty (v k) (v j))) →
        Delivers s (.vargmax g) g.a (s.rd g.c + BitVec.ofNat 64 k).toNat 0)

namespace Sys2Proof.Spec

/-- A well-formed instruction completes in one cycle with a mask in its register; m0 reads all ones still (R41). -/
def MaskGives (s : State) (i : Instr) (ty : Ty) (a : RegSpec) (f : Nat → Bool) : Prop :=
  i.wf = true → ∃ t, exec i s = .next t ∧ Done s t [a] ∧
    ∀ k, k < 64 → (readReg t.gt t.b a).getLsbD k = (a == 0x80#8 || decide (k < nl ty) && f k)

end Sys2Proof.Spec

/-- R237 and R259: the mask instructions work on the bits of the type's lanes and leave the others zero; a write to
m0 is ignored. Completes: MAND, MOR, MXOR, MNOT, MPOPC, MFIRST, MSET, MGET. -/
def Obligations.MaskRegisterResults : Prop :=
  ∀ (s : State) (x : T3) (y : T2),
    let p := (s.rd x.b).getLsbD
    let q := (s.rd x.c).getLsbD
    let u := (s.rd y.b).getLsbD
    let v : Word := s.rd y.b &&& BitVec.ofNat 64 (2 ^ nl y.ty - 1)
    MaskGives s (.mand x) x.ty x.a (fun k => p k && q k) ∧
    MaskGives s (.mor x) x.ty x.a (fun k => p k || q k) ∧
    MaskGives s (.mxor x) x.ty x.a (fun k => p k != q k) ∧
    MaskGives s (.mnot y) y.ty y.a (fun k => !u k) ∧
    MaskGives s (.mset y) y.ty y.a u ∧
    ((Instr.mpopc y).wf = true → Gives s (.mpopc y) y.a (BitVec.ofNat 64 (ones v))) ∧
    ((Instr.mget y).wf = true → Gives s (.mget y) y.a v) ∧
    ((Instr.mfirst y).wf = true → ∃ n, n ≤ nl y.ty ∧ (∀ k, k < n → u k = false) ∧ (n < nl y.ty → u n = true) ∧
      Gives s (.mfirst y) y.a (BitVec.ofNat 64 n))

/-! ## Loads and stores as they leave the cell (03, 04, 06, 07) -/

namespace Sys2Proof.Spec

/-- The banks other than the executing one are as before. -/
def BanksKept (s t : State) : Prop := ∀ c hi, (c ≠ s.cur.cell ∨ hi ≠ s.cur.hi) → t.bank c hi = s.bank c hi

/-- The executing instruction has completed without a transfer: no byte of memory, no other bank and none of its
own registers but those listed and the flow registers have changed. Caches, counters and what is on its way may
have. -/
def Ran (s t : State) (rs : List RegSpec) : Prop :=
  OthersKept s t ∧ BanksKept s t ∧ MemKept s t ∧ RegsKept s t (rs ++ flowRegs) ∧ Advances s t

/-- The executing instruction waits: its registers and memory are as before, and it is at pc still. -/
def Waits (s t : State) : Prop := BanksKept s t ∧ MemKept s t ∧ RegsKept s t [] ∧ t.b.pc = s.b.pc

/-- What the executing cell sends next. -/
def flight (s : State) (k : Nat) (f : Flight) : Fly := { n := s.serial + k, cell := s.cur.cell, f := f }

/-- The effective address of R35. -/
def address (s : State) (m : MemRef) : Nat := (s.rd m.base + (s.rd m.idx <<< m.sh.toNat) + m.off.signExtend 64).toNat

/-- A translation that the cell holds, of a page of at least 4 KiB, and that allows the access: 0 a read, 1 a write,
2 both (R60, R65, R66, R71, R72). -/
def Translated (s : State) (ea kind : Nat) (e : TlbEnt) : Prop :=
  ea < 2 ^ 57 ∧ 12 ≤ e.size ∧ e.frame % 4096 = 0 ∧ tlbFind (s.cell s.cur.cell).tlb s.asid ea = some e ∧ (kind = 0 ∨ kind = 2 → e.read = true) ∧
    (kind = 1 ∨ kind = 2 → e.write = true ∧ e.dirty = true)

/-- Where an aligned access of `n` bytes goes, none of the checks of R104 failing (R95, R96). -/
def Place (s : State) (sp : Space) (ea n kind : Nat) (p : Spot) : Prop :=
  match sp with
  | .g => ea % n = 0 ∧ ∃ e, Translated s ea kind e ∧ (kind = 0 ∨ kind = 2 → e.ue = false) ∧ (kind = 2 → e.mtype ≠ 2) ∧
      p = { loc := if e.mtype = 2 then .host (e.frame + ea % 2 ^ e.size) else .home (e.frame + ea % 2 ^ e.size),
            mt := e.mtype, sp := 0, key := ea }
  | .l => ea < 2 ^ 18 ∧ ea % n = 0 ∧ p = padSpot s.cur.cell s.cur.cell ea
  | .c => ea < 2 ^ 22 ∧ ea % n = 0 ∧ inRect s.myLr (cellIn (gcluOf s.cur.cell) (ea / 2 ^ 18)) = true ∧
      p = padSpot s.cur.cell (cellIn (gcluOf s.cur.cell) (ea / 2 ^ 18)) (ea % 2 ^ 18)
  | .d => ea < 2 ^ 28 ∧ ea % n = 0 ∧ inRect s.myLr (cellAt (dieOf s.cur.cell) (ea / 2 ^ 18)) = true ∧
      p = padSpot s.cur.cell (cellAt (dieOf s.cur.cell) (ea / 2 ^ 18)) (ea % 2 ^ 18)
  | .s => ea < 2 ^ 40 ∧ p = { loc := .hearth (ea / 2 ^ 23) (ea % 2 ^ 23) }

/-- No set that the task has declared and does not hold is touched (R165). -/
def Untouched (s : State) (p : Spot) (n : Nat) : Prop := ∀ e ∈ s.slots, e.2.held = true ∨ touches p n e.2 = false

/-- A release of the task is complete: it has been made, and all that it waits for has been answered (R90, R146). -/
def Released (s : State) : Prop :=
  ∃ k m, s.b.task = some k ∧ k.rel = some m ∧ ∀ f ∈ s.fly, f.n < m → relFlight (s.l1Cells s.cur.cell) s.cur.cell k.act f.f = false

/-- The dirty lines of the cell's L1, in a fused cluster of all sixteen slices, whose tag is below a scope are on their way
home and clean (R90 step 1). -/
def WrittenBack (s t : State) (sc : Scope) : Prop :=
  ∀ h ∈ s.l1Cells s.cur.cell, ∀ l ∈ (s.cell h).l1, l.dirty ≠ 0 → Scope.lt (if l.clus then .clus else .cell) sc = true →
    (∃ f ∈ t.fly, ∃ a, f.f = .access a ∧ a.loc = .home l.pa ∧ a.op = .store l.data l.dirty 2) ∧
      { l with dirty := 0 } ∈ (t.cell h).l1 ∧ l ∉ (t.cell h).l1

/-- An instruction whose release has not begun: while an earlier load of its task has not returned nothing happens; then
the dirty lines go home, and the instruction waits for them and for the accesses that the release covers (R90, R146). -/
def StartsRelease (s : State) (i : Instr) (sc : Scope) : Prop :=
  ∀ k, s.b.task = some k → k.rel = none →
    ((∃ f ∈ s.fly, f.n < s.serial ∧ loadOf k.act f.f = true) → exec i s = .next s) ∧
    ((∀ f ∈ s.fly, f.n < s.serial → loadOf k.act f.f = false) →
      ((∃ f ∈ s.fly, f.n < s.serial ∧ relFlight (s.l1Cells s.cur.cell) s.cur.cell k.act f.f = true) ∨
        ∃ h ∈ s.l1Cells s.cur.cell, ∃ l ∈ (s.cell h).l1, l.dirty ≠ 0 ∧ Scope.lt (if l.clus then .clus else .cell) sc = true) →
      ∃ t, exec i s = .next t ∧ Waits s t ∧ WrittenBack s t sc)

/-- The L1s that an acquire of a cell at a scope empties of clean lines (R91, R93). -/
def Discards (s : State) (c : Nat) (sc : Scope) (h : Nat) : Prop :=
  if s.fused c = true then (sc = .die ∨ sc = .pkg ∨ sc = .sys) ∧ ∃ j, j < 16 ∧ h = cellIn (gcluOf c) j else sc ≠ .cell ∧ h = c

/-- Byte `k` of a little-endian number (R4). -/
def byteAt (v k : Nat) : Nat := v / 256 ^ k % 256

/-- The byte that the task's commit buffer holds of a place (R175). -/
def buffered (b : Bank) (p : Spot) (k : Nat) : Option Nat :=
  if p.sp = 2 then none
  else (commitFind b.commit p).bind (fun x =>
    if x.mask.testBit (p.key % 64 + k) then some (byteAt x.data (p.key % 64 + k)) else none)

/-- The byte that the cell itself supplies: buffered, or dirty in the L1 (R88, R105, R175). -/
def supplied (s : State) (p : Spot) (k : Nat) : Option Nat :=
  (buffered s.b p k).or
    (match p.loc with
     | .home pa => if p.mt = 0 then (s.l1Look s.cur.cell pa).bind (fun x =>
         if x.dirty.testBit (pa % 64 + k) then some (byteAt x.data (pa % 64 + k)) else none) else none
     | _ => none)

/-- The scope of a load: at least die inside a held set (R175). -/
def loadScope (s : State) (p : Spot) (n : Nat) (sc : Scope) : Scope :=
  if s.inHeld p n ∧ (sc = .cell ∨ sc = .clus) then .die else sc

/-- What a load of type 0 at cell or clus scope that the L1 does not serve does with its line: hints normal and keep
place it, and strm and byp merge it into a line that is present (R88, R105). -/
def lineUse (s : State) (p : Spot) (sc : Scope) (hint : Hint) : Fill :=
  match p.loc with
  | .home pa =>
    if p.mt = 0 ∧ (sc = .cell ∨ sc = .clus) then
      (if hint = .normal then .line else if hint = .keep then .keep
       else if (s.l1Look s.cur.cell pa).isSome then .merge else .none)
    else .none
  | _ => .none

/-- The KIND of the ring entry of a plain store: 2 for a write-through of type 0, else 0 (R89, R99). -/
def storeKind (p : Spot) : Nat :=
  match p.loc with
  | .home _ => if p.mt = 0 then 2 else 0
  | _ => 0

/-- The L1 serves a load: the line is there, and every byte of it is valid (R87, R88, R105). -/
def InL1 (s : State) (p : Spot) (sc : Scope) (n : Nat) (l : L1Line) : Prop :=
  p.mt = 0 ∧ (sc = .cell ∨ sc = .clus) ∧ ∃ pa, p.loc = .home pa ∧ s.l1Look s.cur.cell pa = some l ∧
    ∀ k, k < n → l.valid.testBit (pa % 64 + k) = true

end Sys2Proof.Spec

/-- R91, R105, R106, R175, R261 and R422: a load whose checks hold is served by the L1, each byte from the commit buffer or the
line, or is sent to its serialisation point with the bytes that the cell supplies, its register pending. Memory and
every other register are as before. One that would take a poisoned byte from the L1 or the buffer raises MEM.UE. An
LDA that the L1 serves acquires at once, and one that is sent when its answer is there (AnswersReturn). A
prefetch changes no register and always completes. Completes: LD, LDA, PF, VLD.
Where the rules leave a point open the statement follows the model's choices of log 80. -/
def Obligations.LoadsLeaveTheCell : Prop :=
  ∀ (s : State) (x : MemR) (y : PfR),
    (∃ t, exec (.pf y) s = .next t ∧ RegsKept s t flowRegs ∧ BanksKept s t ∧ Advances s t) ∧
    ∀ (p : Spot), ∀ f ∈ [(Instr.ld x, Ty.width x.ty / 8, Ret.reg x.a x.ty, none),
        (.lda x, Ty.width x.ty / 8, Ret.reg x.a x.ty, some x.sc), (.vld x, 64, Ret.vec x.a, none)],
      let i := f.1
      let n := f.2.1
      let sc := loadScope s p n x.sc
      i.wf = true → Place s x.sp (address s x.m) n 0 p → Untouched s p n →
      (s.localBad p (s.loadScope p x.sc n) n = true →
        exec i s = .next (s.trap .memUe (address s x.m) (p.loc.uePlace * 2 ^ 56))) ∧
      (s.localBad p (s.loadScope p x.sc n) n = false → (∀ l pa, InL1 s p sc n l → p.loc = .home pa → ∃ t v, exec i s = .next t ∧ Ran s t [x.a] ∧ v < 256 ^ n ∧
        (∀ k, k < n → byteAt v k = (buffered s.b p k).getD (byteAt l.data (pa % 64 + k))) ∧
        (∀ a, f.2.2.2 = some a → ∀ h, Discards s s.cur.cell a h → ∀ y ∈ (t.cell h).l1, y.dirty ≠ 0) ∧
        (match f.2.2.1 with
         | .vec _ => readVec t.b x.a = BitVec.ofNat 512 v
         | _ => Holds t x.a (extLoad x.ty v))) ∧
      ((∀ l, ¬ InL1 s p sc n l) → ∃ t mask data, exec i s = .next t ∧ Ran s t [] ∧ (x.a ≠ 0#8 → x.a ∈ t.b.pend) ∧
        (∀ k, k < n → mask.testBit k = (supplied s p k).isSome) ∧
        (∀ k v, k < n → supplied s p k = some v → byteAt data k = v) ∧
        t.fly = s.fly ++ [flight s 0 (.access { s.acc (address s x.m) p.loc n
          (.load f.2.2.1 (lineUse s p sc x.hint)) with
          ovMask := mask, ovData := data, acq := f.2.2.2, unc := p.mt != 0 })]))

namespace Sys2Proof.Spec

/-- A line after a store of `n` bytes at an offset: those bytes have the data and are dirty or clean, the others are
as they were; an absent line has no other byte. -/
def LineTakes (old : Option L1Line) (l : L1Line) (off n data : Nat) : Prop :=
  (∀ k, k < n → l.valid.testBit (off + k) = true ∧ byteAt l.data (off + k) = byteAt data k) ∧
    ∀ k, k < 64 → (k < off ∨ off + n ≤ k) →
      l.valid.testBit k = ((old.map (fun (o : L1Line) => o.valid)).getD 0).testBit k ∧
        (∀ o, old = some o → o.valid.testBit k = true ∨ o.dirty.testBit k = true → byteAt l.data k = byteAt o.data k)

/-- What a store of the task does at its place, and nothing more but the registers listed: the commit buffer of a
holder, the L1 at cell scope or in a fused cluster, a write on its way otherwise, which carries the line's dirty bytes
with it (R89, R94, R109, R174). -/
def Stored (s t : State) (rs : List RegSpec) (p : Spot) (sc : Scope) (hint : Hint) (ea n data kind : Nat) : Prop :=
  let kind := if kind = 0 then storeKind p else kind
  let plain := Flight.access { s.acc ea p.loc n (.store data (2 ^ n - 1) kind) with unc := p.mt != 0 }
  let sc := if (sc = .cell ∨ sc = .clus) ∧ (hint = .strm ∨ hint = .byp) then Scope.die else sc
  Ran s t rs ∧
    if s.holder = true ∧ s.inFrame p = false then
      t.fly = s.fly ∧ (∀ k, k < n → buffered t.b p k = some (byteAt data k)) ∧
        ∀ q k, (q.sp == 1) = (p.sp == 1) → q.sp ≠ 2 → (q.line ≠ p.line ∨ q.key % 64 + k < p.key % 64 ∨ p.key % 64 + n ≤ q.key % 64 + k) →
          buffered t.b q k = buffered s.b q k
    else
      match p.loc with
      | .home pa =>
        let old := s.l1Look s.cur.cell pa
        if p.mt ≠ 0 then t.fly = s.fly ++ [flight s 0 plain]
        else if sc = .cell ∨ sc = .clus ∧ s.fused s.cur.cell = true then
          ∃ l, t.l1Look s.cur.cell pa = some l ∧ LineTakes old l (pa % 64) n data ∧
            ∀ k, k < 64 → l.dirty.testBit k =
              (decide (pa % 64 ≤ k) && decide (k < pa % 64 + n) || ((old.map (fun (o : L1Line) => o.dirty)).getD 0).testBit k)
        else
          match old with
          | none => t.fly = s.fly ++ [flight s 0 plain]
          | some x => ∃ l, t.l1Look s.cur.cell pa = some l ∧ LineTakes old l (pa % 64) n data ∧ l.dirty = 0 ∧
              (x.dirty = 0 → ∃ f ∈ t.fly, f.f = .access { s.acc ea p.loc n (.store data (2 ^ n - 1) kind) with carry := true }) ∧
              (x.dirty ≠ 0 → ∃ f ∈ t.fly, ∃ d m bad,
                f.f = .access { s.acc ea (.home (pa / 64 * 64)) 64 (.store d m kind) with bad := bad, carry := true } ∧
                (x.bad = 0 → bad = 0) ∧ ∀ k, k < 64 → m.testBit k = (decide (pa % 64 ≤ k) && decide (k < pa % 64 + n) || x.dirty.testBit k) ∧
                  (m.testBit k = true → byteAt d k = byteAt l.data k))
      | _ => t.fly = s.fly ++ [flight s 0 plain]

/-- A holder's store has a place in its commit buffer (R174). -/
def HasRoom (s : State) (p : Spot) : Prop :=
  s.holder = true ∧ s.inFrame p = false → p.sp ≠ 2 ∧ p.mt ≠ 2 ∧ ((commitFind s.b.commit p).isSome ∨ s.b.commit.length < 128)

end Sys2Proof.Spec

/-- R109, R110, R113, R174 and R260: a store whose checks hold completes with the low bytes of its register, or 64 zero
bytes on its line, or a vector, at its place; STL once its release is complete, which begins by sending the dirty lines home, an STL to state space that R104 does
not allow raising its cause before any release. No byte of memory changes before the write arrives. Completes: ST,
STL, CZERO, VST.
Where the rules leave a point open the statement follows the model's choices of log 78. -/
def Obligations.StoresLeaveTheCell : Prop :=
  ∀ (s : State) (x : MemR) (z : CzeroR) (p : Spot),
    let n := Ty.width x.ty / 8
    let ea := address s x.m
    let data := (s.rd x.a).toNat % 2 ^ Ty.width x.ty
    (Place s x.sp ea n 1 p → Untouched s p n → HasRoom s p →
      ((Instr.st x).wf = true → ∃ t, exec (.st x) s = .next t ∧ Stored s t [] p x.sc x.hint ea n data 0) ∧
      ((Instr.stl x).wf = true → (x.sp = .s → s.stateCause s.gid s.asid ea n true = none) → Released s →
        ∃ t, exec (.stl x) s = .next t ∧ Stored s t [] p x.sc x.hint ea n data 1) ∧
      ((Instr.stl x).wf = true → (x.sp = .s → s.stateCause s.gid s.asid ea n true = none) → StartsRelease s (.stl x) x.sc)) ∧
    (Place s x.sp ea n 1 p → Untouched s p n → (Instr.stl x).wf = true → x.sp = .s →
      ∀ e, s.stateCause s.gid s.asid ea n true = some e → exec (.stl x) s = .next (s.trap e.1 ea e.2)) ∧
    ((Instr.vst x).wf = true → Place s x.sp ea 64 1 p → Untouched s p 64 → HasRoom s p →
      ∃ t, exec (.vst x) s = .next t ∧ Stored s t [] p x.sc x.hint ea 64 (readVec s.b x.a).toNat 0) ∧
    ((Instr.czero z).wf = true → Place s z.sp (address s z.m) 1 1 p → Untouched s p.toLine 64 → HasRoom s p.toLine →
      ∃ t, exec (.czero z) s = .next t ∧ Stored s t [] p.toLine z.sc .normal (address s z.m) 64 0 6)

/-- R104: a load or store whose address does not fit its space, names a cell outside the grid, is misaligned or
lacks permission raises the cause, in that order, with the effective address; a missing translation and a leaf to
be marked dirty make it wait. -/
def Obligations.AddressChecks : Prop :=
  ∀ (s : State) (x : MemR),
    let n := Ty.width x.ty / 8
    let ea := address s x.m
    ∀ f ∈ [(Instr.ld x, 0), (.lda x, 0), (.st x, 1), (.stl x, 1)],
      let i := f.1
      let kind := f.2
      let bits := match x.sp with | .l => 18 | .c => 22 | .d => 28 | _ => 40
      let cell := match x.sp with | .c => cellIn (gcluOf s.cur.cell) (ea / 2 ^ 18) | _ => cellAt (dieOf s.cur.cell) (ea / 2 ^ 18)
      i.wf = true →
      (x.sp ≠ .g → 2 ^ bits ≤ ea → exec i s = .next (s.trap .addrRange ea 0)) ∧
      (x.sp = .g → 2 ^ 57 ≤ ea → exec i s = .next (s.trap .xltCanon ea (xltDetail 15 kind 0))) ∧
      (x.sp = .c ∨ x.sp = .d → ea < 2 ^ bits → inRect s.myLr cell = false → exec i s = .next (s.trap .addrGrid ea 0)) ∧
      (x.sp = .c ∨ x.sp = .d → ea < 2 ^ bits → inRect s.myLr cell = true → ea % n ≠ 0 → exec i s = .next (s.trap .memAlign ea 0)) ∧
      (x.sp = .l → ea < 2 ^ bits → ea % n ≠ 0 → exec i s = .next (s.trap .memAlign ea 0)) ∧
      (x.sp = .g → ea < 2 ^ 57 → ea % n ≠ 0 → exec i s = .next (s.trap .memAlign ea 0)) ∧
      (x.sp = .g → ea < 2 ^ 57 → ea % n = 0 → ∀ e, tlbFind (s.cell s.cur.cell).tlb s.asid ea = some e →
        (kind = 0 → e.read = false → exec i s = .next (s.trap .xltPerm ea (xltDetail e.level 0 (e.leafAt ea)))) ∧
        (kind = 1 → e.write = false → exec i s = .next (s.trap .xltPerm ea (xltDetail e.level 1 (e.leafAt ea)))) ∧
        (kind = 0 → e.read = true → e.ue = true → exec i s = .next (s.trap .memUe ea (4 * 2 ^ 56))) ∧
        (kind = 1 → e.write = true → e.dirty = false → ∃ t, exec i s = .next t ∧ Waits s t)) ∧
      (x.sp = .g → ea < 2 ^ 57 → ea % n = 0 → tlbFind (s.cell s.cur.cell).tlb s.asid ea = none →
        (∀ k, s.b.task = some k → tlbFind k.xheld s.asid ea = none) → ∃ t, exec i s = .next t ∧ Waits s t)

/-- R157 to R160 and R176: an atomic outside every declared set writes the dirty bytes of its line home, drops the
line and is sent to its serialisation point, after its release where its ordering has one; one that releases and meets
poison raises MEM.UE with no release. Inside a held set it acts on the task's own bytes, and its register holds the old
value. Completes: AMO, CAS, AMOF. -/
def Sys2Proof.Spec.AtomicsAreSent : Prop :=
  ∀ (s : State) (x : AmoR) (p : Spot),
    let n := Ty.width x.ty / 8
    let ea := (s.rd x.b + x.off.signExtend 64).toNat
    let c := (s.rd x.c).toNat % 2 ^ Ty.width x.ty
    ∀ f ∈ [(Instr.amo x, AOp.atomic x.op x.ty c x.a), (.cas x, .cas x.ty c ((s.rd x.a).toNat % 2 ^ Ty.width x.ty) x.a),
        (.amof x, .amof x.op x.ty c x.a)],
      let i := f.1
      let op := f.2
      i.wf = true → Place s x.sp ea n 2 p → Untouched s p n →
      (s.holder = false → x.ord = .rel ∨ x.ord = .ar → s.atomicBad p n = true → s.writing p = false →
        exec i s = .next (s.trap .memUe ea (p.loc.uePlace * 2 ^ 56))) ∧
      (s.holder = false → x.ord = .rel ∨ x.ord = .ar → s.writing p = true → exec i s = .next s) ∧
      (s.holder = false → x.ord = .rel ∨ x.ord = .ar → s.atomicBad p n = false → s.writing p = false → StartsRelease s i x.sc) ∧
      (s.holder = false → (x.ord = .rel ∨ x.ord = .ar → s.atomicBad p n = false ∧ s.writing p = false ∧ Released s) →
        ∃ t wb, exec i s = .next t ∧ Ran s t [] ∧ (x.a ≠ 0#8 → x.a ∈ t.b.pend) ∧
          t.fly = s.fly ++ wb ++ [flight s wb.length (.access { s.acc ea p.loc n op with
            acq := if x.ord = .acq ∨ x.ord = .ar then some x.sc else none, unc := p.mt != 0 })] ∧
          (∀ pa, p.loc = .home pa → p.mt = 0 → t.l1Look s.cur.cell pa = none) ∧
          (wb = [] ∨ ∃ w a l pa, wb = [w] ∧ p.loc = .home pa ∧ p.mt = 0 ∧ s.l1Look s.cur.cell pa = some l ∧ l.dirty ≠ 0 ∧
            w.f = .access a ∧ a.loc = .home l.pa ∧ a.op = .store l.data l.dirty 2) ∧
          (∀ pa l, p.loc = .home pa → p.mt = 0 → s.l1Look s.cur.cell pa = some l → l.dirty ≠ 0 → wb ≠ [])) ∧
      (s.inHeld p n = true → s.bad p.loc.key n = false → s.localBad p .die n = false → (s.heldTake p n).isSome = true → (commitFind s.b.commit p).isSome ∨ s.b.commit.length < 128 →
        (∀ f ∈ s.fly, ∀ a, f.f.acc? = some a → a.cell = s.cur.cell → sameLine a.loc p.loc = false) →
        ∃ t old, exec i s = .next t ∧ Ran s t [x.a] ∧ t.fly = s.fly ∧ old < 256 ^ n ∧
          (∀ k, k < n → byteAt old k = (supplied s p k).getD (memGet s.mem (p.loc.key + k)).toNat) ∧
          Holds t x.a (extLoad x.ty old) ∧
          ∀ new, op.newVal old = some new → ∀ k, k < n → buffered t.b p k = some (byteAt new k)) ∧
      (s.inHeld p n = true → s.localBad p .die n = true →
        (∀ f ∈ s.fly, ∀ a, f.f.acc? = some a → a.cell = s.cur.cell → sameLine a.loc p.loc = false) →
        exec i s = .next (s.trap .memUe ea (p.loc.uePlace * 2 ^ 56))) ∧
      (s.holder = true → s.inHeld p n = false → exec i s = .next (s.trap .asetIrrev ea 0))

/-- R159: what an atomic writes of the old value and of its operand, at the width of its type: AMO their wrapped sum, the
smaller or larger as signed or unsigned numbers, their bitwise and, or and exclusive or, or the operand; CAS its new value
when the old one is the expected one, and nothing otherwise; AMOF their sum rounded to nearest even, with the rules of
FloatArithmetic for what is no number, or the smaller or larger, a NaN giving way, as FloatArithmetic has FMIN and FMAX. -/
def Sys2Proof.Spec.AtomicValues : Prop :=
  (∀ (ty : Ty) (old c v : Nat) (dst : RegSpec),
    let w := Ty.width ty
    let sgn := fun x => (BitVec.ofNat w x).toInt
    let new := fun op => AOp.newVal (.atomic op ty c dst) old
    ty ∈ [Ty.i32, .n32, .i64, .n64] → old < 2 ^ w → c < 2 ^ w →
      new .add = some (if old + c < 2 ^ w then old + c else old + c - 2 ^ w) ∧
      new .min = some (if sgn c < sgn old then c else old) ∧ new .max = some (if sgn old < sgn c then c else old) ∧
      new .minn = some (if c < old then c else old) ∧ new .maxn = some (if old < c then c else old) ∧
      (∀ b, ((new .and).map (·.testBit b) = some (old.testBit b && c.testBit b)) ∧
        ((new .or).map (·.testBit b) = some (old.testBit b || c.testBit b)) ∧
        ((new .xor).map (·.testBit b) = some (old.testBit b != c.testBit b))) ∧
      new .swap = some c ∧
      (old = c → AOp.newVal (.cas ty c v dst) old = some v) ∧ (old ≠ c → AOp.newVal (.cas ty c v dst) old = none)) ∧
  ∀ (ty : Ty) (old c : Nat) (dst : RegSpec),
    let F := Ty.fmt ty
    let a := decodeF F old
    let b := decodeF F c
    let new := fun op => AOp.newVal (.amof op ty c dst) old
    ty = .f32 ∨ ty = .f64 → old < 2 ^ F.width → c < 2 ^ F.width →
      new .add = some (fArith .add F .rne false old c 0).bits ∧
      (a.isNan = true ∨ b.isNan = true → new .add = some (qnan F)) ∧
      (a.isInf = true → b.isInf = true → a.neg ≠ b.neg → new .add = some (qnan F)) ∧
      (∀ n, a = .inf n → (b.isInf = true → b.neg = n) → b.isNan = false → new .add = some (infBits F n)) ∧
      (∀ p q, rat a = some p → rat b = some q →
        (∃ x, new .add = some x ∧ x < 2 ^ F.width ∧ Rounds F .rne x (p + q)) ∧
        ∃ x y, new .min = some x ∧ new .max = some y ∧ rat (decodeF F x) = some (if p ≤ q then p else q) ∧
          rat (decodeF F y) = some (if p ≤ q then q else p) ∧
          (p = 0 → q = 0 → (decodeF F x).neg = (a.neg || b.neg) ∧ (decodeF F y).neg = (a.neg && b.neg))) ∧
      ∀ op ∈ [AmoOp.min, .max], (a.isNan = true → new op = some (if b.isNan then qnan F else c)) ∧
        (a.isNan = false → b.isNan = true → new op = some old)

/-- The atomics: the statements AtomicsAreSent, AtomicValues above, together. -/
def Obligations.AtomicsLeaveTheCell : Prop :=
  Sys2Proof.Spec.AtomicsAreSent ∧ Sys2Proof.Spec.AtomicValues

namespace Sys2Proof.Spec

/-- Nothing older of a kind is under way for the wait that the executing instruction has begun, or now begins. -/
def Clear (s : State) (q : Flight → Bool) : Prop :=
  ∀ k, s.b.task = some k → ∀ f ∈ s.fly, f.n < k.rel.getD s.serial → q f.f = false

end Sys2Proof.Spec

/-- R90, R91, R111, R112, R146, R147 and R156: a fence completes: one that only releases at once, one that acquires when the
loads before it have been answered, and a full one when all that its release covers has; until then it waits at its pc. A
full fence begins by sending the dirty lines home. One that releases and has gone on has sent them where no load is under
way, and it is noted until what its release covers has been answered. An acquire at die scope or wider leaves no clean line
in the cell's L1, in a fused cluster in each of its sixteen slices, takes no dirty one, and no line that is on its way there
will be placed; at clus scope it does so in the cell's own L1 where the cluster is not fused. SWF waits for the task's
scratchpad writes and empties the operand cache. CFLUSH sends a line's dirty bytes home and drops it, and CINV drops it
without. Completes: FENCE, SWF, CFLUSH, CINV.
Where the rules leave a point open the statement follows the model's choices of log 67. -/
def Obligations.FencesAndLines : Prop :=
  ∀ (s : State) (x : FenceR) (clus : Bool) (m : MemRef) (e : TlbEnt),
    let slices := Discards s s.cur.cell x.sc
    let back := ∀ f ∈ s.fly, f.n < s.serial → loadOf s.act f.f = false
    let ready := if x.kind = .full then Released s else x.kind = .rel ∨ Clear s (loadOf s.act)
    (ready → ∃ t, exec (.fence x) s = .next t ∧ Ran s t [] ∧
      (x.kind ≠ .rel → ∀ h, slices h → (∀ l ∈ (t.cell h).l1, l.dirty ≠ 0 ∧ l ∈ (s.cell h).l1) ∧
        ∀ f ∈ t.fly, ∀ a d tr, f.f = .reply a d tr → a.cell = h → a.op.wholeLine = false) ∧
      (x.kind = .acq ∨ x.kind = .full → t.fly.length = s.fly.length ∧
        (∀ (j : Nat) (f : Fly), s.fly[j]? = some f → (∀ a d tr, f.f ≠ .reply a d tr) → t.fly[j]? = some f) ∧
        (∀ h, slices h → (t.cell h).l1 = (s.cell h).l1.filter (fun l => l.dirty != 0)) ∧
        (∀ h, ¬ slices h → (t.cell h).l1 = (s.cell h).l1) ∧ ((∀ h, ¬ slices h) → t.fly = s.fly)) ∧
      (x.kind = .rel → (back → WrittenBack s t x.sc) ∧ (¬ back → t.fly = s.fly ∧ ∀ h, (t.cell h).l1 = (s.cell h).l1)) ∧
      (x.kind = .rel ∨ x.kind = .ar → t.fencing s.cur.cell s.act = false →
        back ∧ ∀ f ∈ t.fly, f.n < t.serial → relFlight (s.l1Cells s.cur.cell) s.cur.cell s.act f.f = false)) ∧
    (s.b.task.isSome = true → x.kind = .acq ∨ x.kind = .ar → ¬ ready → ∃ t, exec (.fence x) s = .next t ∧ Waits s t) ∧
    (x.kind = .full → (∀ k r, s.b.task = some k → k.rel = some r → ¬ ready → ∃ t, exec (.fence x) s = .next t ∧ Waits s t) ∧
      StartsRelease s (.fence x) x.sc) ∧
    (Clear s (padStoreOf s.act) → ∃ t, exec (.swf clus) s = .next t ∧ Ran s t [] ∧ t.fly = s.fly ∧
      (clus = false → (t.cell s.cur.cell).opc = []) ∧
      (clus = true → ∀ j, j < 16 → (t.cell (cellIn (gcluOf s.cur.cell) j)).opc = [])) ∧
    (let ea := address s m
     let pa := e.frame + ea % 2 ^ e.size
     ea < 2 ^ 57 → tlbFind (s.cell s.cur.cell).tlb s.asid ea = some e →
      ((Instr.cinv m).wf = true → ∃ t, exec (.cinv m) s = .next t ∧ Ran s t [] ∧ t.fly = s.fly ∧
        (e.mtype = 0 → t.l1Look s.cur.cell pa = none) ∧ (e.mtype ≠ 0 → ∀ c, (t.cell c).l1 = (s.cell c).l1)) ∧
      ((Instr.cflush m).wf = true →
        (∀ l, e.mtype = 0 → s.l1Look s.cur.cell pa = some l → l.dirty ≠ 0 → s.b.task.isSome = true →
          (∀ k, s.b.task = some k → k.rel = none) →
          ∃ t, exec (.cflush m) s = .next t ∧ Waits s t ∧ t.l1Look s.cur.cell pa = none ∧
            ∃ f ∈ t.fly, ∃ a, f.f = .access a ∧ a.loc = .home l.pa ∧ a.op = .store l.data l.dirty 2) ∧
        ((e.mtype = 0 → s.l1Look s.cur.cell pa = none) →
          Clear s (fun f => match f.acc? with
            | some a => a.cell == s.l1Cell s.cur.cell pa && a.op.isStore && sameLine a.loc (.home pa)
            | none => false) →
          ∃ t, exec (.cflush m) s = .next t ∧ Ran s t [] ∧ t.fly = s.fly)))

namespace Sys2Proof.Spec

/-- The index of lane `k` of a gather or scatter is not all ones, or the access has a stride (R260). -/
def laneTaken (s : State) (x : MemR) (byIndex : Bool) (k : Nat) : Bool :=
  !byIndex || lane s x.ty x.m.idx k != BitVec.allOnes _

/-- The address of lane `k` (R260). -/
def laneAddress (s : State) (x : MemR) (byIndex : Bool) (k : Nat) : Nat :=
  let i := lane s x.ty x.m.idx k
  let step : Word :=
    if byIndex then (if Ty.signed x.ty then i.signExtend 64 else i.setWidth 64) <<< x.m.sh.toNat
    else BitVec.ofNat 64 k * (s.rd x.m.idx <<< x.m.sh.toNat)
  (s.rd x.m.base + x.m.off.signExtend 64 + step).toNat

/-- The lanes that an instruction takes, in order. -/
def laneList (s : State) (x : MemR) (byIndex : Bool) : List Nat := (List.range (nl x.ty)).filter (laneTaken s x byIndex)

/-- The checks of a lane hold (R261): its place, no declared set, and, in state space, a readable stream whose page
it may write in place. -/
def LaneOk (s : State) (x : MemR) (store : Bool) (ea : Nat) (p : Spot) : Prop :=
  let n := Ty.width x.ty / 8
  Place s x.sp ea n (if store then 1 else 0) p ∧ Untouched s p n ∧
    match p.loc with
    | .hearth sid off => off % n = 0 ∧ ∃ e, s.stream? (s.acc ea p.loc n (.load .none .none)) sid = some e ∧ e.readable = true ∧
        let pool := (s.die (sidDie sid)).pool
        (store = false → ∀ g l, pool.find e.map (off / 2 ^ 15) = some (g, l) →
          s.bad (hearthKey (sidDie sid) g (off % 2 ^ 15)) n = false) ∧
        (store = true → e.mig = false ∧ pool.frozen e.map = false ∧
          ∃ g, pool.find e.map (off / 2 ^ 15) = some (g, e.map) ∧ pool.count g ≤ 1)
    | _ => store = false → s.bad p.loc.key n = false ∧ s.localBad p (s.loadScope p x.sc n) n = false

end Sys2Proof.Spec

/-- R260 to R263: the lane accesses of a strided or indexed vector load or store whose checks hold leave the cell in
lane order, one for each lane that is not skipped: to a port, to state space, to the host window, or to a home slice when
the lane's line is not in the L1 and a store does not stay there. No byte of memory changes before they arrive.
Completes: VLDS, VSTS, VGATH, VSCAT.
Where the rules leave a point open the statement follows the model's choices of log 16. -/
def Obligations.VectorLanesLeaveTheCell : Prop :=
  ∀ (s : State) (x : MemR) (byIndex : Bool) (p : Nat → Spot),
    let ld := if byIndex then Instr.vgath x else .vlds x
    let st := if byIndex then Instr.vscat x else .vsts x
    let n := Ty.width x.ty / 8
    let ks := laneList s x byIndex
    let ea := laneAddress s x byIndex
    (ld.wf = true → (∀ k ∈ ks, LaneOk s x false (ea k) (p k)) →
      ∃ t, exec ld s = .next t ∧ Ran s t [x.a] ∧ (ks = [] → t.fly = s.fly ∧ readVec t.b x.a = readVec s.b x.a) ∧
        (s.slots = [] → s.b.commit = [] →
          (∀ k ∈ ks, ∀ pa, (p k).loc = .home pa → (p k).mt = 0 → s.l1Look s.cur.cell pa = none) →
          readVec t.b x.a = readVec s.b x.a ∧
          t.fly = s.fly ++ ks.zipIdx.map (fun e => flight s e.2 (.access { s.acc (ea e.1) (p e.1).loc n
            (.load (.lane x.a e.1 (Ty.width x.ty)) (lineUse s (p e.1) x.sc x.hint)) with unc := (p e.1).mt != 0 })))) ∧
    (st.wf = true → (∀ k ∈ ks, LaneOk s x true (ea k) (p k)) →
      (s.holder = false ∨ (∀ k ∈ ks, (p k).sp ≠ 2 ∧ (p k).mt ≠ 2) ∧ s.b.commit.length + ks.length ≤ 128) →
      ∃ t, exec st s = .next t ∧ Ran s t [] ∧ (ks = [] → t.fly = s.fly) ∧
        (s.holder = false →
          (∀ k ∈ ks, ∀ pa, (p k).loc = .home pa → (p k).mt = 0 → s.l1Look s.cur.cell pa = none ∧
            (x.hint = .strm ∨ x.hint = .byp ∨ x.sc ≠ .cell ∧ (x.sc = .clus → s.fused s.cur.cell = false))) →
          t.fly = s.fly ++ ks.zipIdx.map (fun e => flight s e.2 (.access { s.acc (ea e.1) (p e.1).loc n
            (.store (lane s x.ty x.a e.1).toNat (2 ^ n - 1) (storeKind (p e.1))) with unc := (p e.1).mt != 0 }))))

/-! ## Arrivals and answers (04, 06) -/

namespace Sys2Proof.Spec

/-- An access is served at the key of its place: a store's bytes are in memory, a load's answer carries the bytes
there, an atomic does both; every other byte of memory and every bank is as before (R86, R97, R140, R157). -/
def Served (s t : State) (k n c : Nat) (a : Access) (key : Nat) (more : List Fly) : Prop :=
  let back := fun f => t.fly = s.fly.eraseIdx k ++ { n := n, cell := c, f := f } :: more
  let old := memRead s.mem key a.n
  (∀ c hi, t.bank c hi = s.bank c hi) ∧
    match a.op with
    | .store data mask _ => back (.ack a) ∧ ∀ b, memGet t.mem b =
        if a.loc.inInfo = false ∧ key ≤ b ∧ b < key + a.n ∧ mask.testBit (b - key) then BitVec.ofNat 8 (byteAt data (b - key))
        else memGet s.mem b
    | .load _ f => MemKept s t ∧
        (if f ≠ .none ∧ s.bad (key / 64 * 64) 64 = false then back (.reply a (memRead s.mem (key / 64 * 64) 64) none)
         else back (.reply { a with op := a.op.noFill } old none))
    | _ => back (.reply a old none) ∧ ∀ b, memGet t.mem b =
        match a.op.newVal old with   -- AtomicValues says what it is
        | some v => if a.loc.inInfo = false ∧ key ≤ b ∧ b < key + a.n then BitVec.ofNat 8 (byteAt v (b - key)) else memGet s.mem b
        | none => memGet s.mem b

/-- A load, a store or an atomic. -/
def isPlain (o : AOp) : Bool :=
  match o with
  | .load _ _ | .store _ _ _ | .atomic _ _ _ _ | .cas _ _ _ _ | .amof _ _ _ _ => true
  | _ => false

/-- A grid that neither records nor replays (R429, R430). -/
def Untraced (s : State) (g : Nat) : Prop := recording (s.lr g) = false ∧ (look s.grids g).bind (·.replay) = none

/-- An access on its way that nothing older precedes and whose bytes are not poisoned; its grid neither records nor
replays. -/
def Arriving (s : State) (n : Nat) (a : Access) (key : Nat) : Prop :=
  Memory.Wf s.mem ∧ s.blocked n a = false ∧ Untraced s a.gid ∧ isPlain a.op = true ∧
    (s.bad key a.n = false ∨ ∃ d m j, a.op = .store d m j)

end Sys2Proof.Spec

/-- R86, R97, R140, R143 and R157: an access that nothing older precedes is carried out at its serialisation point as
one read or write of its bytes: at a home slice on a hit, or on the fill of a miss, at a port, or at the host die.
One that something older precedes waits, and one of another die waits while its flits are spent (R383). Completes:
HOME_SLICE_ARRIVAL, HOME_SLICE_FILL, PORT_ARRIVAL, HOST_WINDOW_ACCESS. -/
def Sys2Proof.Spec.AccessesAreServed : Prop :=
  ∀ (s : State) (k n c : Nat) (a : Access),
    (s.flight k = some { n := n, cell := c, f := .access a } → s.blocked n a = true →
      ∀ i ∈ [Instr.homeSliceArrival k, .portArrival k, .hostWindowAccess k], exec i s = .next s) ∧
    (∀ d off, s.flight k = some { n := n, cell := c, f := .access a } → a.loc = .port d off → Arriving s n a (padKey d off) →
      (s.roundTrip a.gid (dieOf a.cell) (dieOf d)).isSome = true →
      ∃ t more, exec (.portArrival k) s = .next t ∧ Served s t k n c a (padKey d off) more ∧
        ((s.cell d).watch = [] → more = [])) ∧
    (∀ d off, s.flight k = some { n := n, cell := c, f := .access a } → a.loc = .port d off → Arriving s n a (padKey d off) →
      s.roundTrip a.gid (dieOf a.cell) (dieOf d) = none → exec (.portArrival k) s = .next s) ∧
    (∀ pa, s.flight k = some { n := n, cell := c, f := .access a } → a.loc = .home pa → s.blocked n a = false →
      s.hsSlots a pa = none → exec (.homeSliceArrival k) s = .next s) ∧
    (∀ pa, s.flight k = some { n := n, cell := c, f := .access a } → a.loc = .host pa → Arriving s n a pa →
      ∃ t, exec (.hostWindowAccess k) s = .next t ∧ Served s t k n c a pa []) ∧
    (∀ pa, s.flight k = some { n := n, cell := c, f := .access a } → a.loc = .home pa → Arriving s n a pa →
      (s.hsSlots a pa).isSome = true →
      (pa / 64 ∈ s.hsLines pa → ∃ t, exec (.homeSliceArrival k) s = .next t ∧ Served s t k n c a pa []) ∧
      (pa / 64 ∉ s.hsLines pa → ∃ t, exec (.homeSliceArrival k) s = .next t ∧ MemKept s t ∧
        t.fly = s.fly.eraseIdx k ++ [{ n := n, cell := c, f := .fill a }])) ∧
    (∀ pa, s.flight k = some { n := n, cell := c, f := .fill a } → a.loc = .home pa → Arriving s n a pa →
      (s.slot a.gid (homeDie pa) .hbm).isSome = true →
      ∃ t, exec (.homeSliceFill k) s = .next t ∧ Served s t k n c a pa [] ∧ pa / 64 ∈ t.hsLines pa)

/-- R89, R90, R92, R105, R142 and R159: an answer reaches the task that made the access: its register takes the bytes
read, the cell's own over them, and is no longer pending, a vector register all 64 of them, and a lane its own; an access
that acquires leaves the L1 as a fence at its scope does (R91, R106, R159); a poisoned read traps instead; an answer to a task that has ended changes no bank. An acknowledgement ends its write, and
not before an older answer of its line, or one that would place its line in the writer's L1. An
evicted line leaves its L1 and its dirty bytes go home. Completes: LOAD_RETURN, WRITE_THROUGH_ACK, L1_EVICTION. -/
def Sys2Proof.Spec.AnswersReturn : Prop :=
  ∀ (s : State) (k n c : Nat) (a : Access) (data : Nat),
    (∀ trap, s.flight k = some { n := n, cell := c, f := .reply a data trap } →
      (s.live a.cell a.hi a.act = false →
        ∃ t, exec (.loadReturn k) s = .next t ∧ MemKept s t ∧ ∀ c hi, t.bank c hi = s.bank c hi) ∧
      (s.live a.cell a.hi a.act = true → trap = none → ∀ dst ty, a.op.ret = .reg dst ty → dst.isS = true → isPlain a.op = true →
        ∃ t v, exec (.loadReturn k) s = .next t ∧ MemKept s t ∧
          (∀ j, j < a.n → byteAt v j = if a.ovMask.testBit j then byteAt a.ovData j
            else byteAt data (if a.op.wholeLine then a.loc.key % 64 + j else j)) ∧ v < 256 ^ a.n ∧
          readReg t.gt (t.bank a.cell a.hi) dst = (if dst = 0#8 then 0 else extLoad ty v) ∧
          (a.also = none → (t.bank a.cell a.hi).pend = (s.bank a.cell a.hi).pend.erase dst) ∧
          (∀ r, r ≠ dst → readReg t.gt (t.bank a.cell a.hi) r = readReg s.gt (s.bank a.cell a.hi) r) ∧
          ∀ c hi, (c ≠ a.cell ∨ hi ≠ a.hi) → t.bank c hi = s.bank c hi) ∧
      (s.live a.cell a.hi a.act = true → trap = none → ∀ dst f, (a.op = .load (.vec dst) f ∨ ∃ i w, a.op = .load (.lane dst i w) f) →
        ridx dst < 32 → ∃ t v, exec (.loadReturn k) s = .next t ∧ MemKept s t ∧
          (∀ j, j < a.n → byteAt v j = if a.ovMask.testBit j then byteAt a.ovData j
            else byteAt data (if a.op.wholeLine then a.loc.key % 64 + j else j)) ∧ v < 256 ^ a.n ∧
          (a.op.ret = .vec dst → readVec (t.bank a.cell a.hi) dst = BitVec.ofNat 512 v) ∧
          (∀ i w, a.op.ret = .lane dst i w → w ∈ [8, 16, 32, 64] → w * i + w ≤ 512 → ∀ j, w * j + w ≤ 512 →
            (readVec (t.bank a.cell a.hi) dst).extractLsb' (w * j) w =
              if j = i then BitVec.ofNat w v else (readVec (s.bank a.cell a.hi) dst).extractLsb' (w * j) w) ∧
          (∀ r, readReg t.gt (t.bank a.cell a.hi) r = readReg s.gt (s.bank a.cell a.hi) r) ∧
          (∀ r, ridx r ≠ ridx dst → readVec (t.bank a.cell a.hi) r = readVec (s.bank a.cell a.hi) r) ∧
          ∀ c hi, (c ≠ a.cell ∨ hi ≠ a.hi) → t.bank c hi = s.bank c hi) ∧
      (s.live a.cell a.hi a.act = true → a.op.isPrefetch = false → ∀ tr, trap = some tr →
        ∃ u, exec (.loadReturn k) s = .next ((u.takeTrap a.cell a.hi tr).relsGo a.cell) ∧ MemKept s u ∧
          (a.op.writes = false → u.fly = s.fly.eraseIdx k) ∧
          ∀ r, readReg u.gt (u.bank a.cell a.hi) r = readReg s.gt (s.bank a.cell a.hi) r) ∧
      (s.live a.cell a.hi a.act = true → a.op.isPrefetch = false → trap = none → (s.cell a.cell).rels = [] → ∀ sc, a.acq = some sc →
        ∃ t, exec (.loadReturn k) s = .next t ∧ ∀ h, Discards s a.cell sc h → (∀ l ∈ (t.cell h).l1, l.dirty ≠ 0) ∧
          ∀ f ∈ t.fly, ∀ b d tr, f.f = .reply b d tr → b.cell = h → b.op.wholeLine = false)) ∧
    (s.flight k = some { n := n, cell := c, f := .ack a } →
      (let before := fun (f : Fly) => ∃ b d tr, f.f = .reply b d tr ∧ sameLine b.loc a.loc = true ∧
        (f.n < n ∧ b.cell = a.cell ∨ b.cell ∈ s.l1Cells a.cell ∧ b.op.wholeLine = true)
       ((∀ f ∈ s.fly, ¬ before f) → exec (.writeThroughAck k) s = .next (s.land k)) ∧
       ((∃ f ∈ s.fly, before f) → exec (.writeThroughAck k) s = .next s))) ∧
    (∀ x l, (s.cell c).l1.find? (fun y => y.pa == l) = some x →
      ∃ t, exec (.l1Eviction c l) s = .next t ∧ MemKept s t ∧ (∀ y ∈ (t.cell c).l1, y.pa ≠ l) ∧
        (x.dirty = 0 → t.fly = s.fly) ∧
        (x.dirty ≠ 0 → ∃ b, t.fly = s.fly ++ [{ n := s.serial, cell := c, f := .access b }] ∧ b.loc = .home x.pa ∧
          b.op = .store x.data x.dirty 2))

/-- An access at its home, and its answer at its cell: the statements AccessesAreServed, AnswersReturn above, together.
Where the rules leave a point open the statement follows the model's choices of log 3, 40, 81, 82, 92. -/
def Obligations.AccessesAndAnswers : Prop :=
  Sys2Proof.Spec.AccessesAreServed ∧ Sys2Proof.Spec.AnswersReturn

/-! ## Engine commands, barriers, rings and tensor identifiers (05, 09, 11) -/

namespace Sys2Proof.Spec

/-- The 64 bytes of a descriptor as an instruction captures them at issue: aligned, inside the scratchpad, none
poisoned, every earlier access of the cell to its own port arrived, and a holder's own bytes over them (R118, R175). -/
def Captures (s : State) (v : Word) (d : Nat) : Prop :=
  v.toNat % 64 = 0 ∧ v.toNat + 64 ≤ 2 ^ 18 ∧ s.portClear s.cur.cell = true ∧ s.bad (padKey s.cur.cell v.toNat) 64 = false ∧
    d = s.ownBytes v.toNat 64 (memRead s.mem (padKey s.cur.cell v.toNat) 64)

/-- The command that each instruction with a descriptor in scratchpad issues, before its serial number. -/
def described (s : State) (d : Nat) (x : CpyR) (m : CpymR) (g : CpygR) (q : AtqR) (y : EngR) (p : SmplR) (n : GenR) :
    List (Instr × RegSpec × Cmd) :=
  let sc := (scopeOf (fld d 427 424)).getD .cell
  let tm := bit d 423
  let cp := fun (op : CmdOp) => { s.cmd op x.g x.a x.det sc d with
    ea := if tm then s.tid x.ta.toNat else 0, eb := if tm then s.tid x.tb.toNat else 0, ta := x.ta.toNat, tb := x.tb.toNat,
    chan := x.chan.map (·.toNat) }
  [(.cpy x, x.b, cp .cpy), (.cpyr x, x.b, cp .cpyr),
   (.cpym m, m.b, { s.cmd .cpym m.g m.a m.det sc d with
      ea := if tm then s.tid m.ta.toNat else 0, eb := if tm then s.tid m.tb.toNat else 0, ta := m.ta.toNat, tb := m.tb.toNat,
      cnt := m.lw.toNat * 8 + m.lh.toNat, chan := m.chan.map (·.toNat) }),
   (.cpyg g, g.b, { s.cmd .cpyg g.g g.a g.det sc d with
      ea := if tm then s.tid 0 else 0, eb := if tm then s.tid 0 else 0, chan := g.chan.map (·.toNat) }),
   (.cpys g, g.b, { s.cmd .cpys g.g g.a g.det sc d with
      ea := if tm then s.tid 0 else 0, eb := if tm then s.tid 0 else 0, chan := g.chan.map (·.toNat) }),
   (.atq q, q.b, { s.cmd .atq q.g q.a q.det .die d with ringD := handleOf s.b q.d }),
   (.atapp y, y.b, s.cmd .atapp y.g y.a y.det .die d), (.atseqCreate y, y.b, s.cmd (.atseq 0) y.g y.a y.det .die d),
   (.atseqFork y, y.b, s.cmd (.atseq 1) y.g y.a y.det .die d), (.atseqCommit y, y.b, s.cmd (.atseq 2) y.g y.a y.det .die d),
   (.atseqTrim y, y.b, s.cmd (.atseq 3) y.g y.a y.det .die d), (.atseqFree y, y.b, s.cmd (.atseq 4) y.g y.a y.det .die d),
   (.atseqReport y, y.b, s.cmd (.atseq 5) y.g y.a y.det .die d),
   (.smpl p, p.b, { s.cmd .smpl 15#4 p.a p.det .die d with ea := s.tid p.tid.toNat }),
   (.topk n, n.b, s.cmd .topk 15#4 n.a n.det .die d), (.gmask n, n.b, s.cmd .gmask 15#4 n.a n.det .die d),
   (.gstep n, n.b, s.cmd .gstep 15#4 n.a n.det .die d),
   (.cred y, y.b, s.cmd .cred y.g y.a y.det (coScope d) d), (.cscan y, y.b, s.cmd .cscan y.g y.a y.det (coScope d) d),
   (.cbc y, y.b, s.cmd .cbc y.g y.a y.det (coScope d) d), (.cgath y, y.b, s.cmd .cgath y.g y.a y.det (coScope d) d)]

/-- The command that each instruction with its operands in registers and fields issues. -/
def direct (s : State) (c : AcfgR) (x : AmmaR) (z : AzeroR) (r : ArdR) (y : EngR) (t : AtcntR) : List (Instr × Cmd) :=
  let b := fun (p : Bool) n => if p then 2 ^ n else 0
  [(.acfg c, { s.cmd .acfg c.g c.a c.det .clus 0 with cnt := c.size.toNat }),
   (.azero z, { s.cmd .azero z.g z.a z.det .clus 0 with cnt := z.mask.toNat }),
   (.amma x, { s.cmd .amma x.g x.a x.det .clus (s.rd x.b).toNat with
      ea := s.tid x.ta.toNat, eb := s.tid x.tb.toNat, ta := x.ta.toNat, tb := x.tb.toNat,
      ringC := handleOf s.b x.c, ringD := handleOf s.b x.d,
      cnt := b x.adva 10 + b x.advb 9 + x.ska.toNat * 2 ^ 5 + x.skb.toNat * 2 }),
   (.ard r, { s.cmd .ard r.g r.a r.det .clus (s.rd r.b).toNat with
      ringD := handleOf s.b r.d, cnt := (match r.rnd with | .rne => 0 | .rz => 1 | .rd => 2 | .ru => 3) + b r.sat 2 }),
   (.atmsk y, s.cmd .atmsk y.g y.a y.det .die (s.rd y.b).toNat),
   (.atcnt t, { s.cmd .atcnt t.g t.a t.det .die (s.rd t.b).toNat with cnt := t.sel.toNat })]

/-- A command has entered its queue, last, and its token register is pending; nothing else of the task has changed. -/
def Queued (s t : State) (k : Cmd) : Prop :=
  Ran s t [] ∧ (∀ r, k.tok = some r → r ∈ t.b.pend) ∧
    ∃ m, (t.cell s.cur.cell).queue k.op.queue = (s.cell s.cur.cell).queue k.op.queue ++ [{ k with id := m }] ∧
      s.serial ≤ m ∧ m < t.serial ∧
      ∀ q, q ≠ k.op.queue → (t.cell s.cur.cell).queue q = (s.cell s.cur.cell).queue q

end Sys2Proof.Spec

/-- R45, R118, R124, R126, R145, R174, R276, R291, R304, R305 and R331: a task that holds no set issues an engine
command: its descriptor, handles and tensor entries are captured, it is last in its queue, and its token register is
pending until the hardware writes it. A holder raises ASET.IRREV, and a descriptor that is misaligned or outside the
scratchpad the cause of R118, with nothing issued. Completes: CPY, CPYM, CPYR, CPYG, CPYS, ACFG, AMMA, AZERO, ARD,
ATQ, ATAPP, ATSEQ create, fork, commit, trim, free and report, ATMSK, ATCNT, SMPL, TOPK, GMASK, GSTEP, CRED, CSCAN,
CBC, CGATH. -/
def Sys2Proof.Spec.CommandsAreIssued : Prop :=
  ∀ (s : State) (d : Nat) (x : CpyR) (m : CpymR) (g : CpygR) (q : AtqR) (y : EngR) (p : SmplR) (n : GenR) (c : AcfgR)
    (u : AmmaR) (z : AzeroR) (r : ArdR) (w : AtcntR),
    (∀ e ∈ described s d x m g q y p n,
      (s.holder = false → Captures s (s.rd e.2.1) d → ∃ t, exec e.1 s = .next t ∧ Queued s t e.2.2) ∧
      (s.holder = true → exec e.1 s = .next (s.trap .asetIrrev 0 0)) ∧
      (s.holder = false → 2 ^ 18 ≤ (s.rd e.2.1).toNat → exec e.1 s = .next (s.trap .addrRange (s.rd e.2.1).toNat 0)) ∧
      (s.holder = false → (s.rd e.2.1).toNat < 2 ^ 18 → (s.rd e.2.1).toNat % 64 ≠ 0 →
        exec e.1 s = .next (s.trap .memAlign (s.rd e.2.1).toNat 0))) ∧
    ∀ e ∈ direct s c u z r y w,
      (s.holder = false → ∃ t, exec e.1 s = .next t ∧ Queued s t e.2) ∧
      (s.holder = true → exec e.1 s = .next (s.trap .asetIrrev 0 0))

/-- R131 and R174: CHAN read gives the channel's word, CHAN addr the address at which its last command failed; CHAN abort of an
idle channel gives the word at once, and of a busy one stops the command, the register to be written when it has
completed; a task that holds a set raises ASET.IRREV (R174). Completes: CHAN read, CHAN addr, CHAN abort. -/
def Sys2Proof.Spec.ChannelReads : Prop :=
  ∀ (s : State) (x : ChanR),
    let h := (s.cell s.cur.cell).chan x.ch.toNat
    let queued := (s.cell s.cur.cell).tongs.length
    let word := fun n => (if h.cmd.isSome then 2 ^ 63 else 0) + queued % 128 * 2 ^ 56 + h.status % 256 * 2 ^ 48 + n % 2 ^ 48
    (s.holder = true → ∀ i ∈ [Instr.chanRead x, .chanAddr x, .chanAbort x], exec i s = .next (s.trap .asetIrrev 0 0)) ∧
    (s.holder = false → x.a.isS = true →
    Gives s (.chanAddr x) x.a (BitVec.ofNat 64 h.addr) ∧
    Gives s (.chanRead x) x.a (BitVec.ofNat 64 (word (if h.cmd.isSome then h.w.landed else h.bytes))) ∧
    (h.cmd = none → Gives s (.chanAbort x) x.a (BitVec.ofNat 64 (word h.bytes))) ∧
    (∀ k, h.cmd = some k → h.out ≠ 0 → ∃ t, exec (.chanAbort x) s = .next t ∧ Ran s t [] ∧ t.fly = s.fly ∧
      (x.a ≠ 0#8 → x.a ∈ t.b.pend) ∧
      (t.cell s.cur.cell).chan x.ch.toNat = { h with stop := some (h.stop.getD (2, 0)), waits := h.waits ++ [(s.cur.hi, s.act, x.a)] }) ∧
    (∀ k, h.cmd = some k → ∃ t, exec (.chanAbort x) s = .next t ∧ MemKept s t))

/-- Commands of the engines and reads of their channels: the statements CommandsAreIssued, ChannelReads above, together.
Where the rules leave a point open the statement follows the model's choices of log 63, 97. -/
def Obligations.EngineCommands : Prop :=
  Sys2Proof.Spec.CommandsAreIssued ∧ Sys2Proof.Spec.ChannelReads

namespace Sys2Proof.Spec

/-- Bits of a number. -/
def bits (v lo n : Nat) : Nat := v / 2 ^ lo % 2 ^ n

/-- NET of a barrier word (R134). -/
def net (v : Nat) : Int := (BitVec.ofNat 64 (v / 2 ^ 64)).toInt

/-- The space that a barrier instruction's field names (R136). -/
def barrierSpace (c : BitVec 2) : Space := if c = 0 then .l else if c = 1 then .c else .d

end Sys2Proof.Spec

/-- R104, R136 and R174: BINIT, BPOST and BTEST make the checks of a 16-byte access and are sent to the port of their
barrier; a BTEST with no register has no other effect, and one that is counted waits while its port has 32.
Completes: BINIT, BPOST, BTEST. -/
def Sys2Proof.Spec.BarriersAreIssued : Prop :=
  ∀ (s : State) (x : BarR) (y : BpostR) (z : BtestR) (p : Spot),
    (Place s (barrierSpace x.sp) (s.rd x.b).toNat 16 0 p → s.holder = false → ∃ t, exec (.binit x) s = .next t ∧ Ran s t [] ∧
      t.fly = s.fly ++ [flight s 0 (.access (s.acc (s.rd x.b).toNat p.loc 16 .binit))]) ∧
    (Place s (barrierSpace y.sp) (s.rd y.b).toNat 16 0 p → s.holder = false → ∃ t, exec (.bpost y) s = .next t ∧ Ran s t [] ∧
      t.fly = s.fly ++ [flight s 0 (.access (s.acc (s.rd y.b).toNat p.loc 16 (.bpost ((s.rd y.c).toNat % 2 ^ 48))))]) ∧
    (Place s (barrierSpace x.sp) (s.rd x.b).toNat 16 0 p → s.holder = true →
      exec (.binit x) s = .next (s.trap .asetIrrev (s.rd x.b).toNat 0)) ∧
    (Place s (barrierSpace z.sp) (s.rd z.b).toNat 16 0 p →
      (z.det = true ∨ z.a = 0#8 → ∃ t, exec (.btest z) s = .next t ∧ Ran s t [] ∧ t.fly = s.fly) ∧
      (z.det = false → z.a ≠ 0#8 → ∀ c off, p.loc = .port c off →
        (s.btests c < 32 → ∃ t, exec (.btest z) s = .next t ∧ Ran s t [] ∧ z.a ∈ t.b.pend ∧
          t.fly = s.fly ++ [flight s 0 (.access (s.acc (s.rd z.b).toNat p.loc 16 (.btest z.a)))]) ∧
        (32 ≤ s.btests c → exec (.btest z) s = .next s)))

/-- R134 to R136: at its port a BINIT clears the barrier word and answers the BTESTs that watch it with INVALIDATED; a
BPOST on an open barrier adds to NET and EXPECT and leaves it complete when NET is zero, overrun when it is negative;
a landed piece subtracts its bytes from NET; a BTEST on a complete barrier is answered with its token, and one on an
open barrier is watched until a post or a piece completes it, which answers it with the token that the word then gives. Completes: BARRIER_ARRIVE. -/
def Sys2Proof.Spec.BarrierUpdates : Prop :=
  ∀ (s : State) (k n c d off : Nat) (a : Access),
    let v := memRead s.mem (padKey d off) 16
    let word := fun (t : State) => memRead t.mem (padKey d off) 16
    let others := fun (t : State) => ∀ b, (b < padKey d off ∨ padKey d off + 16 ≤ b) → memGet t.mem b = memGet s.mem b
    let open_ := fun (t : State) (nt : Int) (ex : Nat) (done posted : Bool) =>
      net (word t) = nt ∧ bits (word t) 16 48 = ex % 2 ^ 48 ∧ (word t).testBit 0 = posted ∧
        bits (word t) 8 8 = if done && decide (nt = 0) then 1 else if done && decide (nt < 0) then 2 else bits v 8 8
    let token := fun v => (if bits v 8 8 = 1 then 0 else 0x41 * 2 ^ 48) + (bits v 16 48 + 2 ^ 64 - bits v 64 64) % 2 ^ 48
    let woken := fun (t : State) => ∀ w ∈ (s.cell d).watch, w.off = off →
      (bits (word t) 8 8 = 0 → w ∈ (t.cell d).watch) ∧
      (bits (word t) 8 8 ≠ 0 → (∀ x ∈ (t.cell d).watch, x.off ≠ off) ∧ ∃ f ∈ t.fly, f.f = btReply w d (token (word t)))
    Memory.Wf s.mem → off + 16 ≤ 0x3FFC0 →
    (s.flight k = some { n := n, cell := c, f := .access a } → a.loc = .port d off → a.n = 16 → s.blocked n a = false →
      Untraced s a.gid → (s.roundTrip a.gid (dieOf a.cell) (dieOf d)).isSome = true → s.bad (padKey d off) 16 = false →
      (a.op = .binit → ∃ t, exec (.portArrival k) s = .next t ∧ word t = 0 ∧ others t ∧
        (∃ f ∈ t.fly, f = { n := n, cell := c, f := .ack a }) ∧
        ∀ w ∈ (s.cell d).watch, w.off = off → ∃ f ∈ t.fly, f.f = btReply w d (0x42 * 2 ^ 48)) ∧
      (∀ m, a.op = .bpost m → bits v 8 8 = 0 → -(2 : Int) ^ 63 ≤ net v + m → net v + m < (2 : Int) ^ 63 →
        ∃ t, exec (.portArrival k) s = .next t ∧ others t ∧ open_ t (net v + m) (bits v 16 48 + m) true true ∧ woken t ∧
          ∃ f ∈ t.fly, f = { n := n, cell := c, f := .ack a }) ∧
      (∀ m, a.op = .bpost m → bits v 8 8 ≠ 0 → ∃ t, exec (.portArrival k) s = .next t ∧ MemKept s t) ∧
      (∀ r, a.op = .btest r → bits v 8 8 ≠ 0 →
        ∃ t, exec (.portArrival k) s = .next t ∧ MemKept s t ∧
          t.fly = s.fly.eraseIdx k ++ [{ n := n, cell := c, f := .reply a (token v) none }]) ∧
      (∀ r, a.op = .btest r → bits v 8 8 = 0 → (s.cell d).watch.length < 32 → ∃ t w, exec (.portArrival k) s = .next t ∧
        MemKept s t ∧ (t.cell d).watch = (s.cell d).watch ++ [w] ∧ w.off = off ∧ w.dst = r ∧ w.who.act = a.act)) ∧
    (∀ m g h, s.flight k = some { n := n, cell := c, f := .count d off m g h } → Untraced s g → bits v 8 8 ≤ 1 → -(2 : Int) ^ 63 ≤ net v - m →
      net v - m < (2 : Int) ^ 63 →
      ∃ t, exec (.barrierArrive k) s = .next t ∧ others t ∧ open_ t (net v - m) (bits v 16 48) (v.testBit 0) (v.testBit 0) ∧ woken t)

/-- Byte-count barriers: their instructions and what arrives at them: the statements BarriersAreIssued, BarrierUpdates
above, together. Where the rules leave a point open the statement follows the model's choices of log 65. -/
def Obligations.Barriers : Prop :=
  Sys2Proof.Spec.BarriersAreIssued ∧ Sys2Proof.Spec.BarrierUpdates

/-- R268, R269, R271 to R273: an unbound handle answers UNBOUND, or all ones to HSTAT, at once; a bound one sends the
update to its control word's port, HADVP and HADVC after their release and with an acquire to come; HBIND reads its
32 bytes; the handle is pending with the register (R189, R191); and HBIND none unbinds. At the port an advance that
fits moves its count modulo the wrap and answers the slots then filled; one that does not, or a corrupt word, changes
nothing and answers 2, 3 or 4. Completes: HBIND, HBIND none, HADVP, HADVC, HSTAT. -/
def Sys2Proof.Spec.RingHandles : Prop :=
  ∀ (s : State) (x : HadvR) (y : HndR) (z : HbindR) (r : Ring) (p : Spot),
    let ctl := Loc.port (cellAt (dieOf s.cur.cell) (r.ctl / 2 ^ 18)) (r.ctl % 2 ^ 18)
    let ns := bits r.desc 128 16
    (∀ e ∈ [(Instr.hadvp x, false), (.hadvc x, true)], e.1.wf = true → Released s →
      (look s.b.hnd x.n.toNat = none → ∃ t, exec e.1 s = .next t ∧ Ran s t [x.a] ∧ Holds t x.a (2#64 ^ 48) ∧
        ((∀ f ∈ s.fly, ∀ a d tr, f.f = .reply a d tr → a.op.wholeLine = false) → t.fly = s.fly)) ∧
      (look s.b.hnd x.n.toNat = some r → ∃ t, exec e.1 s = .next t ∧ Ran s t [] ∧ (x.a ≠ 0#8 → x.a ∈ t.b.pend) ∧
        hndSpec x.n ∈ t.b.pend ∧
        t.fly = s.fly ++ [flight s 0 (.access { s.acc r.ctl ctl 8 (.advance e.2 ((s.rd x.c).toNat % 2 ^ 32) ns x.a) with
          acq := some x.sc, also := some (hndSpec x.n) })])) ∧
    ((Instr.hstat y).wf = true →
      (look s.b.hnd y.n.toNat = none → Gives s (.hstat y) y.a (BitVec.allOnes 64)) ∧
      (look s.b.hnd y.n.toNat = some r → ∃ t, exec (.hstat y) s = .next t ∧ Sent s t y.a (.access (s.acc r.ctl ctl 8 (.hstat y.a))))) ∧
    ((Instr.hbindNone y).wf = true → ∃ t, exec (.hbindNone y) s = .next t ∧ Done s t [y.a, 0xA0#8 + y.n.setWidth 8] ∧ Holds t y.a 0 ∧
      readReg t.gt t.b (0xA0#8 + y.n.setWidth 8) = 0) ∧
    ((Instr.hbind z).wf = true → (s.rd z.b).toNat % 64 ≤ 32 → Place s (if z.loc then .l else .g) (s.rd z.b).toNat 8 0 p →
      s.slots = [] → s.localBad p .die 32 = false → ∃ t mask data, exec (.hbind z) s = .next t ∧ Ran s t [] ∧
        (z.a ≠ 0#8 → z.a ∈ t.b.pend) ∧ hndSpec z.n ∈ t.b.pend ∧
        t.fly = s.fly ++ [flight s 0 (.access { s.acc (s.rd z.b).toNat p.loc 32 (.hbind z.n.toNat p.loc.key z.a) with
          ovMask := mask, ovData := data, unc := p.mt != 0, also := some (hndSpec z.n) })] ∧ (s.b.commit = [] → p.mt ≠ 0 ∨ z.loc = true → mask = 0)) ∧
    ∀ (k n c d off m nslot : Nat) (a : Access) (cons : Bool) (dst : RegSpec),
      let key := padKey d off
      let v := memRead s.mem key 8
      let P := bits v 0 32
      let C := bits v 32 32
      let wr := nslot * (2 ^ 32 / nslot)
      let f := (P + wr - C) % wr
      let corrupt := wr ≤ P ∨ wr ≤ C ∨ nslot < f
      let answer := fun (t : State) (w : Nat) => ∃ q ∈ t.fly, q = { n := n, cell := c, f := .reply a w none }
      Memory.Wf s.mem → s.flight k = some { n := n, cell := c, f := .access a } → a.loc = .port d off → a.n = 8 → off + 8 ≤ 0x3FFC0 →
      s.blocked n a = false → Untraced s a.gid → (s.roundTrip a.gid (dieOf a.cell) (dieOf d)).isSome = true →
      s.bad key 8 = false → 1 ≤ nslot → nslot ≤ 4096 → m < 2 ^ 32 →
      (a.op = .hstat dst → ∃ t, exec (.portArrival k) s = .next t ∧ MemKept s t ∧ answer t v) ∧
      (a.op = .advance cons m nslot dst →
        (corrupt → ∃ t, exec (.portArrival k) s = .next t ∧ MemKept s t ∧ answer t (4 * 2 ^ 48 + f)) ∧
        (¬ corrupt → cons = false → nslot < f + m → ∃ t, exec (.portArrival k) s = .next t ∧ MemKept s t ∧ answer t (2 * 2 ^ 48 + f)) ∧
        (¬ corrupt → cons = true → f < m → ∃ t, exec (.portArrival k) s = .next t ∧ MemKept s t ∧ answer t (3 * 2 ^ 48 + f)) ∧
        (¬ corrupt → (cons = false ∧ f + m ≤ nslot) ∨ (cons = true ∧ m ≤ f) → ∃ t, exec (.portArrival k) s = .next t ∧
          answer t (if cons then f - m else f + m) ∧
          bits (memRead t.mem key 8) 0 32 = (if cons then P else (P + m) % wr) ∧
          bits (memRead t.mem key 8) 32 32 = (if cons then (C + m) % wr else C) ∧
          ∀ b, (b < key ∨ key + 8 ≤ b) → memGet t.mem b = memGet s.mem b))

/-- R267, R269 and R272: the descriptor that an HBIND reads, when it returns to its task, binds the handle when it
obeys R267 and its owner lies in the grid; otherwise the handle stays, and the register has 1 or 2. -/
def Sys2Proof.Spec.HandlesAreBound : Prop :=
  ∀ (s : State) (k n c hn key2 data : Nat) (a : Access) (dst : RegSpec),
    let d := a.part data
    let b := s.bank a.cell a.hi
    s.flight k = some { n := n, cell := c, f := .reply a data none } → a.op = .hbind hn key2 dst → dst.isS = true →
    s.live a.cell a.hi a.act = true →
    ∃ t, exec (.loadReturn k) s = .next t ∧ MemKept s t ∧
      readReg t.gt (t.bank a.cell a.hi) dst = (if dst = 0#8 then 0 else
        if ringBad d = true then 1 else if inRect (s.lr a.gid) (ringOwner a.cell d) = false then 2 else 0) ∧
      (∀ j, j ≠ hn → look (t.bank a.cell a.hi).hnd j = look b.hnd j) ∧
      (ringBad d = true ∨ inRect (s.lr a.gid) (ringOwner a.cell d) = false →
        look (t.bank a.cell a.hi).hnd hn = look b.hnd hn) ∧
      (ringBad d = false → inRect (s.lr a.gid) (ringOwner a.cell d) = true →
        look (t.bank a.cell a.hi).hnd hn =
          some { desc := d, ctl := idxOf (ringOwner a.cell d) * 2 ^ 18 + bits d 0 18 - 16 })

/-- R288: GSET resolves a guard slot by whether its register is zero and GCLR leaves it unresolved; bank 10 reads the
slot. Completes: GSET, GCLR. -/
def Sys2Proof.Spec.GuardSlots : Prop :=
  ∀ (s : State) (x : GsetR) (n : BitVec 4),
    ((Instr.gset x).wf = true → ∃ t, exec (.gset x) s = .next t ∧ Done s t [0xB0#8 + x.n.setWidth 8] ∧
      readReg t.gt t.b (0xB0#8 + x.n.setWidth 8) = if s.rd x.b = 0 then 2 else 3) ∧
    ((Instr.gclr n).wf = true → ∃ t, exec (.gclr n) s = .next t ∧ Done s t [0xB0#8 + n.setWidth 8] ∧
      readReg t.gt t.b (0xB0#8 + n.setWidth 8) = 0)

/-- Scratchpad rings, handles and guards: the statements RingHandles, HandlesAreBound, GuardSlots above, together.
Where the rules leave a point open the statement follows the model's choices of log 64. -/
def Obligations.RingsAndHandles : Prop :=
  Sys2Proof.Spec.RingHandles ∧ Sys2Proof.Spec.HandlesAreBound ∧ Sys2Proof.Spec.GuardSlots

/-- R349: the operations of the bloom queue leave the cell after a release, with their registers pending, and take
effect at the cluster's queue: a configuration empties it; a push is refused for a NaN key or when it does not beat
the lowest of 256; a pop within the budget removes the highest; BQSTAT reads it. Completes: BQCFG, BQPUSH, BQPOP,
BQSTAT, BLOOM_QUEUE_ARRIVAL.
Where the rules leave a point open the statement follows the model's choices of log 56. -/
def Obligations.BloomQueue : Prop :=
  ∀ (s : State),
    (∀ (x : MovR) (y : A3) (z : AcR) (r : RegSpec),
      ∀ e ∈ [(Instr.bqcfg x, BloomOp.cfg ((s.rd x.b).toNat % 2 ^ 16), x.a),
          (.bqpush y, .push (bits (s.rd y.b).toNat 0 32) (bits (s.rd y.b).toNat 32 32) (bits (s.rd y.c).toNat 0 32), y.a),
          (.bqpop z, .pop z.c, z.a), (.bqstat r, .stat, r)],
        (s.holder = false → Released s → ∃ t, exec e.1 s = .next t ∧ Sent s t e.2.2 (.bloom s.who e.2.1 e.2.2)) ∧
        (s.holder = true → exec e.1 s = .next (s.trap .asetIrrev 0 0))) ∧
    ∀ (k n c : Nat) (w : Who) (o : BloomOp) (dst : RegSpec) (g : Grid),
      let q := gcluOf w.cell
      let x := s.cluster q
      let reads := fun (t : State) (r : RegSpec) (v : Nat) => r.isS = true →
        readReg t.gt (t.bank w.cell w.hi) r = if r = 0#8 then 0 else BitVec.ofNat 64 v
      let Ends := fun (a : Nat) (y : Cluster) => ∃ t, exec (.bloomQueueArrival k) s = .next t ∧ MemKept s t ∧ t.cluster q = y ∧
        (∀ j, j ≠ q → t.cluster j = s.cluster j) ∧ t.fly = s.fly.eraseIdx k ∧ ((∀ r, o ≠ .pop r) → reads t dst a)
      s.flight k = some { n := n, cell := c, f := .bloom w o dst } → look s.grids w.gid = some g → recording g.lr = false →
      g.replay = none → (∀ f ∈ s.fly, bloomBefore n w.act f = false) → s.live w.cell w.hi w.act = true →
      (∀ m, o = .cfg m → Ends 0 { x with bloom := [], budget := m, drops := 0 }) ∧
      (o = .stat → Ends (x.drops % 2 ^ 32 * 2 ^ 32 + x.budget % 2 ^ 16 * 2 ^ 16 + x.bloom.length % 512) x) ∧
      (∀ key node seq, o = .push key node seq →
        let e : BloomEnt := { key := key, node := node, seq := seq }
        ((decodeF fmt32 key).isNan = true → Ends 3 x) ∧
        ((decodeF fmt32 key).isNan = false → x.bloom.length < 256 → Ends 0 { x with bloom := x.bloom ++ [e] }) ∧
        ((decodeF fmt32 key).isNan = false → 256 ≤ x.bloom.length → ∀ l, bloomLow x.bloom = some l →
          (e.beats l = true → Ends 2 { x with bloom := x.bloom.erase l ++ [e], drops := x.drops + 1 }) ∧
          (e.beats l = false → Ends 1 x))) ∧
      (∀ r, o = .pop r → r ≠ dst →
        (x.bloom = [] ∨ x.budget = 0 → Ends 0 x ∧ ∃ t, exec (.bloomQueueArrival k) s = .next t ∧
          reads t dst 0xFFFFFFFFFF800000 ∧ reads t r 0) ∧
        (∀ e, x.budget ≠ 0 → bloomTop x.bloom = some e →
          Ends 0 { x with bloom := x.bloom.erase e, budget := x.budget - 1 } ∧ ∃ t, exec (.bloomQueueArrival k) s = .next t ∧
            reads t dst (e.node * 2 ^ 32 + e.key) ∧ reads t r e.seq))

/-- R227, R232, R234 and R235: TIDSET captures an image and TIDINV asks for its removal, the register pending; TIDGET
stores the entry of the issuing die's replica to .l and says whether it is valid. At the home die an image that
breaks a check of R232 leaves the entry and answers the check's status, and one that passes is the entry, its CUR
zero; a version then reaches each other die's replica, in the order of the home die, and the register is written when
none is left. One task's changes of one entry keep program order. A step to another die waits while its flits are spent
(R383). Completes: TIDSET, TIDGET, TIDINV, TID_REPLICA_UPDATE.
Where the rules leave a point open the statement follows the model's choices of log 92, 97 and 106. -/
def Obligations.TensorEntries : Prop :=
  ∀ (s : State) (x : TidR) (y : TidinvR) (e : Nat) (p : Spot),
    (s.holder = false → Captures s (s.rd x.b) e → ∃ t, exec (.tidset x) s = .next t ∧
      Sent s t x.a (.tid s.who x.id.toNat (.set e) x.a)) ∧
    (s.holder = false → ∃ t, exec (.tidinv y) s = .next t ∧ Sent s t y.a (.tid s.who y.id.toNat .inv y.a)) ∧
    ((Instr.tidget x).wf = true → Place s .l (s.rd x.b).toNat 64 1 p → Untouched s p 64 → HasRoom s p →
      let v := s.tidEnt s.gid (dieOf s.cur.cell) x.id.toNat
      ∃ t, exec (.tidget x) s = .next t ∧ Stored s t [x.a] p .cell .normal (s.rd x.b).toNat 64 v 0 ∧
        Holds t x.a (if v.testBit 10 then 0 else 8)) ∧
    ∀ (k n c id : Nat) (w : Who) (o : TidOp) (dst : RegSpec) (g : Grid),
      let d0 := dieOf (originOf g.lr)
      let old := s.tidEnt w.gid d0 id
      let Sets := fun (t : State) (d v : Nat) => MemKept s t ∧ (∀ c hi, t.bank c hi = s.bank c hi) ∧ t.tidEnt w.gid d id = v ∧
        ∀ d' j, d' * 4096 + j ≠ d * 4096 + id → t.tidEnt w.gid d' j = s.tidEnt w.gid d' j
      let others := (diesOf g.lr).filter (· != d0)
      let copies := fun (t : State) (v st : Nat) => ∃ f ∈ t.fly, f.f = .tid w id (.copy v st others) dst
      let answered := fun (t : State) (v : Nat) => s.live w.cell w.hi w.act = true → dst.isS = true →
        readReg t.gt (t.bank w.cell w.hi) dst = if dst = 0#8 then 0 else BitVec.ofNat 64 v
      s.flight k = some { n := n, cell := c, f := .tid w id o dst } → look s.grids w.gid = some g →
      (o = .inv ∨ (∃ e, o = .set e) → (∃ f ∈ s.fly, tidBefore n w id f = true) → exec (.tidReplicaUpdate k) s = .next s) ∧
      (∀ v st d rest, o = .copy v st (d :: rest) → (∃ f ∈ s.fly, copyBefore n w.gid d f = true) →
        exec (.tidReplicaUpdate k) s = .next s) ∧
      ((o = .inv ∨ ∃ e, o = .set e) → s.roundTrip w.gid (dieOf w.cell) d0 = none → exec (.tidReplicaUpdate k) s = .next s) ∧
      (∀ v st d rest, o = .copy v st (d :: rest) → s.flits w.gid d0 d 1 = none → exec (.tidReplicaUpdate k) s = .next s) ∧
      ((s.roundTrip w.gid (dieOf w.cell) d0).isSome = true → (∀ f ∈ s.fly, tidBefore n w id f = false) →
      (o = .inv → ∃ t, exec (.tidReplicaUpdate k) s = .next t ∧ Sets t d0 0 ∧ copies t 0 (if old.testBit 10 then 0 else 8)) ∧
      (∀ e, o = .set e → e.testBit 10 = false → ∃ t, exec (.tidReplicaUpdate k) s = .next t ∧ Sets t d0 0 ∧ copies t 0 0) ∧
      (∀ e, o = .set e → e.testBit 10 = true → tidCheck g.lr e ≠ 0 → ∃ t, exec (.tidReplicaUpdate k) s = .next t ∧
        MemKept s t ∧ t.grids = s.grids ∧ t.fly = s.fly.eraseIdx k ∧ answered t (tidCheck g.lr e)) ∧
      (∀ e, o = .set e → e.testBit 10 = true → tidCheck g.lr e = 0 → ∃ t, exec (.tidReplicaUpdate k) s = .next t ∧
        Sets t d0 (tSetCur e 0) ∧ copies t (tSetCur e 0) 0)) ∧
      (∀ v st d rest, o = .copy v st (d :: rest) → v = 0 ∨ v.testBit 10 = true → (s.flits w.gid d0 d 1).isSome = true → (∀ f ∈ s.fly, copyBefore n w.gid d f = false) →
        ∃ t, exec (.tidReplicaUpdate k) s = .next t ∧ Sets t d v ∧
          t.fly = s.fly.eraseIdx k ++ [{ n := n, cell := w.cell, f := .tid w id (.copy v st rest) dst }]) ∧
      (∀ v st, o = .copy v st [] → ∃ t, exec (.tidReplicaUpdate k) s = .next t ∧ t.grids = s.grids ∧ MemKept s t ∧ answered t st)

/-! ## Control flow and loops (15) -/

namespace Sys2Proof.Spec

/-- Of loop `k` of a bank: whether it is armed, its count, its start and its end (R357). -/
def loopOf (b : Bank) (k : Bool) : Bool × Nat × Word × Word :=
  let lc := if k then b.lc1 else b.lc0
  (lc.getLsbD 63, lc.toNat % 2 ^ 32, if k then b.ls1 else b.ls0, if k then b.le1 else b.le0)

/-- The successor in sequence: the next slot, or slot 0 of the next line after slot 4 (R23). -/
def after (pc : Word) : Word :=
  if pc.toNat % 8 < 4 then BitVec.ofNat 64 (pc.toNat / 64 * 64 + pc.toNat % 8 + 1) else BitVec.ofNat 64 (pc.toNat / 64 * 64 + 64)

/-- A transfer made: pc is the target, whose target mask the fetch checks for the instruction at `src`, loops whose
range does not hold it are disarmed with their count kept, and nothing but the flow registers has changed (R353,
R354, R360). -/
def Jumped (s t : State) (target : Word) (rs : List RegSpec) : Prop :=
  OthersKept s t ∧ CellsKept s t ∧ MemKept s t ∧ RegsKept s t (rs ++ flowRegs) ∧ t.fly = s.fly ∧ t.b.pc = target ∧
    t.b.entered = some s.b.pc.toNat ∧
    ∀ k, let l := loopOf s.b k
      loopOf t.b k = (l.1 && decide (l.2.2.1.toNat ≤ target.toNat) && decide (target.toNat ≤ l.2.2.2.toNat), l.2)

/-- A place named by a line offset from the instruction's own line, and a slot. -/
def place (s : State) (lines : Int) (slot : Nat) : Word :=
  BitVec.ofInt 64 ((s.b.pc.toNat / 64 * 64 : Nat) + 64 * lines + slot)

end Sys2Proof.Spec

/-- R353 to R355: a branch is taken when its condition holds between the 64-bit registers; a call writes the
successor's place to lk, and its target is read first. A computed target that has not the form of R22 raises BTM, or
XLT.CANON, at the target, the transfer and the link made. Completes: B, J, JL, JR, JLR. -/
def Obligations.BranchesAndJumps : Prop :=
  ∀ (s : State) (x : BrR) (y : JmpR) (r : RegSpec),
    let t1 := place s x.loff.toInt x.tslot.toNat
    let t2 := place s y.loff.toInt y.tslot.toNat
    let v := s.rd r
    let Links := fun (t : State) => t.b.lk = after s.b.pc
    (cond x.cond (s.rd x.a) (s.rd x.b) = true → (Instr.b x).wf = true → ∃ t, exec (.b x) s = .next t ∧ Jumped s t t1 []) ∧
    (cond x.cond (s.rd x.a) (s.rd x.b) = false → (Instr.b x).wf = true → ∃ t, exec (.b x) s = .next t ∧ Done s t []) ∧
    (∃ t, exec (.j y) s = .next t ∧ Jumped s t t2 []) ∧
    (∃ t, exec (.jl y) s = .next t ∧ Jumped s t t2 [0x88#8] ∧ Links t) ∧
    (v.toNat % 8 < 5 → v.toNat / 8 % 8 = 0 → v.toNat < 2 ^ 57 →
      (∃ t, exec (.jr r) s = .next t ∧ Jumped s t v []) ∧
      (∃ t, exec (.jlr r) s = .next t ∧ Jumped s t v [0x88#8] ∧ Links t)) ∧
    (5 ≤ v.toNat % 8 ∨ v.toNat / 8 % 8 ≠ 0 → ∃ t u,
      let trap : Trap := { cause := .btm, pc := v.toNat, addr := v.toNat, spc := s.b.pc.toNat }
      exec (.jr r) s = .next (t.takeTrap s.cur.cell s.cur.hi trap) ∧ Jumped s t v [] ∧
      exec (.jlr r) s = .next (u.takeTrap s.cur.cell s.cur.hi trap) ∧ Jumped s u v [0x88#8] ∧ Links u) ∧
    (v.toNat % 8 < 5 → v.toNat / 8 % 8 = 0 → 2 ^ 57 ≤ v.toNat → ∃ t,
      exec (.jr r) s = .next (t.takeTrap s.cur.cell s.cur.hi
        { cause := .xltCanon, pc := v.toNat, addr := v.toNat, detail := 15 * 2 ^ 60 + 3 * 2 ^ 56, spc := s.b.pc.toNat }) ∧
      Jumped s t v [])

/-- R358 to R360 and R362: LSET checks its range and its nesting, then arms the loop with its count, or, with a count
of zero, leaves it disarmed and goes on after END; LCLR makes a loop's registers zero. An instruction at the END of
an armed inner loop returns to START and counts down, and on the last pass disarms the loop; the outer loop is then
tested in the same way, and it is tested too where the inner one does not end there. The last clause says so of six
instructions, and the other statements that an instruction completes say so by Advances. Completes: LSET, LCLR. -/
def Obligations.HardwareLoops : Prop :=
  ∀ (s : State) (x : LsetR) (w : BitVec 2),
    let st := place s x.sloff.toInt x.sslot.toNat
    let en := place s x.eloff.toInt x.eslot.toNat
    let n := (s.rd x.b).toNat % 2 ^ 32
    let o := loopOf s.b (!x.k)
    let inner := if x.k then o.2.2.1.toNat ≤ st.toNat ∧ en.toNat ≤ o.2.2.2.toNat else st.toNat ≤ o.2.2.1.toNat ∧ o.2.2.2.toNat ≤ en.toNat
    let loopRegs : List RegSpec := [0x90#8, 0x91#8, 0x92#8, 0x93#8, 0x94#8, 0x95#8]
    (en.toNat < st.toNat → exec (.lset x) s = .next (s.trap .loopRange 0 0)) ∧
    (st.toNat ≤ en.toNat → o.1 = true → ¬ inner → exec (.lset x) s = .next (s.trap .loopNest 0 0)) ∧
    (st.toNat ≤ en.toNat → (o.1 = true → inner) →
      (n ≠ 0 → ∃ t, exec (.lset x) s = .next t ∧ OthersKept s t ∧ CellsKept s t ∧ MemKept s t ∧ RegsKept s t (0x89#8 :: loopRegs) ∧
        t.fly = s.fly ∧ (¬ atLoopEnd s.b → en ≠ s.b.pc → t.b.pc = after s.b.pc ∧ loopOf t.b x.k = (true, n, st, en) ∧ loopOf t.b (!x.k) = o)) ∧
      (n = 0 → ∃ t, exec (.lset x) s = .next t ∧ OthersKept s t ∧ CellsKept s t ∧ MemKept s t ∧ RegsKept s t (0x89#8 :: loopRegs) ∧
        t.fly = s.fly ∧ loopOf t.b x.k = (false, 0, st, en) ∧
        (o.1 = false ∨ o.2.2.2 ≠ en → t.b.pc = after en ∧ loopOf t.b (!x.k) = o))) ∧
    (∃ t, exec (.lclr w) s = .next t ∧ OthersKept s t ∧ CellsKept s t ∧ MemKept s t ∧ RegsKept s t (0x89#8 :: loopRegs) ∧ t.fly = s.fly ∧
      (w = 0 ∨ w = 2 → loopOf t.b false = (false, 0, 0, 0)) ∧ (w = 1 ∨ w = 2 → loopOf t.b true = (false, 0, 0, 0)) ∧
      (¬ atLoopEnd s.b → t.b.pc = after s.b.pc ∧ (w ≠ 0 → w ≠ 2 → loopOf t.b false = loopOf s.b false) ∧
        (w ≠ 1 → w ≠ 2 → loopOf t.b true = loopOf s.b true))) ∧
    (let i := loopOf s.b true
     let q := loopOf s.b false
     let less := fun (l : Bool × Nat × Word × Word) => (true, (l.2.1 + 2 ^ 32 - 1) % 2 ^ 32, l.2.2)
     let ends := fun (l : Bool × Nat × Word × Word) => l.1 = true ∧ l.2.2.2 = s.b.pc
     ∀ (h : BitVec 6) (a : T3) (m : MoviR) (r : SelR), ∀ e ∈ [Instr.nop, .hint h, .add a, .sub a, .movi m, .sel r], e.wf = true →
      ∃ t, exec e s = .next t ∧
       (ends i → i.2.1 ≠ 1 → t.b.pc = i.2.2.1 ∧ loopOf t.b true = less i ∧ loopOf t.b false = q) ∧
       (¬ ends i → loopOf t.b true = i) ∧
       (ends i → i.2.1 = 1 → loopOf t.b true = (false, 0, i.2.2)) ∧
       (¬ (ends i ∧ i.2.1 ≠ 1) →
         (¬ ends q → t.b.pc = after s.b.pc ∧ loopOf t.b false = q) ∧
         (ends q → q.2.1 = 1 → t.b.pc = after s.b.pc ∧ loopOf t.b false = (false, 0, q.2.2)) ∧
         (ends q → q.2.1 ≠ 1 → t.b.pc = q.2.2.1 ∧ loopOf t.b false = less q)))


/-! ## Tasks, messages and events (16) -/

namespace Sys2Proof.Spec

/-- `n` bytes that an instruction captures from the issuing cell's scratchpad at issue, as `Captures` says of a
descriptor, at an offset of a given alignment (R118, R175, R387). -/
def Caught (s : State) (v : Word) (al n d : Nat) : Prop :=
  v.toNat < 2 ^ 18 ∧ v.toNat % al = 0 ∧ v.toNat + n ≤ 2 ^ 18 ∧ s.portClear s.cur.cell = true ∧
    s.bad (padKey s.cur.cell v.toNat) n = false ∧ d = s.ownBytes v.toNat n (memRead s.mem (padKey s.cur.cell v.toNat) n)

/-- The first of a list of conditions that holds decides a status; 0 where none does. -/
def Decides (l : List (Prop × Nat)) (st : Nat) : Prop :=
  (st = 0 ∧ ∀ e ∈ l, ¬ e.1) ∨ ∃ a b c, l = a ++ (c, st) :: b ∧ c ∧ ∀ e ∈ a, ¬ e.1

/-- The stamp and the message id that the executing cell creates next (R169, R372). -/
def nextStamp (s : State) : Nat :=
  let x := s.cell s.cur.cell
  s.gt.toNat % 2 ^ 48 * 2 ^ 16 + cellName s.cur.cell * 8 + (if x.stampGt = s.gt.toNat then x.stampN % 8 else 0)
def nextId (s : State) : Nat := cellName s.cur.cell * 2 ^ 19 + (s.cell s.cur.cell).seq % 2 ^ 19

/-- The executing task keeps one send more, to leave at its end; nothing has left yet. -/
def Keeps (s t : State) (a : RegSpec) (e : Send) : Prop :=
  Ran s t [a] ∧ t.fly = s.fly ∧ Holds t a 0 ∧ t.sends = s.sends ++ [e]

/-- A handler's entry has been read (R366): nothing but caches, counters and slots of the dies has changed, and bits of
page-table entries that are set. -/
def TableRead (s u : State) : Prop :=
  u = { s with mem := u.mem, dies := u.dies, weak := u.weak } ∧
    (Memory.Wf s.mem → ∀ a, memGet u.mem a = memGet s.mem a ∨ memGet u.mem a = memGet s.mem a ||| 1#8)

/-- Number of entries of a list that meet a test. -/
def count {α : Type} (l : List α) (p : α → Bool) : Nat := (l.filter p).length

end Sys2Proof.Spec

/-- R169, R372, R387, R388 and R390: SEND and TSPAWN give the status of the first check that fails, in the order of
their tables, and change nothing else but by the read of the handler's entry, for whose slots they wait (R383); a send
that passes has its header written and its payload taken, and waits in the task's send buffer, as a spawn does. TINFO gives what its selector names, the budget's rest, sends, ready
entries, queued messages, the bank and handler, the switch-out, the die's dependence table and the home die's active
events. Completes: SEND, TSPAWN, TINFO. -/
def Sys2Proof.Spec.SendsAndSpawns : Prop :=
  ∀ (s v : State) (x : SendR) (y : MovR) (u : TinfoR) (pay block d st : Nat) (k : Task) (known : Bool),
    let lr := s.myLr
    let dest := (s.rd x.c).toNat
    let n := x.len.toNat
    let part := fun i => if x.setm.getLsbD i then block / 2 ^ (64 * i) % 2 ^ 64 else 0
    let sets := part 0 + part 1 * 2 ^ 64 + part 2 * 2 ^ 128 + part 3 * 2 ^ 192
    let die := dieOf s.cur.cell
    let Answers := fun (i : Instr) (a : RegSpec) => ∃ t, exec i s = .next t ∧ TableRead s v ∧ Done v t [a] ∧
      Holds t a (BitVec.ofNat 64 st)
    s.b.task = some k → s.cur.cell < 8192 → x.a.isS = true → y.a.isS = true → u.a.isS = true →
    (Caught s (s.rd x.b) 8 n pay → (x.setm ≠ 0 → Caught s (s.rd x.d) 8 32 block) →
      let early := [(32 ≤ k.sends.length, 1), (8192 ≤ dest ∨ inRect lr dest = false, 2)]
      (Decides early st → st ≠ 0 → Gives s (.send x) x.a (BitVec.ofNat 64 st)) ∧
      (Decides early 0 → s.hasHandler s.gid x.hnd.toNat = none → exec (.send x) s = .next s) ∧
      (Decides early 0 → s.hasHandler s.gid x.hnd.toNat = some (known, v) →
       Decides [(known = false, 3), (192 < n ∨ n % 8 ≠ 0, 4), (setsBad lr die ((descSets sets).map (·.2)) [] = true, 5)] st →
      (st ≠ 0 → Answers (.send x) x.a) ∧
      (st = 0 → ∃ t, exec (.send x) s = .next t ∧ TableRead s v ∧ Keeps v t x.a (.msg {
        hdr := sets * 2 ^ 256 + nextStamp s * 2 ^ 192 + s.gt.toNat * 2 ^ 128 + nextId s * 2 ^ 96 + dest * 2 ^ 83 +
          x.hnd.toNat * 2 ^ 75 + n * 2 ^ 67 + (if x.pri then 2 ^ 66 else 0)
        pay := bytesOf n pay })))) ∧
    (Caught s (s.rd y.b) 64 256 d →
      (32 ≤ k.sends.length → Gives s (.tspawn y) y.a 1) ∧
      (k.sends.length < 32 → s.hasHandler s.gid (spHandler d) = none → exec (.tspawn y) s = .next s) ∧
      (k.sends.length < 32 → s.hasHandler s.gid (spHandler d) = some (known, v) →
       Decides [(known = false, 3),
        (setsBad lr die ((descSets (spSets d)).map (·.2.plain)) [] = true, 5),
        (∃ e ∈ spTiles d false ++ spTiles d true, tValid (s.tidEnt s.gid die e.1) = false, 6),
        (spPlaceOk lr d = false, 7), (spZeros d = false, 9)] st →
      (st ≠ 0 → Answers (.tspawn y) y.a) ∧
      (st = 0 → ∃ t, exec (.tspawn y) s = .next t ∧ TableRead s v ∧ Keeps v t y.a (.spawn {
        desc := d, age := BitVec.ofNat 64 (nextStamp s), msgid := nextId s, gts := s.gt.toNat, gid := s.gid, die := die,
        parent := s.act })))) ∧
    (let c := s.cell s.cur.cell
     ∀ e ∈ [(0, if fld lr 479 448 = 0 then 2 ^ 64 - 1 else fld lr 479 448 - s.usedCycles k), (1, k.sends.length),
        (2, count c.ready (·.hi) * 256 + count c.ready (fun r => !r.hi)), (3, c.qhi.length * 256 + c.qlo.length),
        (4, (if s.cur.hi then 256 else 0) + k.msg.handler),
        (5, if ((look s.grids s.gid).map (·.resid)) = some .preempting then 1 else 0), (6, (s.die die).dep.length),
        (7, s.evHome (dieOf (originOf lr)))],
      u.sel.toNat = e.1 → Gives s (.tinfo u) u.a (BitVec.ofNat 64 e.2))

namespace Sys2Proof.Spec

/-- A send as it leaves the task. -/
def leaves (s : State) (k : Task) (sc : Scope) : Send → Flight
  | .msg m => .msg s.gid { msg := m, sc := sc, src := some k.act }
  | .spawn p => .dep p sc

end Sys2Proof.Spec

/-- R287, R389, R376 and R399: TEND makes the task's unresolved guards false and waits while a command that is not
detached is under way; a holder's buffer then drains first; then, its release complete, the sends and spawns leave in
the order of their instructions, what waited for its spawn waits no more, its batch's list slot is free, and the bank
is idle. Completes: TEND. -/
def Sys2Proof.Spec.TaskEnd : Prop :=
  ∀ (s : State) (sc : Scope) (k : Task) (g : Grid),
    let guards := fun (t : State) => ∀ n, n < 15 → look t.b.guards n = some ((look s.b.guards n).getD false)
    let idle := fun (t : State) => ∀ r, (∀ n : Nat, n < 15 → r ≠ 0xB0#8 + BitVec.ofNat 8 n) →
      readReg t.gt t.b r = readReg s.gt s.b r ∧ (rbank r = 1 → readVec t.b r = readVec s.b r)
    s.b.task = some k → k.ending = .none → look s.grids k.gid = some g →
    (s.owes s.cur.cell k.act = true → ∃ t, exec (.tend sc) s = .next t ∧ MemKept s t ∧ BanksKept s t ∧ guards t ∧ idle t ∧
      t.b.task = some k ∧ t.fly = s.fly) ∧
    (s.owes s.cur.cell k.act = false → s.holder = true → ∃ t, exec (.tend sc) s = .next t ∧ MemKept s t ∧ BanksKept s t ∧
      guards t ∧ idle t ∧ t.b.task = some { k with ending := .draining } ∧ t.fly = s.fly) ∧
    (s.owes s.cur.cell k.act = false → s.holder = false → Released s →
      (∀ p, .spawn p ∈ k.sends → (s.die p.die).dep.length + count s.fly (fun f => match f.f with | .dep q _ => q.die == p.die | _ => false) +
        k.sends.length ≤ 4096) →
      ∃ t, exec (.tend sc) s = .next t ∧ MemKept s t ∧ guards t ∧ idle t ∧ t.b.task = none ∧
        (∀ c hi, c ≠ s.cur.cell → t.bank c hi = s.bank c hi) ∧
        t.fly = s.fly ++ k.sends.zipIdx.map (fun e => flight s e.2 (leaves s k sc e.1)) ∧
        look t.grids k.gid = some { g with tasks := g.tasks + 1 } ∧
        (∀ d m, k.dep = some (d, m) → ∀ e ∈ (t.die d).dep, e.p.msgid ≠ m ∧ m ∉ e.after) ∧
        (∀ d b n, k.batch = some (d, b, n) → ∀ x, look (s.die d).gates b = some x →
          ∃ y, look (t.die d).gates b = some y ∧ y.busy = x.busy.erase n))

/-- What a task sends, and its end: the statements SendsAndSpawns, TaskEnd above, together.
Where the rules leave a point open the statement follows the model's choices of log 15, 25, 92 and 97; that the set
checks take a TSPAWN's descriptors without their reserved bits, which its check 9 tests, and a SEND's whole is the
model's choice of log 99. -/
def Obligations.TasksSendAndEnd : Prop :=
  Sys2Proof.Spec.SendsAndSpawns ∧ Sys2Proof.Spec.TaskEnd

/-- R174, R380 and R391: EVSIG, EVSET and EVCLR raise ASET.IRREV in a holder; else, their release complete, they send
their operation to the event's home, as EVREAD does at once. There the operation takes effect on the one count: a
signal adds, held at 2^32-1, a set replaces, a clear makes it zero; the waits that the count reaches are met and stay
met, and the register takes the count as it was. One from another die waits while its flits are spent (R383).
Completes: EVSIG, EVSET, EVCLR, EVREAD, EVENT_HOME_ARRIVAL. -/
def Sys2Proof.Spec.Events : Prop :=
  (∀ (s : State) (x : EvR) (y : EvcR),
    let n := fun (c : RegSpec) (name : BitVec 16) => ((s.rd c).toNat + name.toNat) % 2 ^ 16
    let v := (s.rd x.b).toNat % 2 ^ 32
    (∀ e ∈ [(Instr.evsig x, x.a, ({ kind := 0, name := n x.c x.name, val := v, acq := none } : EvOp)),
        (.evset x, x.a, { kind := 1, name := n x.c x.name, val := v, acq := none }),
        (.evclr y, y.a, { kind := 2, name := n y.c y.name, val := 0, acq := none })],
      (s.holder = true → exec e.1 s = .next (s.trap .asetIrrev 0 0)) ∧
      (s.holder = false → Released s → ∃ t, exec e.1 s = .next t ∧ Sent s t e.2.1 (.event s.who e.2.2 e.2.1))) ∧
    ∃ t, exec (.evread y) s = .next t ∧
      Sent s t y.a (.event s.who { kind := 3, name := n y.c y.name, val := 0, acq := some y.sc } y.a)) ∧
  ∀ (s : State) (k n c : Nat) (w : Who) (e : EvOp) (dst : RegSpec) (g : Grid),
    let old := lookD g.events e.name 0
    let new := match e.kind with | 0 => if old + e.val < 2 ^ 32 then old + e.val else 2 ^ 32 - 1 | 1 => e.val | 2 => 0 | _ => old
    s.flight k = some { n := n, cell := c, f := .event w e dst } → look s.grids w.gid = some g → g.replay = none →
    recording g.lr = false →
    (s.roundTrip w.gid (dieOf w.cell) (dieOf (originOf g.lr)) = none → exec (.eventHomeArrival k) s = .next s) ∧
    ((s.roundTrip w.gid (dieOf w.cell) (dieOf (originOf g.lr))).isSome = true →
    ∃ t h, exec (.eventHomeArrival k) s = .next t ∧ MemKept s t ∧ (e.acq = none → t.fly = s.fly.eraseIdx k) ∧ look t.grids w.gid = some h ∧
      lookD h.events e.name 0 = new ∧ (∀ m, m ≠ e.name → lookD h.events m 0 = lookD g.events m 0) ∧
      (∀ d x, look t.dies d = some x → ∀ q ∈ x.dep, q.p.gid = w.gid →
        (∀ th, spWait q.p.desc 0 = some (e.name, th) → th ≤ new → q.ev0 = true) ∧
        (∀ th, spWait q.p.desc 1 = some (e.name, th) → th ≤ new → q.ev1 = true)) ∧
      (s.live w.cell w.hi w.act = true → dst.isS = true →
        readReg t.gt (t.bank w.cell w.hi) dst = if dst = 0#8 then 0 else BitVec.ofNat 64 old))


/-- R373, R374 and R383: a message from another die takes its flits as they come, and waits while some are to be had; it
then enters its destination's queue behind those before it; with the queue full, or messages
of it in the overflow area, it goes to the area, and the grid ends with status 0x14 when the area is full. The oldest
message of a queue in the area enters it when an entry is free. A ready entry is filled from a task to run again, or
else from the queue's head; a low entry leaves eight for the high bank. Completes: MESSAGE_ARRIVAL, OVERFLOW_RETURN,
READY_ENTRY_FILL. -/
def Sys2Proof.Spec.MessageQueues : Prop :=
  (∀ (s : State) (n c g key : Nat) (q : QMsg) (x : Grid),
    let dest := q.msg.dest
    let die := dieOf dest
    let queue := fun (t : State) => if q.msg.pri then (t.cell dest).qhi else (t.cell dest).qlo
    let spilled := (s.die die).spillQ
    let mine := 2 * dest + (if q.msg.pri then 1 else 0)
    look s.grids g = some x → recording x.lr = false → x.replay = none → (s.cell dest).grid = some g →
    (∀ k, s.flight k = some { n := n, cell := c, f := .msg g q } → (∀ f ∈ s.fly, msgBefore n q f = false) →
      let paid := s.flitsUp g (dieOf c) (if dieOf c = die then 0 else q.flits - q.paid)
      let p := { q with paid := 0 }
      (paid.2 ≠ 0 → ∃ t, exec (.messageArrival k) s = .next t ∧ MemKept s t ∧ t.cells = s.cells ∧
        t.fly[k]? = some { n := n, cell := c, f := .msg g { q with paid := q.flits - paid.2 } }) ∧
      (paid.2 = 0 → (((queue s).length < 32 ∧ ∀ e ∈ spilled, ¬ (e.1 = g ∧ e.2.1 = mine)) →
        ∃ t, exec (.messageArrival k) s = .next t ∧ MemKept s t ∧ (∀ c hi, t.bank c hi = s.bank c hi) ∧
          queue t = queue s ++ [p] ∧ t.fly = s.fly.eraseIdx k) ∧
      ((32 ≤ (queue s).length ∨ ∃ e ∈ spilled, e.1 = g ∧ e.2.1 = mine) →
        (spilled.length < (lookD s.plat.msgArea die (0, 0)).2 / 256 →
          ∃ t, exec (.messageArrival k) s = .next t ∧ MemKept s t ∧ (t.die die).spillQ = spilled ++ [(g, mine, p)] ∧
            t.cells = s.cells ∧ t.fly = s.fly.eraseIdx k) ∧
        ((lookD s.plat.msgArea die (0, 0)).2 / 256 ≤ spilled.length → x.ending = none →
          ∃ t, exec (.messageArrival k) s = .next t ∧ MemKept s t ∧ t.cells = s.cells ∧
            look t.grids g = some { x with ending := some { status := 0x14 } })))) ∧
    (∀ d i, let l := (s.die d).spillQ
      l[i]? = some (g, key, q) → (∀ e ∈ l.take i, ¬ (e.1 = g ∧ e.2.1 = key)) → (queue s).length < 32 →
      ∃ t, exec (.overflowReturn d i) s = .next t ∧ MemKept s t ∧ queue t = queue s ++ [q] ∧ (t.die d).spillQ = l.eraseIdx i)) ∧
  ∀ (s : State) (c : Nat) (hi : Bool),
    let x := s.cell c
    let queue := fun (y : Cell) => if hi then y.qhi else y.qlo
    let room := x.ready.length < 32 ∧ (hi = true ∨ count x.ready (fun r => !r.hi) < 24)
    (¬ room → exec (.readyEntryFill c hi) s = .next s) ∧
    (∀ r, room → x.again.find? (fun r => r.hi == hi) = some r → ∃ t, exec (.readyEntryFill c hi) s = .next t ∧ MemKept s t ∧
      (t.cell c).ready = x.ready ++ [{ r with pass := 0 }] ∧ (t.cell c).again = x.again.erase r ∧ queue (t.cell c) = queue x ∧
      (∀ hi, t.bank c hi = s.bank c hi) ∧ ∀ j, j ≠ c → t.cell j = s.cell j) ∧
    (∀ q rest, room → (∀ r ∈ x.again, r.hi ≠ hi) → queue x = q :: rest → ∃ t r, exec (.readyEntryFill c hi) s = .next t ∧ MemKept s t ∧
      (t.cell c).ready = x.ready ++ [r] ∧ r.hi = hi ∧ r.msg = q.msg ∧ r.pass = 0 ∧ r.dep = q.dep ∧ r.batch = q.batch ∧
      queue (t.cell c) = rest ∧ (∀ hi, t.bank c hi = s.bank c hi) ∧ ∀ j, j ≠ c → t.cell j = s.cell j)

namespace Sys2Proof.Spec

/-- `r` is the oldest of some ready entries (R169). -/
def OldestOf (l : List Ready) (r : Ready) : Prop :=
  r ∈ l ∧ ∀ q ∈ l, q ≠ r → older r.msg.age r.msg.id q.msg.age q.msg.id = true

/-- The entry that R375 picks: the oldest, once one has been passed over 16 times or when none has the handler of the
task that ran last; else the oldest of that handler. -/
def Picked (l : List Ready) (last : Option Nat) (r : Ready) : Prop :=
  if ∃ q ∈ l, 16 ≤ q.pass then OldestOf l r
  else if ∃ q ∈ l, some q.msg.handler = last then OldestOf (l.filter (fun q => some q.msg.handler == last)) r
  else OldestOf l r

end Sys2Proof.Spec

/-- R161, R193, R371 and R375: an idle bank of a grid that runs takes the ready entry that R375 picks, and those of
its bank that are older pass on. The message's header and payload are written below the frame top; the registers have
the values of R193's table, every other one is zero; pc is the handler's address, and the sets of the header are
declared. Completes: TASK_START. -/
def Sys2Proof.Spec.TaskStart : Prop :=
  ∀ (s u : State) (c g pc : Nat) (hi : Bool) (x : Grid) (r : Ready),
    let y := s.cell c
    let top := 0x3FFC0 - (if hi then fld x.lr 438 432 * 1024 else 0)
    Memory.Wf s.mem → y.grid = some g → look s.grids g = some x → x.ending = none → x.resid = .running → recording x.lr = false →
    x.replay = none → (s.bank c hi).task = none → (hi = true → y.lo.joint = false) → (hi = false → y.hi.task = none) →
    s.pendAt g c = false → Picked (y.ready.filter (fun q => q.hi == hi)) (s.bank c hi).lastTag r →
    s.handlerPc c g r.msg.handler = .ok (pc, u) → pc < 2 ^ 64 → r.msg.pay.length ≤ 192 →
    ∃ t k, exec (.taskStart c hi) s = .next t ∧
      ((∀ f ∈ s.fly, ∀ a d tr, f.f = .reply a d tr → a.op.wholeLine = false) → t.fly = s.fly) ∧
      let b := t.bank c hi
      let reg := fun (n v : Nat) => readReg t.gt b (BitVec.ofNat 8 n) = BitVec.ofNat 64 v
      b.task = some k ∧ k.gid = g ∧ k.msg = r.msg ∧ k.slots = descSets (r.msg.hdr / 2 ^ 256) ∧
      reg 2 (top - 256) ∧ reg 3 (top - 256) ∧ reg 60 (top - 192) ∧ reg 61 (fld x.lr 319 256) ∧ reg 62 0x3FFC0 ∧
      reg 0x89 pc ∧ reg 0x8A (fld x.lr 429 424 * 2 ^ 8 + (if hi then 2 ^ 16 else 0)) ∧ reg 0x8B (fld r.msg.hdr 255 192) ∧
      reg 0x8C (fld r.msg.hdr 127 96) ∧
      (∀ q : RegSpec, rbank q ≠ 3 → q ∉ [2#8, 3#8, 60#8, 61#8, 62#8, 0x80#8, 0x89#8, 0x8A#8, 0x8B#8, 0x8C#8, 0x8D#8] → readReg t.gt b q = 0) ∧
      (∀ q, readVec b q = 0) ∧ (∀ d hi2, d ≠ c → t.bank d hi2 = s.bank d hi2) ∧
      (∀ i, i < 64 → memGet t.mem (padKey c (top - 256 + i)) = BitVec.ofNat 8 (byteAt r.msg.hdr i)) ∧
      (∀ i, i < r.msg.pay.length → some (memGet t.mem (padKey c (top - 192 + i))) = r.msg.pay[i]?) ∧
      (∀ a, (a < padKey c (top - 256) ∨ padKey c (top - 192) + r.msg.pay.length ≤ a) → memGet t.mem a = memGet u.mem a) ∧
      (t.cell c).ready = (y.ready.erase r).map (fun q =>
        if q.hi = r.hi ∧ older q.msg.age q.msg.id r.msg.age r.msg.id = true then { q with pass := q.pass + 1 } else q)

/-- Messages, the ready table and the start of a task: the statements MessageQueues, TaskStart above, together.
Where the rules leave a point open the statement follows the model's choices of log 88, 92. -/
def Obligations.TasksAreChosen : Prop :=
  Sys2Proof.Spec.MessageQueues ∧ Sys2Proof.Spec.TaskStart

/-- R233, R376, R377, R378 and R381: a spawn enters its die's table behind the spawns of its own task, and waits for
those that the barrier flag names and, where its tiles are not renamed, for exactly those with which it conflicts; a
renamed write takes the next buffer and waits for the spawns that have it still, and a renamed read takes the entry's
buffer and waits for its newest writer. A spawn that no order
and no event holds goes to its placement as a message with its handler, its sets and the first 64 bytes of its
descriptor, once. A task whose counted cycles exceed BUDGET raises WDOG at its pc, and no other does. Completes:
DEP_TABLE_ENTRY, SPAWN_READY, WDOG. -/
def Sys2Proof.Spec.Dependence : Prop :=
  (∀ (s : State) (k n c : Nat) (p : Spawn) (sc : Scope),
    let table := (s.die p.die).dep
    let mine := table.filter (fun e => e.p.gid == p.gid)
    s.flight k = some { n := n, cell := c, f := .dep p sc } → (look s.grids p.gid).isSome = true →
    ((table.length < 4096 ∧ ∀ f ∈ s.fly, ∀ q sc, f.f = .dep q sc → q.parent = p.parent → n ≤ f.n) →
      ∃ t e, exec (.depTableEntry k) s = .next t ∧ MemKept s t ∧ (∀ c hi, t.bank c hi = s.bank c hi) ∧ t.cells = s.cells ∧
        (t.die p.die).dep = table ++ [e] ∧ e.p = p ∧ e.started = false ∧
        (spWait p.desc 0 = none → e.ev0 = true) ∧ (spWait p.desc 1 = none → e.ev1 = true) ∧
        (∀ m ∈ e.after, ∃ f ∈ mine, f.p.msgid = m) ∧
        (bit (spCtl p.desc) 8 = true → ∀ f ∈ mine, f.p.parent = p.parent → f.p.msgid ∈ e.after) ∧
        let d0 := dieOf (originOf (s.lr p.gid))
        let entry := fun (id : Nat) => s.tidEnt p.gid d0 id
        let renamed := fun (id : Nat) => (entry id).testBit 10 = true ∧ (entry id).testBit 15 = true
        let barred := fun (f : Dep) => bit (spCtl p.desc) 8 = true ∧ f.p.parent = p.parent
        let reads := fun (q : Spawn) => spTiles q.desc false
        let writes := fun (q : Spawn) => spTiles q.desc true
        let waitsFor := fun (cond : Dep → Prop) => ∀ m, m ∈ e.after ↔ ∃ f ∈ mine, f.p.msgid = m ∧ (barred f ∨ cond f)
        ((∀ x ∈ reads p ++ writes p, ¬ renamed x.1) →
          waitsFor (fun f => ∃ x, (x ∈ writes p ∧ (x ∈ writes f.p ∨ x ∈ reads f.p)) ∨ (x ∈ reads p ∧ x ∈ writes f.p))) ∧
        (∀ x, reads p = [] → writes p = [x] → renamed x.1 →
          let cur := (bits (entry x.1) 6 4 + 1) % (bits (entry x.1) 11 4 + 1)
          look e.bufs x.1 = some cur ∧ t.tidEnt p.gid d0 x.1 = tSetCur (entry x.1) cur ∧
            waitsFor (fun f => look f.bufs x.1 = some cur)) ∧
        (∀ x, reads p = [x] → writes p = [] → renamed x.1 →
          let cur := bits (entry x.1) 6 4
          let writer := fun (f : Dep) => look f.bufs x.1 = some cur ∧ ∃ y ∈ writes f.p, y.1 = x.1
          look e.bufs x.1 = some cur ∧ ∀ m, m ∈ e.after ↔ (∃ f ∈ mine, f.p.msgid = m ∧ barred f) ∨
            ∃ a f b, mine = a ++ f :: b ∧ writer f ∧ (∀ g ∈ b, ¬ writer g) ∧ f.p.msgid = m)) ∧
    (4096 ≤ table.length → exec (.depTableEntry k) s = .next s)) ∧
  (∀ (s : State) (d i : Nat) (e : Dep), (s.die d).dep[i]? = some e →
    (e.started = true ∨ e.after ≠ [] ∨ e.ev0 = false ∨ e.ev1 = false → exec (.spawnReady d i) s = .next s) ∧
    (e.started = false → e.after = [] → e.ev0 = true → e.ev1 = true → s.placement e = none → exec (.spawnReady d i) s = .next s) ∧
    (spPlace e.p.desc = 0 → s.placement e = some (bits (spCtl e.p.desc) 16 13, s)) ∧
    (∀ dest u, e.started = false → e.after = [] → e.ev0 = true → e.ev1 = true → s.placement e = some (dest, u) →
     ∃ t q, exec (.spawnReady d i) s = .next t ∧ TableRead s u ∧ MemKept u t ∧
      t.cells = s.cells ∧ (t.die d).dep = (s.die d).dep.set i { e with started := true } ∧
      t.fly = s.fly ++ [{ n := s.serial, cell := msgCell e.p.msgid, f := .msg e.p.gid q }] ∧
      q.dep = some (d, e.p.msgid) ∧ q.bufs = e.bufs ∧ q.sc = e.sc ∧ q.msg.pay = bytesOf 64 e.p.desc ∧
      q.msg.handler = spHandler e.p.desc ∧ q.msg.age = e.p.age ∧ q.msg.id = e.p.msgid % 2 ^ 32 ∧
      q.msg.dest = dest % 2 ^ 13 ∧ q.msg.pri = bit (spCtl e.p.desc) 9 ∧ q.msg.hdr / 2 ^ 256 = spSets e.p.desc)) ∧
  ∀ (s : State) (c : Nat) (hi : Bool) (k : Task),
    let b := fld (s.lr k.gid) 479 448
    (s.bank c hi).task = some k → k.halted = none → k.ending ≠ .draining → k.ending ≠ .drained →
    (b ≠ 0 → b < s.usedCycles k → exec (.wdog c hi) s = .next (s.takeTrap c hi
      { cause := .wdog, pc := (s.bank c hi).pc.toNat, detail := s.usedCycles k, insn := insnAt (s.bank c hi) (s.bank c hi).pc.toNat })) ∧
    (b = 0 ∨ s.usedCycles k ≤ b → exec (.wdog c hi) s = .next s)

/-- Events, and tasks that wait for them: the statements Events, Dependence above, together.
Where the rules leave a point open the statement follows the model's choices of log 92. -/
def Obligations.DependenceAndEvents : Prop :=
  Sys2Proof.Spec.Events ∧ Sys2Proof.Spec.Dependence


/-! ## Streams (17) -/

namespace Sys2Proof.Spec

/-- The operations that the stream instructions send: instruction, stream id, what is written to the scratchpad
(offset, alignment, bytes), register, operation (R405). -/
def streamOps (s : State) (f : SforkR) (r : SforkRootR) (j : SjoinR) (m : MovR) (p : A3) (g : SgateR) (q : SmigR) :
    List (Instr × Nat × Option (Nat × Nat × Nat) × RegSpec × StreamOp) :=
  let id := fun (b : RegSpec) => (s.rd b).toNat
  [(.sfork f, id f.b, some (f.loff.toNat, 4, 4 * f.n.toNat), f.a, .fork f.n.toNat f.hor.toNat f.pers f.loff.toNat),
   (.sforkRoot r, dieOf s.cur.cell * 2 ^ 14 + cluOf s.cur.cell, some (r.loff.toNat, 4, 4 * r.n.toNat), r.a,
     .root r.n.toNat r.hor.toNat r.pers r.loff.toNat (id r.c) (id r.d % 2 ^ 32)),
   (.sjoin j, id j.b, some (j.ooff.toNat, 8, 8), j.a, .join j.red.toNat j.keep.toNat j.adopt j.wait j.ooff.toNat),
   (.skill m, id m.b, none, m.a, .kill), (.sstep m, id m.b, none, m.a, .step),
   (.spopa p, id p.b, some (id p.c, 64, 64), p.a, .popa (id p.c)), (.sret p, id p.b, none, p.a, .ret (id p.c % 2 ^ 32)),
   (.sgate g, id g.b, none, g.a, .gate g.layer.toNat),
   (.smig q, id q.b, none, q.a, .mig [q.x0.toNat, q.x1.toNat, q.x2.toNat, q.x3.toNat] q.die.toNat q.unlink),
   (.sflat m, id m.b, none, m.a, .flat)]

/-- A stream instruction on its way to its slice, its register pending; `acq` is the scope of its acquire (R406). -/
def StreamSent (s t : State) (sid : Nat) (op : StreamOp) (r : RegSpec) (acq : Bool) : Prop :=
  Sent s t r (.access { s.acc 0 (.hearth sid 0) 8 (.stream op r s.gt.toNat) with
    acq := if acq then some (if fld sid 16 14 = dieOf s.cur.cell then Scope.die else .pkg) else none })

/-- An offset from which `n` bytes are written is inside the scratchpad and aligned (R118, R405). -/
def Fits (off al n : Nat) : Prop := off % al = 0 ∧ off + n ≤ 2 ^ 18 ∧ off < 2 ^ 18

end Sys2Proof.Spec

/-- R174, R395, R396, R400 to R403, R405 and R406: a stream instruction raises ASET.IRREV in a holder, and the cause of
R118 when what it writes does not fit the scratchpad; else, its release complete, it goes to the slice of its stream,
the root fork to that of its cluster, with its register pending. SACT takes its 64 bytes at issue. SINFO has no
release. Completes: SFORK, SFORK with root, SJOIN, SKILL, SSTEP, SACT, SPOPA, SRET, SGATE, SMIG, SFLAT, SINFO. -/
def Obligations.StreamsAreIssued : Prop :=
  ∀ (s : State) (f : SforkR) (r : SforkRootR) (j : SjoinR) (m : MovR) (p : A3) (g : SgateR) (q : SmigR) (d : Nat),
    (∀ e ∈ streamOps s f r j m p g q,
      (s.holder = true → exec e.1 s = .next (s.trap .asetIrrev 0 0)) ∧
      (s.holder = false → ∀ off al n, e.2.2.1 = some (off, al, n) →
        (2 ^ 18 ≤ off → exec e.1 s = .next (s.trap .addrRange off 0)) ∧
        (off < 2 ^ 18 → off % al ≠ 0 → exec e.1 s = .next (s.trap .memAlign off 0)) ∧
        (off < 2 ^ 18 → off % al = 0 → 2 ^ 18 < off + n → exec e.1 s = .next (s.trap .addrRange off 0))) ∧
      (s.holder = false → (∀ off al n, e.2.2.1 = some (off, al, n) → Fits off al n) → Released s →
        ∃ t, exec e.1 s = .next t ∧ StreamSent s t e.2.1 e.2.2.2.2 e.2.2.2.1 true)) ∧
    (s.holder = false → Caught s (s.rd p.c) 64 64 d → Released s →
      ∃ t, exec (.sact p) s = .next t ∧ StreamSent s t (s.rd p.b).toNat (.act d) p.a true) ∧
    (s.holder = true → exec (.sact p) s = .next (s.trap .asetIrrev 0 0)) ∧
    (Fits (s.rd p.c).toNat 64 64 → ∃ t, exec (.sinfo p) s = .next t ∧
      StreamSent s t (s.rd p.b).toNat (.info (s.rd p.c).toNat) p.a false)

namespace Sys2Proof.Spec

/-- An answer of a stream instruction is on its way: status and value (R406). -/
def Answered (t : State) (n : Nat) (a : Access) (status val : Nat) : Prop :=
  ({ n := n, cell := a.cell, f := .reply a (status * 2 ^ 48 + val % 2 ^ 48) none } : Fly) ∈ t.fly

/-- A fork that names no parent, or a persistent one, which only a root fork may be. -/
def isRoot : StreamOp → Bool
  | .root _ _ _ _ _ _ => true
  | .fork _ _ pers _ => pers
  | _ => false

/-- The operations that act on a ready stream (R396, R398). -/
def needsReady : StreamOp → Bool
  | .step | .act _ | .popa _ | .ret _ | .gate _ => true
  | _ => false

/-- An access to state is the one of its instruction that is still on its way. -/
def Alone (s : State) (k : Nat) (a : Access) : Prop :=
  ∀ j f, s.fly[j]? = some f → j ≠ k → withState a f.f = false

/-- A stream that the instructions of R396 act on. -/
def isReady (e : Stream) : Prop := e.status = .live ∨ (e.status = .atGate ∧ e.disp = true)

/-- The ids of new streams stand in the scratchpad of the cell that forks, one word each (R395). -/
def Listed (s t : State) (c loff d : Nat) (ents : List Nat) : Prop :=
  Memory.Wf s.mem → loff + 4 * ents.length ≤ 0x3FFC0 → ∀ (j e : Nat), ents[j]? = some e →
    memRead t.mem (padKey c (loff + 4 * j)) 4 = d * 2 ^ 14 + e

/-- The stamp of the child of an index: the time of the instruction, its cell, the index (R393, R395). -/
def bornAt (gt c j : Nat) : BitVec 64 := BitVec.ofNat 64 (gt % 2 ^ 48 * 2 ^ 16 + cellName c * 8 + j)

/-- What a fork of a stream that has no children leaves (R395): the parent waits, and each child is a live stream of
its parent's queue and discount, over a fork of its map. -/
def Forked (t : State) (a : Access) (sid hor gt : Nat) (p : Stream) (ents maps : List Nat) : Prop :=
  t.sEnt sid = some { p with status := .waitJoin } ∧
  ∀ (j e m : Nat), ents[j]? = some e → maps[j]? = some m → t.sEnt (fld sid 16 14 * 2 ^ 14 + e) = some
    { p with status := .live, gid := a.gid, asid := a.asid, map := m, ret := 0, jval := 0, jwin := 0, parent := sid, pv := true,
             horizon := hor, steps := 0, layer := 0, owner := a.cell, seq := 0, lnk := false, disp := false, mig := false,
             age := bornAt gt a.cell j, arrived := 0, pinned := false }

/-- The packets of a transfer: the entry without its link, the queue, and each visible page in sixteen parts, the
last packet so marked (R403, R444, R446). -/
def Packed (s : State) (sid : Nat) (e : Stream) (x : List Nat) (die : Nat) (a : Access) (l : List Packet) : Prop :=
  let d := fld sid 16 14
  (∀ (j : Nat) p, l[j]? = some p → ∃ m, p = .migreq x m ∧ m.src = s.plat.here ∧ m.xfer = s.plat.xfers ∧ m.die = BitVec.ofNat 3 die ∧
    m.gangid = fld (s.lr a.gid) 927 896 ∧ (m.last = true ↔ j + 1 = l.length) ∧
    (j = 0 → m.part = .entry (BitVec.ofNat 512 (s.report sid { e with mig := true, lnk := false, seq := 0 }))) ∧
    (j = 1 → m.part = .queue (e.queue.map (BitVec.ofNat 512)))) ∧ 2 ≤ l.length ∧
  ∀ p ∈ (s.die d).pool.visible 4 e.map, ∀ j, j < 16 → ∃ m, .migreq x m ∈ l ∧
    m.part = .page p.1 (2048 * j) (bytesOf 2048 (memRead s.mem (hearthKey d p.2 (2048 * j)) 2048))

/-- What a join of a group leaves that adopts and keeps none (R400). -/
def JoinedAll (t : State) (n sid red : Nat) (a : Access) (p : Stream) (g : List (Nat × Stream)) (win : Nat × Stream) : Prop :=
  Answered t n a 0 (g.length * 2 ^ 32 + joinValue red g win.2) ∧
    t.sEnt sid = some { p with jval := joinValue red g win.2, jwin := win.1, status := .live }

/-- The member of a group that no other beats (R348). -/
def Wins (g : List (Nat × Stream)) (win : Nat × Stream) : Prop :=
  win ∈ g ∧ (∀ x ∈ g, x.1 = win.1 → x = win) ∧ ∀ x ∈ g, x.1 ≠ win.1 → pairBeats (win.2.ret, win.1) (x.2.ret, x.1) = true

end Sys2Proof.Spec

/-- R81, R101, R102, R103, R393, R396, R398, R401, R402 and R404: what arrives at a hearth slice waits for what must
precede it, and from another die for its flits. A stream that the grid does not reach answers DEAD, one that is not
ready STATE, with no change. The accesses of one instruction to state arrive together, and where one traps none has an
effect (R261). SSTEP counts a step down, and ends the stream at horizon zero; SACT and SPOPA add to and
take from its queue; SRET adds to its return; SGATE parks it at a configured gate; SKILL leaves no trace of a stream
with no parent and no child; SINFO answers OK. A state load reads the page the map shows, or zero; a store to a page
that the map owns alone writes it in place. Completes: HEARTH_SLICE_ARRIVAL. -/
def Sys2Proof.Spec.StreamsAtTheirSlice : Prop :=
  ∀ (s : State) (k n c sid off : Nat) (a : Access),
    s.flight k = some { n := n, cell := c, f := .access a } → a.loc = .hearth sid off →
    (s.blocked n a = true → exec (.hearthSliceArrival k) s = .next s) ∧
    (s.roundTrip a.gid (dieOf a.cell) (fld sid 16 14) = none → a.op.isStream = true ∨ Alone s k a →
      exec (.hearthSliceArrival k) s = .next s ∨ (look s.grids a.gid).isNone = true) ∧
    (a.op.isStream = false → ∃ t, exec (.hearthSliceArrival k) s = .next t ∧ ∀ f ∈ t.fly, f ∉ s.fly →
      ∀ b v tr, f.f = .reply b v (some tr) → MemKept s t ∧ t.dies = s.dies) ∧
    (∀ u, s.blocked n a = false → (look s.grids a.gid).isSome = true → s.roundTrip a.gid (dieOf a.cell) (fld sid 16 14) = some u →
      let Ends := fun (P : State → Prop) => ∃ t, exec (.hearthSliceArrival k) s = .next t ∧ (∀ c hi, t.bank c hi = s.bank c hi) ∧ P t
      let Says := fun (status val : Nat) (e : Stream) => Ends (fun t => Answered t n a status val ∧ t.sEnt sid = some e)
      ∀ ret gt,
      (∀ op, s.stream? a sid = none → a.op = .stream op ret gt → isRoot op = false → s.seqBusy a sid op = false →
        Ends (fun t => t.dies = u.dies ∧ MemKept s t ∧ ∃ v, Answered t n a 0xA1 v)) ∧
      (∀ e op, s.stream? a sid = some e → ¬ isReady e → needsReady op = true →
        a.op = .stream op ret gt → Ends (fun t => t.dies = u.dies ∧ MemKept s t ∧ ∃ v, Answered t n a 0xA2 v)) ∧
      (∀ e, s.stream? a sid = some e → isReady e →
        (a.op = .stream .step ret gt →
          (e.horizon = 0 → Says 0 0 { e with status := .done }) ∧
          (e.horizon ≠ 0 → let st := if e.horizon = 1 then SStat.done else .live
            Says 0 (e.horizon - 1) { e with status := st, horizon := e.horizon - 1, steps := (e.steps + 1) % 2 ^ 16 })) ∧
        (∀ data, a.op = .stream (.act data) ret gt →
          (e.queue.length < 64 → Says 0 (e.queue.length + 1) { e with status := .live, queue := e.queue ++ [data] }) ∧
          (64 ≤ e.queue.length → Says 0xA7 e.queue.length e)) ∧
        (∀ o, a.op = .stream (.popa o) ret gt →
          (e.queue = [] → Says 0xA8 0 e) ∧
          (∀ x q, e.queue = x :: q → Says 0 q.length { e with status := .live, queue := q })) ∧
        (∀ r, a.op = .stream (.ret r) ret gt → ∃ v, Says 0 v { e with status := .live, ret := v } ∧
          v = rne fmt32 (Machine.Num.add false (decodeF fmt32 e.ret)
            (Machine.Num.mul (decodeF fmt32 r) (Machine.Num.pow (decodeF fmt32 e.disc) e.steps)).1).1) ∧
        (∀ layer, a.op = .stream (.gate layer) ret gt →
          (∀ g cfg, look s.grids a.gid = some g → look g.gates layer = some cfg → cfg.testBit 0 = true →
            Ends (fun t => Answered t n a 0 0 ∧
              (∃ p, t.sEnt sid = some { e with layer := layer, status := .atGate, disp := false, arrived := s.gt.toNat, pinned := p }) ∧
              ∃ x, look (t.die (fld sid 16 14)).gates (a.gid * 1024 + layer) = some x ∧
                x.parked = (lookD (s.die (fld sid 16 14)).gates (a.gid * 1024 + layer) {}).parked ++ [sid])) ∧
          (∀ g, look s.grids a.gid = some g → look g.gates layer = none → Ends (fun t => t.dies = u.dies ∧ ∃ v, Answered t n a 0xAA v)))) ∧
      (∀ e, s.stream? a sid = some e → a.op = .stream .kill ret gt → e.mig = false → e.pv = false → e.lnk = false →
        s.kids sid = [] → Ends (fun t => Answered t n a 0 1 ∧ t.sEnt sid = none)) ∧
      (∀ e o, s.stream? a sid = some e → a.op = .stream (.info o) ret gt → Says 0 0 e) ∧
      (∀ e, s.stream? a sid = some e → isReady e ∨ e.status = .waitJoin → off % a.n = 0 → Alone s k a →
        let d := fld sid 16 14
        let pool := (s.die d).pool
        (∀ r al, a.op = .load r al → pool.find e.map (off / 2 ^ 15) = none →
          Ends (fun t => MemKept s t ∧ t.fly = s.fly.eraseIdx k ++ [{ n := n, cell := c, f := .reply a 0 none }])) ∧
        (∀ r al g l, a.op = .load r al → pool.find e.map (off / 2 ^ 15) = some (g, l) → g ∉ (s.die d).out →
          s.bad (hearthKey d g (off % 2 ^ 15)) a.n = false →
          Ends (fun t => MemKept s t ∧
            t.fly = s.fly.eraseIdx k ++ [{ n := n, cell := c, f := .reply a (memRead s.mem (hearthKey d g (off % 2 ^ 15)) a.n) none }])) ∧
        (∀ data mask kind, a.op = .store data mask kind → e.mig = true ∨ pool.frozen e.map = true →
          let trap : Trap := { cause := .ovlFrozen, pc := a.pc, addr := a.ea, insn := a.insn }
          Ends (fun t => MemKept s t ∧ t.fly = s.fly.eraseIdx k ++ [{ n := n, cell := c, f := .reply a 0 (some trap) }])) ∧
        (∀ data mask kind g, Memory.Wf s.mem → a.op = .store data mask kind → e.mig = false → pool.frozen e.map = false →
          pool.find e.map (off / 2 ^ 15) = some (g, e.map) → pool.count g ≤ 1 → g ∉ (s.die d).out →
          Ends (fun t => t.fly = s.fly.eraseIdx k ++ [{ n := n, cell := c, f := .ack a }] ∧
            ∀ b : Nat, let key := hearthKey d g (off % 2 ^ 15)
              memGet t.mem b = if key ≤ b ∧ b < key + a.n ∧ mask.testBit (b - key) then BitVec.ofNat 8 (byteAt data (b - key))
                else memGet s.mem b))))

/-- R19, R393, R394, R395, R400, R402, R403, R407, R444 and R446: SFORK of a ready stream with no children makes its
children live streams of its slice, writes their ids and answers how many; the parent waits for their join. PERS
without ROOT answers DESC, a stream with a child not pruned STATE, a chain four deep DEPTH, and too few maps or
entries NOMAP or NOSTREAM. A root fork without a sequence makes new live streams with no parent. SJOIN that finds every
member done answers at once, and else BUSY where it does not wait. SFLAT flattens the stream's map. SMIG freezes the
stream and sends its packets, or answers STATE, NOGRID or LINKED. -/
def Sys2Proof.Spec.StreamsFork : Prop :=
  ∀ (s u : State) (k n c sid off gt : Nat) (a : Access) (ret : RegSpec),
    s.flight k = some { n := n, cell := c, f := .access a } → a.loc = .hearth sid off → s.blocked n a = false →
    (look s.grids a.gid).isSome = true → s.roundTrip a.gid (dieOf a.cell) (fld sid 16 14) = some u →
    let d := fld sid 16 14
    let Ends := fun (P : State → Prop) => ∃ t, exec (.hearthSliceArrival k) s = .next t ∧ (∀ c hi, t.bank c hi = s.bank c hi) ∧ P t
    let Fails := fun (status : Nat) => Ends (fun t => t.dies = u.dies ∧ MemKept s t ∧ ∃ v, Answered t n a status v)
    let pool := (s.die d).pool
    (∀ m hor pers loff p, a.op = .stream (.fork m hor pers loff) ret gt → s.stream? a sid = some p → p.lnk = false →
      let ents := freeStreams (s.die d) (sid % 64) m []
      (pers = true → Fails 0xA0) ∧
      (pers = false → ¬ isReady p ∨ (∃ x ∈ s.kids sid, x.2.status ≠ .pruned) → Fails 0xA2) ∧
      (pers = false → isReady p → s.kids sid = [] →
        (pool.fork streamMaps p.map m = .error .depth → Fails 0xA3) ∧
        (pool.fork streamMaps p.map m = .error .nomap → Fails 0xA4) ∧
        (∀ maps q, pool.fork streamMaps p.map m = .ok (maps, q) →
          (ents.length < m → Fails 0xA5) ∧
          (ents.length = m → Ends (fun t => Answered t n a 0 m ∧ Forked t a sid hor gt p ents maps ∧ (t.die d).pool = q ∧
            Listed s t a.cell loff d ents))))) ∧
    (∀ m hor pers loff seq disc, a.op = .stream (.root m hor pers loff seq disc) ret gt →
      let ents := freeStreams (s.die d) (sid % 64) m []
      let maps := pool.freeMaps streamMaps m
      (1 < m → seq ≠ 0 → Fails 0xA0) ∧
      (seq = 0 → maps.length < m → Fails 0xA4) ∧
      (seq = 0 → maps.length = m → ents.length < m → Fails 0xA5) ∧
      (seq = 0 → maps.length = m → ents.length = m → Ends (fun t => Answered t n a 0 m ∧ Listed s t a.cell loff d ents ∧
        ∀ (j e i : Nat), ents[j]? = some e → maps[j]? = some i → t.sEnt (d * 2 ^ 14 + e) = some
          { status := .live, gid := a.gid, asid := a.asid, map := i, disc := disc, horizon := hor, owner := a.cell, pers := pers,
            age := bornAt gt a.cell j }))) ∧
    (∀ red keep adopt wait ooff p, a.op = .stream (.join red keep adopt wait ooff) ret gt → s.stream? a sid = some p →
      s.seqBusy a sid (.join red keep adopt wait ooff) = false →
      let g := (s.kids sid).filter (fun x => x.2.status != .pruned)
      (p.status ≠ .waitJoin → Fails 0xA2) ∧
      (p.status = .waitJoin → adopt = true → keep ≠ 0 → Fails 0xA0) ∧
      (p.status = .waitJoin → (adopt = true → keep = 0) →
        (g = [] → Ends (fun t => (∃ v, Answered t n a 0xAE v) ∧ t.sEnt sid = some { p with status := .live })) ∧
        ((∃ x ∈ g, x.2.status ≠ .done) → wait = false → Fails 0xA9) ∧
        ((∃ x ∈ g, x.2.status ≠ .done) → wait = true → Ends (fun t => t.dies = u.dies ∧ MemKept s t ∧
          ∃ w, ({ n := n, cell := a.cell, f := .sjoin w a (.join red keep adopt true ooff) ret } : Fly) ∈ t.fly)) ∧
        (g ≠ [] → (∀ x ∈ g, x.2.status = .done ∧ x.2.lnk = false) → keep = 0 → adopt = false → ∀ win, Wins g win →
          Ends (fun t => JoinedAll t n sid red a p g win)))) ∧
    (∀ e, a.op = .stream .flat ret gt → s.stream? a sid = some e →
      (e.status = .pruned → Fails 0xA2) ∧
      (e.status ≠ .pruned → Ends (fun t => MemKept s t ∧ t.sEnt sid = some e ∧ (t.die d).pool = pool.flatten e.map ∧
        Answered t n a 0 ((pool.flatten e.map).ownPages e.map)))) ∧
    ∀ x die unlink e, a.op = .stream (.mig x die unlink) ret gt → s.stream? a sid = some e →
      let still := e.status = .live ∧ e.pv = false ∧ s.kids sid = [] ∧ e.mig = false
      (¬ still → Fails 0xA2) ∧
      (still → bit (s.lr a.gid) 944 = false → Fails 0xAC) ∧
      (still → bit (s.lr a.gid) 944 = true → e.lnk = true → unlink = false → Fails 0xAD) ∧
      (still → bit (s.lr a.gid) 944 = true → (e.lnk = true → unlink = true) → Ends (fun t => MemKept s t ∧
        t.sEnt sid = some { e with mig := true, xfer := s.plat.xfers } ∧ t.plat.xfers = s.plat.xfers + 1 ∧
        (∃ l, t.plat.sent = s.plat.sent ++ l ∧ Packed s sid e x die a l) ∧
        ∃ w, ({ n := n, cell := a.cell, f := .mig w sid ret s.plat.xfers } : Fly) ∈ t.fly))

/-- R103, R399, R400 and R407: a join that waits goes on when every stream of its group is done: without adoption and
with none kept, the answer counts the losers and the parent is live with the reduced value and the winner, the one
that no other beats; it waits while one is not done. The least recently used page that is not pinned moves to a spill
slot while fewer than 64 frames are free, and a spilled page returns to a free frame, or changes places with such a
page. Completes: SJOIN_WAIT_COMPLETE, HEARTH_SPILL, HEARTH_FILL. -/
def Sys2Proof.Spec.JoinsAndPaging : Prop :=
  (∀ (s : State) (k n c sid off red ooff : Nat) (keep : Nat) (adopt : Bool) (w : Who) (a : Access) (r : RegSpec) (p : Stream),
    let g := (s.kids sid).filter (fun x => x.2.status != .pruned)
    s.flight k = some { n := n, cell := c, f := .sjoin w a (.join red keep adopt true ooff) r } → a.loc = .hearth sid off →
    s.stream? a sid = some p → p.status = .waitJoin → (adopt = true → keep = 0) → g ≠ [] →
    ((∃ x ∈ g, x.2.status ≠ .done) → exec (.sjoinWaitComplete k) s = .next s) ∧
    ((∀ x ∈ g, x.2.status = .done ∧ x.2.lnk = false) → keep = 0 → adopt = false →
      ∀ win, Wins g win → ∃ t, exec (.sjoinWaitComplete k) s = .next t ∧ (∀ c hi, t.bank c hi = s.bank c hi) ∧
        JoinedAll t n sid red a p g win)) ∧
  ∀ (s : State) (d : Nat),
    let x := s.die d
    let free := fun p => p ∈ x.recent ∧ x.pool.count p ≠ 0 ∧ p ∉ x.spilled ∧ p ∉ x.pins
    ((∃ p, free p) → x.freeFrames < 64 → x.out.length < s.spillSlots d → ∃ t p, exec (.hearthSpill d) s = .next t ∧ free p ∧
      (x.recent.Nodup → ∀ q, free q → x.recent.idxOf q ≤ x.recent.idxOf p) ∧ MemKept s t ∧ (∀ c hi, t.bank c hi = s.bank c hi) ∧ (t.die d).spilled = p :: x.out ∧ p ∉ (t.die d).recent ∧
      (t.die d).streams = x.streams ∧ (t.die d).pool = x.pool) ∧
    (64 ≤ x.freeFrames → exec (.hearthSpill d) s = .next s) ∧
    (∀ p, p ∈ x.out → x.freeFrames = 0 → (∃ q, free q) → ∃ t q, exec (.hearthFill d p) s = .next t ∧ free q ∧ MemKept s t ∧
      (∀ c hi, t.bank c hi = s.bank c hi) ∧ p ∉ (t.die d).spilled ∧ p ∈ (t.die d).recent ∧ q ∈ (t.die d).spilled) ∧
    ∀ p, p ∈ x.out → 0 < x.freeFrames → ∃ t, exec (.hearthFill d p) s = .next t ∧ MemKept s t ∧
      (∀ c hi, t.bank c hi = s.bank c hi) ∧ p ∉ (t.die d).spilled ∧ p ∈ (t.die d).recent ∧
      (t.die d).streams = x.streams ∧ (t.die d).pool = x.pool

/-- Streams at their hearth slice: the statements StreamsAtTheirSlice, StreamsFork, JoinsAndPaging above, together.
Where the rules leave a point open the statement follows the model's choices of log 12 and 92; that SMIG with UNLINK
leaves the source entry its link until the transfer is acknowledged is the model's choice of log 90. -/
def Obligations.StreamsLive : Prop :=
  Sys2Proof.Spec.StreamsAtTheirSlice ∧ Sys2Proof.Spec.StreamsFork ∧ Sys2Proof.Spec.JoinsAndPaging


namespace Sys2Proof.Spec

/-- A grid neither records nor replays. -/
def Plain (s : State) (g : Nat) : Prop := ∀ x, look s.grids g = some x → recording x.lr = false ∧ x.replay = none

/-- The field of a gate entry between two bits (R397). -/
def gfld (e hi lo : Nat) : Nat := fld e hi lo

/-- The oldest parked streams of a gate form a batch: they leave it, its number and list slot are taken, and their
ids are on their way to the slot, one word each (R398, R399). -/
def Formed (s t u : State) (d key e : Nat) (x : Gate) (tr : TlbEnt) : Prop :=
  let slot := x.next % (gfld e 40 36 + 1)
  let ids := (s.byAge x.parked).take (gfld e 47 41 + 1)
  let pa := tr.pa (gfld e 127 64 + 512 * (32 * d + slot))
  let w := fun (p : Nat × Nat) => ({ n := s.serial + p.2, cell := cellAt d 0, f := .access { cell := cellAt d 0, hi := false, task := false, gid := key / 1024, asid := asidOf (s.lr (key / 1024)), msgid := 0, act := 0, pc := 0, ea := pa + 4 * p.2, loc := .home (pa + 4 * p.2), n := 4, op := .store p.1 15 8 } } : Fly)
  t.cells = s.cells ∧ t.mem = u.mem ∧ t.fly = s.fly ++ ids.zipIdx.map w ∧
    ∃ b, b.ids = ids ∧ b.mine = ids ∧ b.num = x.next ∧ b.slot = slot ∧ b.gid = key / 1024 ∧
      look (t.die d).gates key = some { parked := x.parked.filter (fun i => !ids.contains i), next := (x.next + 1) % 2 ^ 64, busy := slot :: x.busy, batches := x.batches ++ [b] }

end Sys2Proof.Spec

/-- R398 and R399: a batch forms when as many streams are parked as the gate's batch size, or when the earliest has
waited TIMEOUT cycles, where its list slot is free and translates to global memory, and not otherwise; a batch whose
list has arrived goes as one message of 32 bytes to the cell of the placement rectangle with the fewest ready
entries. Completes: GATE_BATCH_FORM, GATE_TIMEOUT, GATE_BATCH_SEND. -/
def Sys2Proof.Spec.Gates : Prop :=
  ∀ (s : State) (d key e : Nat) (x : Gate),
    let g := key / 1024
    let slot := x.next % (gfld e 40 36 + 1)
    let due := ∃ i ∈ x.parked, ∃ q, s.sEnt i = some q ∧ gfld e 63 48 ≤ s.gt.toNat - q.arrived
    let full := gfld e 47 41 + 1 ≤ x.parked.length
    look (s.die d).gates key = some x → s.gateCfg g (key % 1024) = some e → Plain s g →
    (s.gridOn g = false → ∀ i ∈ [Instr.gateBatchForm d key, .gateTimeout d key, .gateBatchSend d key], exec i s = .next s) ∧
    (s.gridOn g = true →
      (¬ full → exec (.gateBatchForm d key) s = .next s) ∧
      (gfld e 63 48 = 0 ∨ ¬ due → exec (.gateTimeout d key) s = .next s) ∧
      (slot ∈ x.busy → exec (.gateBatchForm d key) s = .next s ∧ exec (.gateTimeout d key) s = .next s) ∧
      (slot ∉ x.busy → ∀ tr u, s.walk d g (asidOf (s.lr g)) (gfld e 127 64 + 512 * (32 * d + slot)) 1 = .ok (tr, u) →
        inGlobal (tr.pa (gfld e 127 64 + 512 * (32 * d + slot))) = true →
        (full → ∃ t, exec (.gateBatchForm d key) s = .next t ∧ Formed s t u d key e x tr) ∧
        (gfld e 63 48 ≠ 0 → due → ∃ t, exec (.gateTimeout d key) s = .next t ∧ Formed s t u d key e x tr)) ∧
      (∀ b c, x.batches.find? s.listed = some b → s.fewest (bit e 35) (gCells e) = some c → c < 8192 → ∃ t q,
        exec (.gateBatchSend d key) s = .next t ∧ MemKept s t ∧ (∀ c hi, t.bank c hi = s.bank c hi) ∧
          t.fly = s.fly ++ [{ n := s.serial, cell := cellAt d 0, f := .msg b.gid q }] ∧ q.batch = some (d, key, b.slot) ∧
          q.msg.dest = c ∧ q.msg.handler = gfld e 34 27 ∧ q.msg.pri = bit e 35 ∧
          q.msg.pay = bytesOf 32 (gfld e 127 64 + 512 * (32 * d + b.slot) + b.ids.length * 2 ^ 64 + key % 1024 * 2 ^ 96 +
            d * 2 ^ 112 + b.num * 2 ^ 128) ∧
          look (t.die d).gates key = some { x with batches := x.batches.erase b }))

/-- R403, R421, R444 and R446: the packets of a package's transfer are put together, those that a failed port or
bridge loses or of another form dropped; a whole one is answered NOGRID where no resident grid of its gang has the die, NOSTREAM where no
entry or map is free, and else is a live stream of that grid with the sender's values, answered with its new id; one
that is not whole after 2^24 cycles is refused, once, whatever still comes. The answer frees the sender's stream, or
keeps it unfrozen, and writes the register. Completes: MIGREQ, MIGRATION_RECEIPT, MIGRATION_TIMEOUT, MIGACK. -/
def Sys2Proof.Spec.StreamMigration : Prop :=
  (∀ (s : State) (p : MigPacket),
    let known := s.plat.migIn.find? (fun m => m.src == p.src && m.xfer == p.xfer)
    let Carries := fun (m : MigIn) => m.src = p.src ∧ m.xfer = p.xfer ∧ m.refused = false ∧ m.last = p.last ∧
      (∀ e, p.part = .entry e → m.entry = some e.toNat) ∧ (∀ l, p.part = .queue l → m.queue = l.map (·.toNat)) ∧
      ∀ i off data, p.part = .page i off data → (i, off, data) ∈ m.pages
    let fits := match p.part with
      | .entry _ => True
      | .queue l => l.length ≤ 64
      | .page i off data => i < 256 ∧ data.length ≤ 2048 ∧ off + data.length ≤ 2 ^ 15
    (s.plat.lost p.src p.die.toNat s.cut = true ∨ ¬ fits → exec (.migreq p) s = .next s) ∧
    (s.plat.lost p.src p.die.toNat s.cut = false → fits →
      (known = none → ∃ t m, exec (.migreq p) s = .next t ∧ ({ t with plat := s.plat } : State) = s ∧ Carries m ∧
        t.plat.migIn = s.plat.migIn ++ [m] ∧ m.die = p.die.toNat ∧ m.gangid = p.gangid ∧ m.since = s.gt.toNat) ∧
      ∀ old, known = some old → old.last = false →
        (old.refused = false → s.gt.toNat < old.since + 2 ^ 24 → ∃ t m, exec (.migreq p) s = .next t ∧
          ({ t with plat := s.plat } : State) = s ∧ Carries m ∧ m ∈ t.plat.migIn ∧ m.die = old.die ∧ m.gangid = old.gangid ∧
          m.since = old.since ∧ ∀ x ∈ old.pages, x ∈ m.pages) ∧
        (old.refused = false → old.since + 2 ^ 24 ≤ s.gt.toNat → ∃ t st, exec (.migreq p) s = .next t ∧ MemKept s t ∧ t.dies = s.dies ∧
          st ∈ [0xAC, 0xA5, 0xA6] ∧
          t.plat.sent = if s.ackLost old = true then s.plat.sent else s.plat.sent ++ [.migack p.src p.xfer st 0]) ∧
        (old.refused = true → ∃ t, exec (.migreq p) s = .next t ∧ MemKept s t ∧ t.dies = s.dies ∧ t.plat.sent = s.plat.sent))) ∧
  (∀ (s : State) (i : Nat) (m : MigIn), s.plat.migIn[i]? = some m →
    let x := s.die m.die
    let takes := fun (g : Nat × Nat) => bit g.2 944 && fld g.2 927 896 == m.gangid
    let sent := fun (status id : Nat) => if s.ackLost m = true then s.plat.sent else
      s.plat.sent ++ [.migack m.src m.xfer status id]
    let answers := fun (status id : Nat) => ∃ t, exec (.migrationReceipt i) s = .next t ∧ MemKept s t ∧ t.dies = s.dies ∧
      t.plat.sent = sent status id ∧ ∀ y ∈ t.plat.migIn, ¬ (y.src = m.src ∧ y.xfer = m.xfer)
    (m.last = false → exec (.migrationReceipt i) s = .next s) ∧
    (m.last = true → (∀ g ∈ s.resident m.die, takes g = false) → answers 0xAC 0) ∧
    (m.last = true → (∃ g ∈ s.resident m.die, takes g = true) → (freeStreams x 0 1 [] = [] ∨ x.pool.create streamMaps = none) →
      answers 0xA5 0) ∧
    (∀ g lr e ent l map pool, m.last = true → (s.resident m.die).find? takes = some (g, lr) → freeStreams x 0 1 [] = ent :: l →
      x.pool.create streamMaps = some (map, pool) → m.pages = [] → m.entry = some e → m.die < 8 → ∃ t q,
        exec (.migrationReceipt i) s = .next t ∧ MemKept s t ∧ t.sEnt (m.die * 2 ^ 14 + ent) = some q ∧ q.status = .live ∧
        q.gid = g ∧ q.asid = asidOf lr ∧ q.map = map ∧ q.ret = fld e 511 480 ∧ q.disc = fld e 479 448 ∧ q.jval = fld e 447 416 ∧
        q.jwin = fld e 415 399 ∧ q.horizon = fld e 372 357 ∧ q.steps = fld e 356 341 ∧ q.queue = m.queue ∧ q.pers = bit e 233 ∧
        q.age = BitVec.ofNat 64 (fld e 63 0) ∧ q.pv = false ∧ q.lnk = false ∧ q.owner = originOf lr ∧
        t.plat.sent = sent 0 (m.die * 2 ^ 14 + ent)) ∧
    (m.last = true ∨ m.refused = true ∨ s.gt.toNat < m.since + 2 ^ 24 → exec (.migrationTimeout i) s = .next s) ∧
    (m.last = false → m.refused = false → m.since + 2 ^ 24 ≤ s.gt.toNat → ∃ t st, exec (.migrationTimeout i) s = .next t ∧
      t.dies = s.dies ∧ st ∈ [0xAC, 0xA5, 0xA6] ∧ t.plat.sent = sent st 0 ∧
      ∀ y ∈ t.plat.migIn, y.src = m.src → y.xfer = m.xfer → y.refused = true)) ∧
  ∀ (s : State) (k n c xfer newId sid : Nat) (status : BitVec 16) (w : Who) (dst : RegSpec) (e : Stream),
    s.flight k = some { n := n, cell := c, f := .mig w sid dst xfer } →
    (∀ j f, j < k → s.fly[j]? = some f → ∀ a b d, f.f ≠ .mig a b d xfer) → s.sEnt sid = some e → e.mig = true → e.xfer = xfer →
    ∃ t v, exec (.migack xfer status newId) s = .next t ∧ MemKept s t ∧
      ((∀ f ∈ s.fly, ∀ a d tr, f.f = .reply a d tr → a.op.wholeLine = false) → t.fly = s.fly.eraseIdx k) ∧
      t.sEnt sid = (if status = 0 then none else some { e with mig := false }) ∧ (status = 0 → v = newId % 2 ^ 48) ∧ v < 2 ^ 48 ∧
      (s.live w.cell w.hi w.act = true → dst.isS = true →
        readReg t.gt (t.bank w.cell w.hi) dst = if dst = 0#8 then 0 else BitVec.ofNat 64 (status.toNat * 2 ^ 48 + v))

/-- Streams at gates and between packages: the statements Gates, StreamMigration above, together.
Where the rules leave a point open the statement follows the model's choices of log 7, 90, 91. -/
def Obligations.StreamsMove : Prop :=
  Sys2Proof.Spec.Gates ∧ Sys2Proof.Spec.StreamMigration

/-! ## Atomic sets (07) -/

/-- R184, R186 and R187: ADECL gives the status of the first check of R186 that fails and changes nothing, or declares
its set in its slot in place of an unheld one; ASTAT gives the slot's word, the commit buffer's and held sets' counts,
or a counter. Completes: ADECL, ASTAT. -/
def Sys2Proof.Spec.SetDeclarations : Prop :=
  ∀ (s : State) (x : AdeclR) (y : TinfoR) (k : Task) (st : Nat),
    let base := (s.rd x.b).toNat
    let size := 64 * 2 ^ x.sz.toNat
    let slot := x.slot.toNat
    s.b.task = some k → x.a.isS = true → y.a.isS = true →
    (Decides [(∃ e, look k.slots slot = some e ∧ e.held = true, 1), (base % size ≠ 0, 3),
        (if x.dsp then 2 ^ 28 ≤ base ∨ inRect s.myLr (cellAt (dieOf s.cur.cell) (fld base 27 18)) = false else 2 ^ 57 ≤ base, 4),
        (∃ e ∈ k.slots, e.1 ≠ slot ∧ e.2.dsp = x.dsp ∧ base < e.2.base + 64 * 2 ^ e.2.sz ∧ e.2.base < base + size, 2)] st →
      (st ≠ 0 → Gives s (.adecl x) x.a (BitVec.ofNat 64 st)) ∧
      (st = 0 → ∃ t, exec (.adecl x) s = .next t ∧ Ran s t [x.a] ∧ t.fly = s.fly ∧ Holds t x.a 0 ∧
        look t.slots slot = some { dsp := x.dsp, base := base, sz := x.sz.toNat } ∧
        ∀ n, n ≠ slot → look t.slots n = look s.slots n)) ∧
    (y.sel.toNat < 4 → Gives s (.astat y) y.a (BitVec.ofNat 64 (match look k.slots y.sel.toNat with
      | none => 0
      | some e => 2 ^ 63 + (if e.held then 2 ^ 62 else 0) + e.sz * 2 ^ 58 + (if e.dsp then 2 ^ 57 else 0) + e.base % 2 ^ 57))) ∧
    (y.sel.toNat = 4 → Gives s (.astat y) y.a
      (BitVec.ofNat 64 (s.b.commit.length * 2 ^ 56 + count k.slots (fun e => e.2.held) * 2 ^ 52))) ∧
    (∀ g, 5 ≤ y.sel.toNat → look s.grids k.gid = some g →
      Gives s (.astat y) y.a (BitVec.ofNat 64 (lookD g.aset y.sel.toNat 0)))

/-- R164 to R174 and R178: a set request is granted where no entry of its set stands and one is free; else it waits
by age and wounds a younger holder, or the low task of its own cell. A release passes the set to the oldest waiter,
which is wounded when it is the low task of a cell whose high task waits for the set, or frees the entry, and a grant
makes its slot held. Each waits for its flit to another die (R383). A wounded task is aborted, its registers' writes to memory lost with
its buffer, and runs again; a holder's drained lines leave in order, and its sets are released once every write is
answered. A wait longer than AWAIT raises ASET.WAIT. Completes: LOCK_REQUEST, SET_GRANT, TASK_ABORT, COMMIT_DRAIN,
SET_RELEASE, ASET_WAIT_LIMIT. -/
def Sys2Proof.Spec.SetLocks : Prop :=
  (∀ (s : State) (k n c : Nat) (q : LockMsg),
    let l := s.locksAt q.home
    s.flight k = some { n := n, cell := c, f := .lock q } → Plain s q.who.gid →
    (s.lockFlit q false = none → exec (.lockRequest k) s = .next s ∧ exec (.setGrant k) s = .next s) ∧
    (q.release = false → (s.lockFlit q false).isSome = true →
      ((∀ e ∈ l, e.isOf q = false) → s.lockRoom q.home ≠ none → ∃ t e, exec (.lockRequest k) s = .next t ∧ MemKept s t ∧
        (∀ c hi, t.bank c hi = s.bank c hi) ∧ t.locksAt q.home = l ++ [e] ∧ e.isOf q = true ∧ e.holder = some q.who ∧ e.waiters = [] ∧
        t.fly = s.fly.eraseIdx k ++ [{ n := s.serial, cell := q.who.cell, f := .grant { q with release := false } }]) ∧
      ((∀ e ∈ l, e.isOf q = false) → s.lockRoom q.home = none → exec (.lockRequest k) s = .next s) ∧
      (∀ e h task, l.find? (·.isOf q) = some e → e.holder = some h → (s.bank h.cell h.hi).task = some task → task.act = h.act →
        Plain s h.gid → ∃ t, exec (.lockRequest k) s = .next t ∧ MemKept s t ∧ t.fly = s.fly.eraseIdx k ∧
          (∃ f, (t.locksAt q.home).find? (·.isOf q) = some f ∧ f.holder = some h ∧ q.who ∈ f.waiters ∧ ∀ w ∈ e.waiters, w ∈ f.waiters) ∧
          let wins := older q.who.age q.who.msgid h.age h.msgid = true ∨ (q.who.cell = h.cell ∧ q.who.hi = true ∧ h.hi = false)
          (wins → task.ending = .none → ∃ u, (t.bank h.cell h.hi).task = some u ∧ u.wounded = true) ∧
          (¬ wins → (t.bank h.cell h.hi).task = some task))) ∧
    (q.release = true → (s.lockFlit q false).isSome = true → ∀ e h, l.find? (·.isOf q) = some e → e.holder = some h → h.act = q.who.act →
      (e.waiters = [] → ∃ t, exec (.setGrant k) s = .next t ∧ MemKept s t ∧ t.fly = s.fly.eraseIdx k ∧
        ∀ f ∈ t.locksAt q.home, f.isOf q = false) ∧
      (∀ w r, e.waiters = w :: r → Plain s w.gid → ∃ t, exec (.setGrant k) s = .next t ∧ MemKept s t ∧
        t.fly = s.fly.eraseIdx k ++ [{ n := s.serial, cell := w.cell, f := .grant { q with who := w, release := false } }] ∧
        (t.locksAt q.home).find? (·.isOf q) = some { e with holder := some w, waiters := r } ∧
        ∀ task, (s.bank w.cell w.hi).task = some task → task.act = w.act → task.ending = .none →
          (∃ v ∈ r, v.cell = w.cell ∧ v.hi = true ∧ w.hi = false) →
          ∃ u, (t.bank w.cell w.hi).task = some u ∧ u.wounded = true))) ∧
  (∀ (s : State) (k n c : Nat) (q : LockMsg), s.flight k = some { n := n, cell := c, f := .grant q } →
    (s.lockFlit q true = none → exec (.setGrant k) s = .next s) ∧
    ((s.lockFlit q true).isSome = true → s.live q.who.cell q.who.hi q.who.act = true → ∃ t u, exec (.setGrant k) s = .next t ∧ MemKept s t ∧ t.fly = s.fly.eraseIdx k ∧
      (t.bank q.who.cell q.who.hi).task = some u ∧ ∀ old, (s.bank q.who.cell q.who.hi).task = some old →
        u.slots = old.slots.map (fun (m, e) => (m, if m = q.who.slot then { e with held := true } else e)))) ∧
  ∀ (s : State) (c : Nat) (hi : Bool) (k : Task),
    let b := s.bank c hi
    let a : State := { s with cur := { s.cur with cell := c, hi := hi } }
    b.task = some k → Plain s k.gid →
    (k.wounded = true → ∃ t r, exec (.taskAbort c hi) s = .next t ∧ MemKept s t ∧ (t.bank c hi).task = none ∧ (t.bank c hi).commit = [] ∧
      (t.cell c).again = (s.cell c).again ++ [r] ∧ r.hi = hi ∧ r.msg = k.msg ∧ r.rerun = true ∧
      (∀ d h2, d ≠ c → t.bank d h2 = s.bank d h2) ∧ ∀ f ∈ t.fly, lockOf k.act f.f = false) ∧
    (k.wounded = false → exec (.taskAbort c hi) s = .next s) ∧
    (k.ending = .draining → k.wounded = false → (∀ l ∈ b.commit, l.dsp = false → s.l1Look c l.dst = none) →
      ∃ t, exec (.commitDrain c hi) s = .next t ∧ MemKept s t ∧ (t.bank c hi).commit = [] ∧
        (t.bank c hi).task = some { k with ending := .drained } ∧ (∀ d h2, (d ≠ c ∨ h2 ≠ hi) → t.bank d h2 = s.bank d h2) ∧
        t.fly = s.fly ++ b.commit.zipIdx.map (fun e =>
          let loc := if e.1.dsp then Loc.port ((e.1.dst - 2 ^ 41) / 2 ^ 18) ((e.1.dst - 2 ^ 41) % 2 ^ 18) else .home e.1.dst
          { n := s.serial + e.2, cell := c, f := .access (a.acc e.1.key loc 64 (.store e.1.data e.1.mask 7)) })) ∧
    (k.ending = .drained → (∀ f ∈ s.fly, storeOf k.act f.f = false) → ∃ t, exec (.setRelease c hi) s = .next t ∧ MemKept s t ∧
      (t.bank c hi).task = some { k with ending := .releasing, slots := [] } ∧
      ∀ e ∈ k.slots, e.2.held = true → ∃ f ∈ t.fly, ∃ q, f.f = .lock q ∧ q.release = true ∧ q.dsp = e.2.dsp ∧ q.base = e.2.base ∧
        q.sz = e.2.sz ∧ q.who.act = k.act) ∧
    (k.ending = .drained → (∃ f ∈ s.fly, storeOf k.act f.f = true) → exec (.setRelease c hi) s = .next s) ∧
    (∀ g n e, k.waitFrom = some g → k.slots.find? (fun e => e.2.asked && !e.2.held) = some (n, e) →
      let lim := fld (s.lr k.gid) 511 480
      (lim ≠ 0 → lim < k.waited + (s.gt.toNat - g) → ∃ u, MemKept s u ∧ u.fly = s.fly ∧ u.bank c hi = b ∧
        exec (.asetWaitLimit c hi) s = .next (u.takeTrap c hi
          { cause := .asetWait, pc := b.pc.toNat, addr := e.base, detail := n, insn := insnAt b b.pc.toNat })) ∧
      (lim = 0 ∨ k.waited + (s.gt.toNat - g) ≤ lim → exec (.asetWaitLimit c hi) s = .next s))

namespace Sys2Proof.Spec

/-- The lowest of the task's slots whose set an access touches and the task does not hold (R162, R165). -/
def FirstUnheld (s : State) (p : Spot) (len n : Nat) (e : SetSlot) : Prop :=
  n < 4 ∧ look s.slots n = some e ∧ e.held = false ∧ touches p len e = true ∧
    ∀ m q, m < n → look s.slots m = some q → q.held = true ∨ touches p len q = false

/-- The executing instruction has asked for a set at the entry of a place, and waits at its pc (R165, R166, R169). -/
def Asks (s t : State) (k : Task) (n : Nat) (e : SetSlot) (place : Nat) : Prop :=
  Waits s t ∧ look t.slots n = some { e with asked := true, place := some place } ∧
    (∀ m, m ≠ n → look t.slots m = look s.slots m) ∧
    t.fly = s.fly ++ [flight s 0 (.lock {
      asid := s.asid, dsp := e.dsp, base := e.base, sz := e.sz, place := place, release := false,
      who := { cell := s.cur.cell, hi := s.cur.hi, act := k.act, age := k.msg.age, msgid := k.msg.id, gid := k.gid, slot := n } })]

end Sys2Proof.Spec

/-- R165: the first load, store, atomic, CZERO or whole-vector access that touches a declared set which its task does not
hold asks for the set of its lowest such slot, at the port of a scratchpad set's base or at the frame of a global set's
base, and waits; while that request is out it waits and does nothing. -/
def Sys2Proof.Spec.SetsAreAcquired : Prop :=
  ∀ (s : State) (x : MemR) (y : AmoR) (z : CzeroR) (p : Spot) (k : Task) (n : Nat) (e : SetSlot) (tr : TlbEnt),
    let w := Ty.width x.ty / 8
    let v := Ty.width y.ty / 8
    let ay := (s.rd y.b + y.off.signExtend 64).toNat
    let acquires := fun (i : Instr) (p : Spot) (len : Nat) =>
      i.wf = true → FirstUnheld s p len n e →
      (e.asked = true → exec i s = .next s) ∧
      (e.asked = false → e.dsp = true → ∃ t, exec i s = .next t ∧
        Asks s t k n e (padKey (cellAt (dieOf s.cur.cell) (e.base / 2 ^ 18)) (e.base % 2 ^ 18))) ∧
      (e.asked = false → e.dsp = false → Translated s e.base 0 tr → ∃ t, exec i s = .next t ∧
        Asks s t k n e (tr.frame + e.base % 2 ^ tr.size))
    s.b.task = some k →
    (∀ i ∈ [Instr.ld x, .lda x], Place s x.sp (address s x.m) w 0 p → acquires i p w) ∧
    (∀ i ∈ [Instr.st x, .stl x], Place s x.sp (address s x.m) w 1 p → acquires i p w) ∧
    (Place s x.sp (address s x.m) 64 0 p → acquires (.vld x) p 64) ∧
    (Place s x.sp (address s x.m) 64 1 p → acquires (.vst x) p 64) ∧
    (∀ i ∈ [Instr.amo y, .cas y, .amof y], Place s y.sp ay v 2 p → acquires i p v) ∧
    (Place s z.sp (address s z.m) 1 1 p → acquires (.czero z) p.toLine 64)

/-- Atomic sets: declarations, acquisition at first touch and locks: the statements SetDeclarations, SetsAreAcquired,
SetLocks above, together.
Where the rules leave a point open the statement follows the model's choices of log 70, 92, 103 and 104. -/
def Obligations.AtomicSets : Prop :=
  Sys2Proof.Spec.SetDeclarations ∧ Sys2Proof.Spec.SetsAreAcquired ∧ Sys2Proof.Spec.SetLocks


/-! ## The mask unit (13) -/

namespace Sys2Proof.Spec

/-- A mask instruction changes the unit of its crucible as said, and nothing else of the package. -/
def MaskDoes (s : State) (i : Instr) (P : MaskU → MaskU → Prop) : Prop :=
  ∃ t, exec i s = .next t ∧ ({ t with crucs := s.crucs } : State) = s ∧ (∀ j, j ≠ s.cur.cb → t.cruc j = s.cruc j) ∧
    ({ t.cruc s.cur.cb with mu := (s.cruc s.cur.cb).mu } : Crucible) = s.cruc s.cur.cb ∧
    P (s.cruc s.cur.cb).mu (t.cruc s.cur.cb).mu

/-- The clamp of a bound in tile mode (R319). -/
def sat31 (tile : Bool) (v : Int) (mark : Bool) : Int × Bool :=
  if tile then (max (-(2 ^ 31 - 1)) (min (2 ^ 31 - 1) v), mark || decide (2 ^ 31 - 1 < v) || decide (v < -(2 ^ 31 - 1))) else (v, false)

/-- An interval register is written with its bounds clamped; every other register keeps its value, and the next word
follows. -/
def WritesX (d : BitVec 3) (lo hi : Int) (ml mh : Bool) (u v : MaskU) : Prop :=
  let a := sat31 u.inp.tile lo ml
  let b := sat31 u.inp.tile hi mh
  lookD v.x d.toNat {} = { lo := a.1, hi := b.1, slo := a.2, shi := b.2 } ∧
    (∀ n, n ≠ d.toNat → lookD v.x n {} = lookD u.x n {}) ∧ ({ v with x := u.x, at_ := u.at_ } : MaskU) = u ∧ v.at_ = u.at_ + 1

/-- A tri-state register is written. -/
def WritesB (d : BitVec 3) (r : Tri) (u v : MaskU) : Prop :=
  lookD v.b d.toNat .f = r ∧ (∀ n, n ≠ d.toNat → lookD v.b n .f = lookD u.b n .f) ∧
    ({ v with b := u.b, at_ := u.at_ } : MaskU) = u ∧ v.at_ = u.at_ + 1

/-- A comparison by when it is T and when F; M when a bound is saturated (R320). -/
def compared (u : MaskU) (x : Mask3) (t f : Ival → Ival → Prop) [∀ a b, Decidable (t a b)] [∀ a b, Decidable (f a b)] : Tri :=
  let a := lookD u.x x.a.toNat {}
  let b := lookD u.x x.b.toNat {}
  if a.slo ∨ a.shi ∨ b.slo ∨ b.shi then .m else if t a b then .t else if f a b then .f else .m

/-- Conjunction of three values, and disjunction by it (R320). -/
def tand : Tri → Tri → Tri
  | .t, .t => .t
  | .f, _ => .f
  | _, .f => .f
  | _, _ => .m
def tnot : Tri → Tri
  | .t => .f
  | .f => .t
  | .m => .m

end Sys2Proof.Spec

/-- R316 to R321: the mask instructions load, add, subtract, select, compare and combine as their table says, on the
intervals or points of the unit of their crucible, with the clamp of R319 in tile mode; nothing else changes. MVIS
gives its register as the result and ends the program. Completes: MLQ, MLK, MLDQ, MLDK, MLA, MLP, MLI, MADD, MSUB,
MMIN, MMAX, MCLT, MCLE, MCEQ, MBAND, MBOR, MBNOT, MVIS. -/
def Obligations.MaskInstructions : Prop :=
  ∀ (s : State) (d a : BitVec 3) (imm : BitVec 17) (x : MaskR) (y : Mask3),
    let u0 := (s.cruc s.cur.cb).mu
    let xa := lookD u0.x x.a.toNat {}
    let xb := lookD u0.x x.b.toNat {}
    let ya := lookD u0.x y.a.toNat {}
    let yb := lookD u0.x y.b.toNat {}
    let b := fun (r : BitVec 3) => lookD u0.b r.toNat .f
    let par := u0.inp.par.getD imm.toNat 0
    let loads := fun (i : Instr) (v : Ival) => MaskDoes s i (WritesX d v.lo v.hi false false)
    loads (.mlq d) u0.inp.q ∧ loads (.mlk d) u0.inp.k ∧ loads (.mldq d) u0.inp.dq ∧ loads (.mldk d) u0.inp.dk ∧
    loads (.mla d) u0.inp.at_ ∧ loads (.mlp d imm) { lo := par, hi := par } ∧
    loads (.mli d imm) { lo := imm.toInt, hi := imm.toInt } ∧
    MaskDoes s (.madd x) (WritesX x.d (xa.lo + xb.lo + x.imm.toInt) (xa.hi + xb.hi + x.imm.toInt) (xa.slo || xb.slo) (xa.shi || xb.shi)) ∧
    MaskDoes s (.msub x) (WritesX x.d (xa.lo - xb.hi + x.imm.toInt) (xa.hi - xb.lo + x.imm.toInt) (xa.slo || xb.shi) (xa.shi || xb.slo)) ∧
    MaskDoes s (.mmin y) (WritesX y.d (min ya.lo yb.lo) (min ya.hi yb.hi) (ya.slo || yb.slo) (ya.shi || yb.shi)) ∧
    MaskDoes s (.mmax y) (WritesX y.d (max ya.lo yb.lo) (max ya.hi yb.hi) (ya.slo || yb.slo) (ya.shi || yb.shi)) ∧
    MaskDoes s (.mclt y) (WritesB y.d (compared u0 y (fun p q => p.hi < q.lo) (fun p q => q.hi ≤ p.lo))) ∧
    MaskDoes s (.mcle y) (WritesB y.d (compared u0 y (fun p q => p.hi ≤ q.lo) (fun p q => q.hi < p.lo))) ∧
    MaskDoes s (.mceq y) (WritesB y.d (compared u0 y (fun p q => p.lo = p.hi ∧ p.hi = q.lo ∧ q.lo = q.hi) (fun p q => p.hi < q.lo ∨ q.hi < p.lo))) ∧
    MaskDoes s (.mband y) (WritesB y.d (tand (b y.a) (b y.b))) ∧
    MaskDoes s (.mbor y) (WritesB y.d (tnot (tand (tnot (b y.a)) (tnot (b y.b))))) ∧
    MaskDoes s (.mbnot d a) (WritesB d (tnot (b a))) ∧
    MaskDoes s (.mvis a) (fun u v => v.res = some (b a) ∧ u.prog.length ≤ v.at_ ∧ ({ v with res := u.res, at_ := u.at_ } : MaskU) = u)

/-- R322: the classification of a tile pair is conservative. When a program gives T for a query tile and a page, it
gives T for every row of the tile and every filled slot of the page; when it gives F, F for every such pair. The page's
header bounds the tags of its filled slots, as R298 says that it does. -/
def Obligations.MaskTilesAreConservative : Prop :=
  ∀ (prog : List (BitVec 32)) (q : Query) (g : KvPage) (base : Nat) (r : QRow) (j : Nat) (c : Tri),
    (∀ k, k < g.fill → let t := lookD g.tags k (0, 0)
      g.dmin ≤ t.2 ∧ t.2 ≤ g.dmax ∧ g.amin ≤ t.1 ∧ t.1 ≤ g.amax) →
    (runMask prog (tileIn q g base)).res = some c → c ≠ .m → r ∈ q.rows → j < g.fill →
    (runMask prog (elemIn q g base r j)).res = some c

/-! ## Translation, invalidation and instruction lines (03, 02, 18) -/

namespace Sys2Proof.Spec

/-- A request made by a task's instruction, and not by a PF or an engine (R73, R108). -/
def byTask (x : Xlat) : Prop := x.pf = none ∧ x.eng = false

/-- A bank that waited for a translation goes on, holding the entries received, or meets the trap when its instruction
issues (R70, R73). -/
def Woken (s t : State) (x : Xlat) (tr : Option Trap) (got : List TlbEnt) : Prop :=
  ∀ k, (s.bank x.cell x.hi).task = some k → k.act = x.act → x.rep = false →
    ∃ l, (t.bank x.cell x.hi).task = some { k with xwait := none, xfault := tr, xheld := l } ∧ ∀ e ∈ got ++ k.xheld, e ∈ l

/-- Registers of every bank are as before. -/
def RegistersKept (s t : State) : Prop :=
  ∀ c hi r, readReg t.gt (t.bank c hi) r = readReg s.gt (s.bank c hi) r ∧ readVec (t.bank c hi) r = readVec (s.bank c hi) r

/-- An invalidation of a kind covers a translation (R76). -/
def Covered (kind asid va : Nat) (e : TlbEnt) : Prop :=
  (kind = 0 ∧ e.glob = false ∧ e.asid = asid) ∨ (kind = 1 ∧ e.glob = false ∧ e.asid = asid ∧ va / 2 ^ e.size = e.vpn) ∨
    (kind = 2 ∧ va / 2 ^ e.size = e.vpn) ∨ 3 ≤ kind

/-- No cell of the scope holds a covered translation, in its own TLB, for an instruction that waits, or in its cluster's. -/
def Purged (t : State) (kind asid va : Nat) (die : Option Nat) : Prop :=
  (∀ c, (∀ d, die = some d → dieOf c = d) → (∀ e ∈ (t.cell c).tlb, ¬ Covered kind asid va e) ∧
    ∀ hi k, (t.bank c hi).task = some k → ∀ e ∈ k.xheld, ¬ Covered kind asid va e) ∧
    ∀ q, (∀ d, die = some d → q / 64 = d) → ∀ k, ∀ e ∈ lookD (t.cluster q).tlb k [], ¬ Covered kind asid va e

/-- The word of an entry after a walk for an access of a kind: ACC set, and DIRTY for a write (R66). -/
def marked (e kind : Nat) : Nat := if kind = 1 ∨ kind = 2 then e ||| 2 ^ 8 ||| 2 ^ 9 else e ||| 2 ^ 8

/-- A word of memory has been replaced, and no other byte. -/
def WordSet (s t : State) (a v : Nat) : Prop :=
  ∀ b, memGet t.mem b = if a ≤ b ∧ b < a + 8 then BitVec.ofNat 8 (byteAt v (b - a)) else memGet s.mem b

/-- A cached translation is of an address. -/
def Holds4 (e : TlbEnt) (asid va : Nat) : Prop := (e.glob = true ∨ e.asid = asid) ∧ va / 2 ^ e.size = e.vpn

end Sys2Proof.Spec

/-- R60 to R74: a translation found in the cluster TLB goes to the cell and the bank goes on; a miss is walked from the
root, an address outside the form or an ASID with no context faulting before any read. Each entry is checked at its
level; a pointer leads down, and a leaf has ACC set, and DIRTY for a write, and gives the frame's place in a page of
any size. The leaf goes to the TLBs of every requester, those still waiting in the page of a large leaf among them. A
DIRTY update sets the bits of the leaf that it finds valid still. A poisoned table line is MEM.UE and a root outside
memory XLT.PHYS. A read of an entry waits while slots or flits are spent (R383). Completes: CLUSTER_TLB_LOOKUP,
TABLE_WALK, WALK_ENTRY_READ, WALK_INSTALL, DIRTY_UPDATE. -/
def Sys2Proof.Spec.TranslationWalks : Prop :=
  ∀ (s : State) (k n c : Nat) (x : Xlat) (w : Walk) (e : TlbEnt),
    (s.flight k = some { n := n, cell := c, f := .look x } →
      (s.cluTlb? x.cell x.asid x.va = some e → byTask x → ∃ t, exec (.clusterTlbLookup k) s = .next t ∧ MemKept s t ∧ RegistersKept s t ∧
        Woken s t x none [e] ∧ tlbFind (t.cell x.cell).tlb x.asid x.va = some e ∧ t.fly = s.fly.eraseIdx k) ∧
      (s.cluTlb? x.cell x.asid x.va = none → ∃ t v, exec (.clusterTlbLookup k) s = .next t ∧ MemKept s t ∧ t.cells = s.cells ∧
        t.fly = s.fly.eraseIdx k ++ [{ n := n, cell := c, f := .walk v }] ∧ v.x = x)) ∧
    (s.flight k = some { n := n, cell := c, f := .walk w } → w.joined = [] → byTask w.x →
      (2 ^ 57 ≤ w.x.va → ∃ t, exec (.tableWalk k) s = .next t ∧ MemKept s t ∧ RegistersKept s t ∧ t.fly = s.fly.eraseIdx k ∧
        Woken s t w.x (some { cause := .xltCanon, pc := 0, addr := w.x.va, detail := xltDetail 15 w.x.kind 0 }) []) ∧
      (w.x.va < 2 ^ 57 → bit (lookD s.ctx w.x.asid 0) 0 = false → ∃ t, exec (.tableWalk k) s = .next t ∧ MemKept s t ∧
        RegistersKept s t ∧ t.fly = s.fly.eraseIdx k ∧
        Woken s t w.x (some { cause := .xltInvalid, pc := 0, addr := w.x.va, detail := xltDetail 5 w.x.kind 0 }) []) ∧
      (w.x.va < 2 ^ 57 → bit (lookD s.ctx w.x.asid 0) 0 = true →
        let root := fld (lookD s.ctx w.x.asid 0) 51 12 * 4096
        let d := dieOf w.x.cell
        let busy := s.fly.filter (fun f => (walkOn d f.f).isSome)
        (2 ^ 40 ≤ root → ∃ t, exec (.tableWalk k) s = .next t ∧ MemKept s t ∧ RegistersKept s t ∧ t.fly = s.fly.eraseIdx k ∧
          Woken s t w.x (some { cause := .xltPhys, pc := 0, addr := w.x.va, detail := xltDetail 5 w.x.kind 0 }) []) ∧
        (root < 2 ^ 40 → busy = [] → (∀ q ∈ s.walkQueue d, ∃ i, w.ticket = some i ∧ i ≤ q) →
          (s.die d).wcFind w.x.asid w.x.va = none → ∃ t, exec (.tableWalk k) s = .next t ∧ MemKept s t ∧ t.cells = s.cells ∧
            t.fly = s.fly.eraseIdx k ++ [{ n := n, cell := c, f := .wread { w with lvl := 4, table := root, ticket := none } }]) ∧
        (root < 2 ^ 40 → 64 ≤ busy.length → (∀ f ∈ s.fly, ∀ v, walkOn d f.f = some v →
            ¬ (v.x.asid = w.x.asid ∧ v.x.va / 4096 = w.x.va / 4096)) →
          (w.ticket = none → (s.walkQueue d).length < 256 → ∃ t, exec (.tableWalk k) s = .next t ∧ t.mem = s.mem ∧ t.cells = s.cells ∧
            t.fly[k]? = some { n := n, cell := c, f := .walk { w with ticket := some s.serial } }) ∧
          (w.ticket ≠ none ∨ 256 ≤ (s.walkQueue d).length → exec (.tableWalk k) s = .next s)))) ∧
    (s.flight k = some { n := n, cell := c, f := .wread w } → w.joined = [] → byTask w.x → Memory.Wf s.mem →
      let a := w.table + 8 * fld w.x.va (20 + 9 * w.lvl) (12 + 9 * w.lvl)
      let v := memRead s.mem a 8
      let use := s.hsRead w.x.gid (dieOf w.x.cell) a
      (use = none → exec (.walkEntryRead k) s = .next s) ∧
      (use.isSome = true → (s.bad a 8 = true → ∃ t, exec (.walkEntryRead k) s = .next t ∧ MemKept s t ∧ RegistersKept s t ∧ t.fly = s.fly.eraseIdx k ∧
        Woken s t w.x (some { cause := .memUe, pc := 0, addr := w.x.va }) []) ∧ (s.bad a 8 = false →
      (∀ cause, pteFault v w.lvl w.x.kind = some cause → ∃ t, exec (.walkEntryRead k) s = .next t ∧ MemKept s t ∧
        RegistersKept s t ∧ t.fly = s.fly.eraseIdx k ∧
        Woken s t w.x (some { cause := cause, pc := 0, addr := w.x.va, detail := xltDetail w.lvl w.x.kind a }) []) ∧
      (pteFault v w.lvl w.x.kind = none → w.lvl ≠ 0 → bit v 1 = false → ∃ t, exec (.walkEntryRead k) s = .next t ∧ MemKept s t ∧
        t.cells = s.cells ∧ t.fly = s.fly.eraseIdx k ++
          [{ n := n, cell := c, f := .wread { w with lvl := w.lvl - 1, table := fld v 51 12 * 4096, pte := a } }]) ∧
      (pteFault v w.lvl w.x.kind = none → w.lvl = 0 ∨ bit v 1 = true →
       (w.lvl = 0 → bit v 5 = true → ∀ r, use = some r → (r.hsRead w.x.gid (dieOf w.x.cell) (Nat.xor (a / 64) 1 * 64)).isSome = true) →
       ∃ t u, exec (.walkEntryRead k) s = .next t ∧
        WordSet s t a (marked v w.x.kind) ∧ t.cells = s.cells ∧
        t.fly = s.fly.eraseIdx k ++ [{ n := n, cell := c, f := .winst { w with pte := a } u }] ∧
        u.asid = w.x.asid ∧ w.x.va / 2 ^ u.size = u.vpn ∧ u.read = bit v 2 ∧ u.write = bit v 3 ∧ u.exec = bit v 4 ∧
        u.mtype = fld v 7 6 ∧ u.glob = bit v 10 ∧
        u.frame + w.x.va % 2 ^ u.size = fld v 51 12 * 4096 + w.x.va % 2 ^ (12 + 9 * w.lvl))))) ∧
    (s.flight k = some { n := n, cell := c, f := .winst w e } → let rest := s.fly.eraseIdx k
      let served := w :: rest.filterMap (fun f => waitsFor w e f.f)
      (∀ v ∈ served, ∀ y ∈ v.x :: v.joined, byTask y) → ∃ t, exec (.walkInstall k) s = .next t ∧ MemKept s t ∧ RegistersKept s t ∧
      t.fly = rest.filter (fun f => (waitsFor w e f.f).isNone) ∧ ∀ y ∈ served.flatMap (fun v => v.x :: v.joined), Woken s t y none [e] ∧
        (Holds4 e y.asid y.va → tlbFind (t.cell y.cell).tlb y.asid y.va = some e)) ∧
    (s.flight k = some { n := n, cell := c, f := .dirty x e } → byTask x → Memory.Wf s.mem →
      let a := if e.size = 16 then e.leaf / 128 * 128 + 8 * (x.va / 4096 % 16) else e.leaf
      let v := memRead s.mem a 8
      (s.hsRead x.gid (dieOf x.cell) a = none → exec (.dirtyUpdate k) s = .next s) ∧
      ((s.hsRead x.gid (dieOf x.cell) a).isSome = true → s.bad a 8 = false → (∀ cause, pteFault v e.level x.kind = some cause → ∃ t, exec (.dirtyUpdate k) s = .next t ∧ MemKept s t ∧
        RegistersKept s t ∧ Woken s t x (some { cause := cause, pc := 0, addr := x.va, detail := xltDetail e.level x.kind a }) []) ∧
      (pteFault v e.level x.kind = none → pteLeaf v e.level = true → Holds4 e x.asid x.va →
        ∃ t, exec (.dirtyUpdate k) s = .next t ∧ WordSet s t a (marked v x.kind) ∧ RegistersKept s t ∧
          Woken s t x none [{ e with dirty := true }] ∧ tlbFind (t.cell x.cell).tlb x.asid x.va = some { e with dirty := true })))

/-- R75 to R77, R174 and R435: TLBI raises ASET.IRREV in a holder; else no cell of its scope holds a translation that it
covers, the dirty L1 lines of its scope that may have been written under one are on their way home, and its register is
pending until every older access of the scope has arrived and what was read meanwhile is gone too; its flits had, it is
then written with 0. The host's invalidation does the same for any kind. Completes: TLBI,
TLBI_COMPLETE, HOST_INVALIDATE. -/
def Sys2Proof.Spec.Invalidations : Prop :=
  (∀ (s : State) (x : TlbiR),
    let kind := if x.byAddr then 1 else 0
    let die := if x.pkg then none else some (dieOf s.cur.cell)
    (s.holder = true → exec (.tlbi x) s = .next (s.trap .asetIrrev 0 0)) ∧
    (s.holder = false → ∃ t, exec (.tlbi x) s = .next t ∧ MemKept s t ∧ RegsKept s t flowRegs ∧ Advances s t ∧
      (∀ c hi, (c ≠ s.cur.cell ∨ hi ≠ s.cur.hi) →
        ({ t.bank c hi with task := (s.bank c hi).task, rep := (s.bank c hi).rep } : Bank) = s.bank c hi ∧
        ∀ k, (s.bank c hi).task = some k → ∃ l, (t.bank c hi).task = some { k with xheld := l }) ∧
      (x.a ≠ 0#8 → x.a ∈ t.b.pend) ∧ Purged t kind s.asid (s.rd x.b).toNat die ∧
      (∀ c g, c < 8192 → (∀ d, die = some d → dieOf c = d) → (s.cell c).grid = some g → asidOf (s.lr g) = s.asid →
        ∀ l ∈ (t.cell c).l1, l.dirty = 0) ∧
      ∃ f ∈ t.fly, ∃ mark, s.serial ≤ mark ∧ f.f = .tlbi s.who (some x.a) kind s.asid (s.rd x.b).toNat die mark ∧
        ∀ e ∈ t.fly, ∀ a, e ∉ s.fly → e.f = .access a → e.n < mark)) ∧
  (∀ (s : State) (k n c kind asid va mark : Nat) (w : Who) (dst : Option RegSpec) (die : Option Nat),
    s.flight k = some { n := n, cell := c, f := .tlbi w dst kind asid va die mark } →
    (s.tlbiWaits kind asid va die mark = true → exec (.tlbiComplete k) s = .next s) ∧
    (dst.isSome = true → s.invFlits c w.gid die = none → exec (.tlbiComplete k) s = .next s) ∧
    (s.tlbiWaits kind asid va die mark = false → (dst.isSome = true → (s.invFlits c w.gid die).isSome = true) → ∃ t, exec (.tlbiComplete k) s = .next t ∧ MemKept s t ∧ Purged t kind asid va die ∧
      ∀ r, dst = some r → s.live w.cell w.hi w.act = true → r.isS = true →
        readReg t.gt (t.bank w.cell w.hi) r = 0 ∧ (t.bank w.cell w.hi).pend = (s.bank w.cell w.hi).pend.erase r)) ∧
  ∀ (s : State) (kind : BitVec 2) (asid va : Nat) (die : Option Nat),
    ∃ t, exec (.hostInvalidate kind asid va die) s = .next t ∧ MemKept s t ∧ RegistersKept s t ∧ Purged t kind.toNat asid va die

/-- Translations, walks and invalidations: the statements TranslationWalks, Invalidations above, together.
Where the rules leave a point open the statement follows the model's choices of log 6, 16, 26, 73, 83, 92 and 100. -/
def Obligations.Translation : Prop :=
  Sys2Proof.Spec.TranslationWalks ∧ Sys2Proof.Spec.Invalidations

/-- R20 to R25, R87 and R355: a bank that wants a line of its code, translated as executable, gets the line that stands
in memory, or the whole line that its L1 holds, when its parities hold; when they do not, it fetches once more, past
its L1, and then goes on. A second failure is the trap FETCH.PAR, at the target of a transfer, or at the lowest failing
slot of the line. A read at the home slice waits while slots or flits are spent (R383). Completes: LINE_FETCH, LINE_REFETCH. -/
def Sys2Proof.Spec.LinesAreFetched : Prop :=
  ∀ (s : State) (c : Nat) (hi : Bool) (k : Task) (g : Grid) (e : TlbEnt) (a : Nat),
    let b := s.bank c hi
    let pc := b.pc.toNat
    let at_ := if b.entered.isSome = true ∧ b.past = none then pc else a
    let pa := e.frame + a % 2 ^ e.size
    let l := memRead s.mem (pa / 64 * 64) 64
    let Bank := fun (t : State) (x : Bank) => MemKept s t ∧ t.bank c hi = x ∧ ∀ d h2, (d ≠ c ∨ h2 ≠ hi) → t.bank d h2 = s.bank d h2
    let v : State := { s with cur := { s.cur with cell := c, hi := hi, pair := 0 } }
    b.task = some k → look s.grids k.gid = some g → s.runs c hi = true → k.pendTrap = none → k.xfault = none →
    v.floatFirst = false → wantLine b = some a → b.fell = false → inCode g.lr pc = true → inCode g.lr a = true → at_ < 2 ^ 57 →
    tlbFind (s.cell c).tlb (asidOf g.lr) at_ = some e → e.exec = true → e.mtype = 0 → e.ue = false →
    s.bad (pa / 64 * 64) 64 = false →
    let use := s.hsRead ((s.cell c).grid.getD 0) (dieOf c) (pa / 64 * 64)
    (use = none → b.refetch = true → ∃ t, exec (.lineRefetch c hi) s = .next t ∧ Bank t b) ∧
    (use = none → b.refetch = false → s.l1Look c pa = none → ∃ t, exec (.lineFetch c hi) s = .next t ∧ Bank t b) ∧
    (use.isSome = true → b.refetch = false → s.l1Look c pa = none →
      (lineOk l = true → ∃ t, exec (.lineFetch c hi) s = .next t ∧ Bank t { b with line := some { addr := a, data := l } }) ∧
      (lineOk l = false → ∃ t, exec (.lineFetch c hi) s = .next t ∧ Bank t { b with refetch := true })) ∧
    (∀ x d, b.refetch = false → s.l1Look c pa = some x → l1Hit x (pa / 64 * 64) 64 = some d → x.bad = 0 → lineOk d = true →
      ∃ t, exec (.lineFetch c hi) s = .next t ∧ Bank t { b with line := some { addr := a, data := d } }) ∧
    (use.isSome = true → b.refetch = true → lineOk l = true → ∃ t, exec (.lineRefetch c hi) s = .next t ∧
      Bank t { b with line := some { addr := a, data := l }, refetch := false }) ∧
    (use.isSome = true → b.refetch = true → lineOk l = false → ∃ u tr, exec (.lineRefetch c hi) s = .next (u.takeTrap c hi tr) ∧
      MemKept s u ∧ u.fly = s.fly ∧ u.bank c hi = b ∧ tr.cause = .fetchPar ∧ tr.pc = pc ∧ tr.spc = b.entered.getD 0 ∧
      tr.addr = if b.entered.isSome = true ∧ b.past = none then pc else a + (badSlot l).getD 0) ∧
    (b.refetch = true → exec (.lineFetch c hi) s = .next s) ∧ (b.refetch = false → exec (.lineRefetch c hi) s = .next s)


/-! ## Repetition (11) -/

/-- The instructions that REP may capture (R289). -/
def Sys2Proof.Spec.captured (i : Instr) : Bool :=
  match i with
  | .nop | .hint _ | .cpy _ | .cpym _ | .cpyr _ | .cpyg _ | .cpys _ | .chanRead _ | .chanAddr _ | .chanAbort _ | .binit _ | .bpost _
  | .btest _ | .vadd _ | .vsub _ | .vmul _ | .vmulh _ | .vmin _ | .vmax _ | .vabs _ | .vsadd _ | .vssub _ | .vshl _ | .vshr _
  | .vsar _ | .vand _ | .vor _ | .vxor _ | .vnot _ | .vfadd _ | .vfsub _ | .vfmul _ | .vfma _ | .vfmin _ | .vfmax _ | .vfabs _
  | .vfneg _ | .vfcvt _ | .vrcp _ | .vrsq _ | .vexp _ | .vlog2 _ | .vcmp _ | .vfcmp _ | .vsel _ | .vperm _ | .vbcast _ | .vextr _
  | .vins _ | .vslide _ | .vcomp _ | .viota _ | .vred _ | .vfred _ | .vscan _ | .vfscan _ | .vargmax _ | .vld _ | .vst _ | .vlds _
  | .vsts _ | .vgath _ | .vscat _ | .mand _ | .mor _ | .mxor _ | .mnot _ | .mpopc _ | .mfirst _ | .mset _ | .mget _ | .acfg _
  | .amma _ | .azero _ | .ard _ | .atq _ | .atapp _ | .atseqCreate _ | .atseqFork _ | .atseqCommit _ | .atseqTrim _ | .atseqFree _
  | .atseqReport _ | .atmsk _ | .atcnt _ | .smpl _ | .topk _ | .gmask _ | .gstep _ | .bqcfg _ | .bqpush _ | .bqpop _ | .bqstat _
  | .cred _ | .cscan _ | .cbc _ | .cgath _ => true
  | _ => false

/-- R289 and R290: REP captures the next instructions, checks each and becomes the bank's repetition, the registers
that its iterations write pending and the pipeline at the instruction after the block; a captured instruction that
fails a check raises the cause with its place. An iteration issues the next captured instruction at its own place with
its marked specifiers staggered, with the effect that this instruction has anywhere, and the repetition goes on to the
next, the pipeline as it was. Completes: REP, REP_ITERATION. -/
def Sys2Proof.Spec.Repetitions : Prop :=
  (∀ (s u : State) (x : RepR) (line last : Line) (body : List (Nat × Nat)),
    let pc := s.b.pc.toNat
    let n := x.n.toNat
    let count := x.cntm1.toNat + 1
    let faults := fun j => ∀ a w, body[j]? = some (a, w) → repFault x.mark.toNat x.stag.toInt count j a w = none
    s.b.line = some line → State.capture s s line pc n = .ok (body, last, u) → body ≠ [] →
    (pc % 64 + n ≤ 4 → line.addr = pc / 64 * 64 →
      u = s ∧ last = line ∧ body = (List.range n).map (fun i => (pc + 1 + i, line.data / 2 ^ (96 * (pc % 8 + 1 + i)) % 2 ^ 96))) ∧
    ((∀ j, faults j) → armed s.b false = false → armed s.b true = false → ∃ t r, exec (.rep x) s = .next t ∧ t.b.rep = some r ∧
      r.body = body ∧ r.iter = 0 ∧ r.count = count ∧ r.stag = x.stag.toInt ∧ r.mark = x.mark.toNat ∧ r.at_ = 0 ∧
      t.mem = u.mem ∧ (∀ q, q ≠ 0x89#8 → readReg t.gt t.b q = readReg u.gt u.b q ∧ readVec t.b q = readVec u.b q) ∧
      (∀ a w, body.getLast? = some (a, w) → t.b.pc = BitVec.ofNat 64 (nextSeq a)) ∧ ∀ q ∈ repMarks r, q ∈ t.b.pend) ∧
    (∀ j a w cause at_ detail, (∀ i, i < j → faults i) → body[j]? = some (a, w) →
      repFault x.mark.toNat x.stag.toInt count j a w = some (cause, at_, detail) → exec (.rep x) s = .next (u.trap cause at_ detail))) ∧
  ∀ (s : State) (c : Nat) (hi : Bool) (r : Rep) (a w : Nat) (i : Instr),
    let b := s.bank c hi
    let v := ({ s with cur := { s.cur with cell := c, hi := hi, pair := 0, rep := true } } : State).mapBank c hi (fun b => repView b r a w)
    let Goes := fun (t : State) => exec (.repIteration c hi) s = .next t ∧ MemKept s t ∧ RegistersKept s t ∧ (t.bank c hi).rep = r.advance ∧
      (t.bank c hi).line = b.line ∧ ∀ d h2, (d ≠ c ∨ h2 ≠ hi) → t.bank d h2 = s.bank d h2
    b.rep = some r → r.body[r.at_]? = some (a, w) → stagInstr r r.at_ r.iter = some i → s.repRuns c hi = true →
    r.xfault = none → v.stall i = false → poisonSrc v.b i = none →
    (∀ t, captured i = true → exec i (v.tokenReads i) = .next t → ∃ u, exec (.repIteration c hi) s = .next u ∧ u.mem = t.mem ∧
      u.fly = t.fly ∧ (∀ d h2, (d ≠ c ∨ h2 ≠ hi) → u.bank d h2 = t.bank d h2) ∧
      (∀ q, q ∉ flowRegs → readReg u.gt (u.bank c hi) q = readReg t.gt (t.bank c hi) q ∧ readVec (u.bank c hi) q = readVec (t.bank c hi) q) ∧
      ((t.bank c hi).task.isSome = true → let y := u.bank c hi
        y.pc = b.pc ∧ y.line = b.line ∧ y.lc0 = b.lc0 ∧ y.lc1 = b.lc1 ∧
        ((t.bank c hi).pc.toNat ≠ a → y.rep = r.advance) ∧
        ((t.bank c hi).pc.toNat = a → ∃ q, y.rep = some q ∧ q.at_ = r.at_ ∧ q.iter = r.iter))) ∧
    (i = .nop → ∃ t, Goes t ∧ t.fly = s.fly) ∧
    (∀ y, i = .vadd y → i.wf = true → (∀ q ∈ readsOf i, look b.tokens q.toNat = none) → ∃ t q, Goes t ∧ t.fly = s.fly ++ [{ n := s.serial, cell := c, f := .result q }] ∧
      q.dst = y.a ∧ q.cell = c ∧ q.hi = hi ∧ q.pc = a % 2 ^ 64 ∧ ∀ k, k < nl y.ty →
        (BitVec.ofNat 512 q.val).extractLsb' (Ty.width y.ty * k) (Ty.width y.ty) =
          if on v y.msk k then src v y.ty y.b k + src v y.ty y.c k else lane v y.ty y.a k)

namespace Sys2Proof.Spec

/-- The classes that R290 lets a block hold. -/
def blockClasses : List Nat := [0x00, 0x0A, 0x0B, 0x10, 0x11, 0x12, 0x13, 0x14, 0x15, 0x18, 0x1A, 0x1B, 0x1C]

/-- No register has an index of a bank (R41). -/
def Unassigned (bank idx : Nat) : Prop :=
  (bank = 1 ∧ 32 ≤ idx) ∨ (bank = 2 ∧ idx ∈ [14, 15, 22, 23, 24, 25, 26, 27, 28, 29, 30, 31, 63])

/-- Field `f` of a word, 0 A to 3 D, leaves its bank in an iteration or names an unassigned index (R290). -/
def Leaves (w f t : Nat) (stag : Int) : Prop :=
  let r := bits w (72 - 8 * f) 8
  let i := ((r % 64 : Nat) : Int) + (t : Int) * stag
  i < 0 ∨ 63 < i ∨ Unassigned (r / 64) i.toNat

end Sys2Proof.Spec

/-- R290: a captured instruction of a class outside the list raises REP.CLASS, and one of which a marked field leaves its
bank or names an unassigned index in some iteration REP.RANGE, with the first iteration in which a check fails. What an
iteration issues is the captured word with the low six bits of each marked specifier moved by the iteration times the
stagger, modulo 64, and its bank and every other bit as they were. -/
def Sys2Proof.Spec.Staggers : Prop :=
  (∀ (mark count j a w : Nat) (stag : Int), w < 2 ^ 96 →
    let fault := repFault mark stag count j a w
    let leaves := fun (t : Nat) => ∃ f, f < 4 ∧ mark.testBit (4 * j + f) = true ∧ Leaves w f t stag
    (bits w 90 6 ∉ blockClasses → fault = some (.repClass, a, 0)) ∧
    (bits w 90 6 ∈ blockClasses → (∃ i, decodeCell (BitVec.ofNat 96 w) = .ok i) →
      ((∃ t, t < count ∧ leaves t) → ∃ t, fault = some (.repRange, a, t) ∧ t < count) ∧
      ∀ t, fault = some (.repRange, a, t) → ∀ u, u < t → ¬ leaves u)) ∧
  ∀ (r : Rep) (j t a w : Nat) (i : Instr), r.body[j]? = some (a, w) → w < 2 ^ 96 → stagInstr r j t = some i →
    ∃ v, decodeCell (BitVec.ofNat 96 v) = .ok i ∧ v < 2 ^ 96 ∧ bits v 80 16 = bits w 80 16 ∧ bits v 0 48 = bits w 0 48 ∧
      ∀ f, f < 4 → let old := bits w (72 - 8 * f) 8
        bits v (72 - 8 * f) 8 = if r.mark.testBit (4 * j + f) then
          old / 64 * 64 + ((((old % 64 : Nat) : Int) + (t : Int) * r.stag) % 64).toNat else old

/-- Lines of code, and blocks repeated: the statements LinesAreFetched, Staggers, Repetitions above, together.
Where the rules leave a point open the statement follows the model's choices of log 11, 23, 57, 80. -/
def Obligations.LinesAndRepetitions : Prop :=
  Sys2Proof.Spec.LinesAreFetched ∧ Sys2Proof.Spec.Staggers ∧ Sys2Proof.Spec.Repetitions

/-! ## Counters, time, traps and the register window (18) -/

/-- R174, R429, R433, R434 and R436: CSRRD gives a counter of the cell, or of the die for the grid, or whether the grid
traces; CSRWR writes it, with 0 in A, but not in a holder. TIME with UNTIL waits, and completes with GT when GT has
reached its deadline. TRACE appends its record to the area of a grid that records and traces, with 0 in A, and else
gives 1. Completes: CSRRD, CSRWR, TRACE, TIME_UNTIL_DEADLINE.
Where the rules leave a point open the statement follows the model's choices of log 14, 59. -/
def Obligations.CountersAndTime : Prop :=
  (∀ (s : State) (x : CsrR) (y : CsrwR) (z : MovR) (w : A3) (g : Grid) (k : Task),
    let n := x.csr.toNat
    let m := y.csr.toNat
    let die := dieOf s.cur.cell
    let v := s.rd y.b
    x.a.isS = true → y.a.isS = true → w.a.isS = true → s.b.task = some k → look s.grids k.gid = some g →
    Gives s (.csrrd x) x.a (BitVec.ofNat 64 (if n = 0x200 then (if g.trctl then 1 else 0)
      else if n < 0x100 then lookD (s.cell s.cur.cell).csr n 0 else lookD (s.die die).csr (k.gid * 2 ^ 16 + n) 0)) ∧
    (s.holder = true → exec (.csrwr y) s = .next (s.trap .asetIrrev 0 0) ∧ exec (.trace w) s = .next (s.trap .asetIrrev 0 0)) ∧
    (s.holder = false → ∃ t, exec (.csrwr y) s = .next t ∧ MemKept s t ∧ BanksKept s t ∧ RegsKept s t (y.a :: flowRegs) ∧ Advances s t ∧
      t.fly = s.fly ∧ Holds t y.a 0 ∧
      (m = 0x200 → (look t.grids k.gid).map (·.trctl) = some (v.getLsbD 0)) ∧
      (m < 0x100 → m ≠ 1 ∨ s.cur.pair ≠ 1 → lookD (t.cell s.cur.cell).csr m 0 = v.toNat) ∧
      (0x100 ≤ m → m ≠ 0x200 → lookD (t.die die).csr (k.gid * 2 ^ 16 + m) 0 = v.toNat)) ∧
    (s.gt.toNat < (s.rd z.b).toNat → ∃ t, exec (.timeUntil z) s = .next t ∧ Waits s t ∧ t.fly = s.fly ∧
      t.b.task = some { k with until_ := some ((s.rd z.b).toNat, z.a) }) ∧
    (s.holder = false → recording g.lr = false ∨ g.trctl = false → Gives s (.trace w) w.a 1) ∧
    (let e := lookD s.ctx (asidOf g.lr) 0
     let at_ := fld e 511 460 * 4096 + g.recPos
     s.holder = false → recording g.lr = true → g.trctl = true → g.replay = none → Memory.Wf s.mem →
      g.recPos + 32 ≤ fld e 459 440 * 4096 → at_ + 32 ≤ 2 ^ 41 →
      ∃ t h, exec (.trace w) s = .next t ∧ BanksKept s t ∧ RegsKept s t (w.a :: flowRegs) ∧ Advances s t ∧ t.fly = s.fly ∧ Holds t w.a 0 ∧
        look t.grids k.gid = some h ∧ h.recPos = g.recPos + 32 ∧
        memRead t.mem at_ 32 = s.gt.toNat * 2 ^ 192 + (s.rd w.b).toNat * 2 ^ 128 + (s.rd w.c).toNat * 2 ^ 64 + 24 * 2 ^ 56 ∧
        ∀ b, (b < at_ ∨ at_ + 32 ≤ b) → memGet t.mem b = memGet s.mem b)) ∧
  ∀ (s : State) (c d : Nat) (hi : Bool) (k : Task) (r : RegSpec),
    let b := s.bank c hi
    b.task = some k → k.until_ = some (d, r) → r.isS = true → s.runs c hi = true → Plain s k.gid →
    (s.gt.toNat < d → exec (.timeUntilDeadline c hi) s = .next s) ∧
    (d ≤ s.gt.toNat → ∃ t q, exec (.timeUntilDeadline c hi) s = .next t ∧ MemKept s t ∧ t.fly = s.fly ∧
      (∀ d h2, (d ≠ c ∨ h2 ≠ hi) → t.bank d h2 = s.bank d h2) ∧ (t.bank c hi).task = some q ∧ q.until_ = none ∧
      readReg t.gt (t.bank c hi) r = (if r = 0#8 then 0 else s.gt) ∧
      (¬ atLoopEnd b → (t.bank c hi).pc = BitVec.ofNat 64 (nextSeq b.pc.toNat)) ∧
      ∀ q, q ≠ r → q ∉ flowRegs → readReg t.gt (t.bank c hi) q = readReg s.gt b q)

namespace Sys2Proof.Spec

/-- The fields of a trap report (R412). -/
def ReportOf (r : Nat) (gt age : Word) (c : Nat) (hi : Bool) (id handler : Nat) (tr : Trap) : Prop :=
  fld r 1023 960 = gt.toNat ∧ fld r 959 896 = age.toNat ∧ fld r 895 832 = tr.addr % 2 ^ 64 ∧ fld r 831 768 = tr.pc % 2 ^ 64 ∧
    fld r 767 704 = tr.spc % 2 ^ 64 ∧ fld r 703 672 = 0 ∧ fld r 671 576 = tr.insn % 2 ^ 96 ∧ fld r 575 512 = tr.detail % 2 ^ 64 ∧
    fld r 511 480 = id ∧ fld r 479 462 = 0 ∧ bit r 461 = hi ∧ fld r 460 448 = c ∧ fld r 447 440 = handler ∧ fld r 439 432 = 0 ∧
    fld r 431 416 = tr.cause.code % 2 ^ 16 ∧ bit r 415 = !tr.cause.halting ∧ fld r 414 0 = 0 ∧ r < 2 ^ 1024

/-- A report is on its way to the supervisor (R411). -/
def Reported (s t : State) (c : Nat) (hi : Bool) (k : Task) (sup : Nat) (tr : Trap) : Prop :=
  ∃ q r, ({ n := s.serial, cell := c, f := .msg k.gid q } : Fly) ∈ t.fly ∧ q.msg.dest = sup ∧ q.msg.handler = 1 ∧
    q.msg.pri = true ∧ fld q.msg.hdr 74 67 = 128 ∧ q.msg.hdr / 2 ^ 256 = 0 ∧ q.msg.age = k.msg.age ∧ q.msg.pay = bytesOf 128 r ∧
    ReportOf r s.gt k.msg.age c hi k.msg.id k.msg.handler tr

end Sys2Proof.Spec

/-- R409 to R414: a trap in a grid with no supervisor ends the grid with status 0x10, its cause, its pc, its cell and
its detail; one in the high bank of the supervisor cell with TRAP.NEST, one whose report cannot be formed with its own
cause, and an aborting one on a cell that holds eight with HOLD.FULL. One that comes while a commit goes out waits for
its end. Else its report, field by field, is on its way to the supervisor: a halting trap keeps the task as it
is, halted; an aborting one takes the task from its bank and holds its message with the trap. -/
def Sys2Proof.Spec.TrapsAreTaken : Prop :=
  ∀ (s : State) (c : Nat) (hi : Bool) (k : Task) (g : Grid) (tr : Trap),
    let t := s.takeTrap c hi tr
    let Ends := fun (code fdetail : Nat) => t.cells = s.cells ∧ t.mem = s.mem ∧ t.fly = s.fly ∧
      look t.grids k.gid = some { g with ending := some { status := 0x10, cause := code, fpc := tr.pc, detail := c, fdetail := fdetail } }
    (s.bank c hi).task = some k → look s.grids k.gid = some g → g.ending = none → Plain s k.gid → c < 8192 →
    (k.committing = true → t.mem = s.mem ∧ t.fly = s.fly ∧ t.grids = s.grids ∧
      ∃ q, (t.bank c hi).task = some q ∧ ({ q with pendTrap := k.pendTrap } : Task) = k ∧ q.pendTrap = some (k.pendTrap.getD tr)) ∧
    (k.committing = false →
    (superOf g.lr = none → Ends tr.cause.code tr.detail) ∧
    ∀ sup, superOf g.lr = some sup →
      (sup = c → hi = true → Ends 0x72 tr.cause.code) ∧
      (sup ≠ c ∨ hi = false → tr.unformed (s.bank c hi) = true → Ends tr.cause.code tr.detail) ∧
      (sup ≠ c ∨ hi = false → tr.unformed (s.bank c hi) = false →
        (tr.cause.halting = true → MemKept s t ∧ RegistersKept s t ∧ Reported s t c hi k sup tr ∧
          ∃ q, (t.bank c hi).task = some q ∧ q.halted = some tr ∧ q.msg = k.msg ∧ q.slots = k.slots ∧ q.sends = k.sends) ∧
        (tr.cause.halting = false → 8 ≤ (s.cell c).hold.length → Ends 0x73 tr.cause.code) ∧
        (tr.cause.halting = false → (s.cell c).hold.length < 8 → MemKept s t ∧ Reported s t c hi k sup tr ∧
          (t.bank c hi).task = none ∧ (t.bank c hi).commit = [] ∧
          ∃ h, (t.cell c).hold = (s.cell c).hold ++ [h] ∧ h.trap = tr ∧ h.r.msg = k.msg ∧ h.r.hi = hi)))

/-- R409, R419 and R437: TRAP raises its trap with its code and register. BRK raises one with its code where the grid
has a supervisor, but in the high bank of the supervisor cell; elsewhere it is counted and completes. FAULT ends its
grid with a software cause at its own pc and cell, or with the cause, pc, cell and detail of its target. Completes: TRAP,
BRK, FAULT. -/
def Sys2Proof.Spec.TrapInstructions : Prop :=
  ∀ (s : State) (x : TrapR) (code : BitVec 32) (f : FaultR) (k : Task) (g : Grid),
    let counted := ∃ t, exec (.brk code) s = .next t ∧ Ran s t [] ∧ t.fly = s.fly ∧
      lookD (t.cell s.cur.cell).csr 0xA 0 = (lookD (s.cell s.cur.cell).csr 0xA 0 + 1) % 2 ^ 64
    let Ends := fun (cause fpc detail fdetail : Nat) => ∃ t, exec (.fault f) s = .next t ∧ t.cells = s.cells ∧ t.mem = s.mem ∧
      look t.grids k.gid = some { g with ending := some { status := 0x10, cause := cause, fpc := fpc, detail := detail, fdetail := fdetail } }
    let pc := s.b.pc.toNat
    let tw := (s.rd f.b).toNat
    s.b.task = some k → look s.grids k.gid = some g → g.ending = none →
    exec (.trap x) s = .next (s.trap .trap x.code.toNat (s.rd x.b).toNat) ∧
    (superOf g.lr = none → counted) ∧
    (∀ sup, superOf g.lr = some sup → (s.cur.hi = true → sup = s.cur.cell → counted) ∧
      (s.cur.hi = false ∨ sup ≠ s.cur.cell → exec (.brk code) s = .next (s.trap .brk 0 code.toNat))) ∧
    (f.code ≠ 0 → Ends f.code.toNat pc s.cur.cell 0) ∧
    (f.code = 0 → f.b = 0#8 ∨ s.winTarget k.gid tw = .gone → Ends 0x8000 pc s.cur.cell 0) ∧
    (f.code = 0 → f.b ≠ 0#8 → (∀ c hi t, s.winTarget k.gid tw = .halted c hi t → Ends t.cause.code t.pc c t.detail) ∧
      ∀ c e, s.winTarget k.gid tw = .held c e → Ends e.trap.cause.code e.trap.pc c e.trap.detail)

/-- Taking a trap, and the instructions that raise one: the statements TrapsAreTaken, TrapInstructions above, together.
Where the rules leave a point open the statement follows the model's choices of log 62, 76. -/
def Obligations.Traps : Prop :=
  Sys2Proof.Spec.TrapsAreTaken ∧ Sys2Proof.Spec.TrapInstructions

/-- R415 to R418: from another cell than the supervisor's a window operation gives 1 and changes nothing; from it, it
is on its way, its registers pending. At its target it waits for older ones to the same target, and for its flits; with no match it
answers 2; WINRD reads a register or a part of a vector, WINWR writes one, each after its checks; RESUME lets a halted
task issue again at its pc or after it, or drops it, and sends a held message to run again or drops it. Completes:
WINRD, WINWR, RESUME retry, RESUME skip, RESUME drop, WINDOW_OP_ARRIVAL.
Where the rules leave a point open the statement follows the model's choices of log 60. -/
def Obligations.RegisterWindow : Prop :=
  (∀ (s : State) (x : A4) (y : MovR),
    ∀ e ∈ [(Instr.winrd x, x.a, x.b, WinOp.rd (s.rd x.c).toNat x.d), (.winwr x, x.a, x.b, .wr (s.rd x.c).toNat (s.rd x.d)),
        (.resumeRetry y, y.a, y.b, .resume 0), (.resumeSkip y, y.a, y.b, .resume 1), (.resumeDrop y, y.a, y.b, .resume 2)],
      e.2.1.isS = true →
      (superOf s.myLr ≠ some s.cur.cell → Gives s e.1 e.2.1 1) ∧
      (superOf s.myLr = some s.cur.cell → ∃ t, exec e.1 s = .next t ∧ Sent s t e.2.1 (.window s.who (s.rd e.2.2.1).toNat e.2.2.2 e.2.1) ∧
        (∀ spec d, e.2.2.2 = .rd spec d → d ≠ 0#8 → d ∈ t.b.pend))) ∧
  ∀ (s : State) (k n cell tw : Nat) (w : Who) (o : WinOp) (dst : RegSpec),
    let reads := fun (t : State) (r : RegSpec) (v : Nat) => readReg t.gt (t.bank w.cell w.hi) r = if r = 0#8 then 0 else BitVec.ofNat 64 v
    let Answers := fun (st : Nat) (P : State → Prop) => ∃ t, exec (.windowOpArrival k) s = .next t ∧ t.fly = s.fly.eraseIdx k ∧
      reads t dst st ∧ P t
    let own := fun c hi => c = w.cell ∧ hi = w.hi
    s.flight k = some { n := n, cell := cell, f := .window w tw o dst } → s.live w.cell w.hi w.act = true → dst.isS = true →
    ((∃ f ∈ s.fly, winBefore n w.act tw f = true) → exec (.windowOpArrival k) s = .next s) ∧
    (s.winFlits w tw = none → exec (.windowOpArrival k) s = .next s) ∧
    ((∀ f ∈ s.fly, winBefore n w.act tw f = false) → (s.winFlits w tw).isSome = true →
      (s.winTarget w.gid tw = .gone → Answers 2 (fun t => MemKept s t ∧
        ∀ r, r ≠ dst → readReg t.gt (t.bank w.cell w.hi) r = readReg s.gt (s.bank w.cell w.hi) r)) ∧
      (∀ c hi tr, s.winTarget w.gid tw = .halted c hi tr → ¬ own c hi →
        let b := s.bank c hi
        (∀ spec d, o = .rd spec d → d ≠ dst → d.isS = true → winBad spec = false →
          let r : RegSpec := BitVec.ofNat 8 spec
          rbank r ≠ 3 → noIndex (rbank r) (ridx r) = false → (spec = 0x8D → Untraced s w.gid) →
          (r ∈ b.pend → exec (.windowOpArrival k) s = .next s) ∧
          (r ∉ b.pend → Answers 0 (fun t => MemKept s t ∧ t.bank c hi = b ∧
            reads t d (if rbank r = 1 then (readVec b r).toNat / 2 ^ (64 * fld spec 10 8) % 2 ^ 64 else (readReg s.gt b r).toNat)))) ∧
        (∀ spec v, o = .wr spec v → winBad spec = false →
          let r : RegSpec := BitVec.ofNat 8 spec
          (winWrites r = false → Answers 3 (fun t => MemKept s t ∧ t.bank c hi = b)) ∧
          (winWrites r = true → r ∈ b.pend → Answers 4 (fun t => MemKept s t ∧ t.bank c hi = b)) ∧
          (rbank r = 1 → winWrites r = true → r ∉ b.pend → Answers 0 (fun t => MemKept s t ∧ ∀ i, i < 8 →
            (readVec (t.bank c hi) r).toNat / 2 ^ (64 * i) % 2 ^ 64 =
              if i = fld spec 10 8 then v.toNat else (readVec b r).toNat / 2 ^ (64 * i) % 2 ^ 64)) ∧
          (r.isS = true → r ≠ 0#8 → r ∉ b.pend → Answers 0 (fun t => MemKept s t ∧ readReg t.gt (t.bank c hi) r = v ∧
            ∀ q, q ≠ r → readReg t.gt (t.bank c hi) q = readReg s.gt b q))) ∧
        (o = .resume 0 → Answers 0 (fun t => MemKept s t ∧ (t.bank c hi).pc = b.pc ∧
          ∃ q, (t.bank c hi).task = some q ∧ q.halted = none)) ∧
        (o = .resume 1 → Answers 0 (fun t => MemKept s t ∧ (∃ q, (t.bank c hi).task = some q ∧ q.halted = none) ∧
          (¬ atLoopEnd b → (t.bank c hi).pc = BitVec.ofNat 64 (nextSeq b.pc.toNat)) ∧
          ∀ r, r ∉ flowRegs → readReg t.gt (t.bank c hi) r = readReg s.gt b r)) ∧
        (o = .resume 2 → ∃ t, exec (.windowOpArrival k) s = .next t ∧ reads t dst 0 ∧ (t.bank c hi).task = none)) ∧
      (∀ c e, s.winTarget w.gid tw = .held c e →
        (∀ m, o = .resume m → m = 0 ∨ m = 1 → Answers 0 (fun t => MemKept s t ∧ (t.cell c).hold = (s.cell c).hold.erase e ∧
          (t.cell c).again = (s.cell c).again ++ [e.r])) ∧
        (o = .resume 2 → Answers 0 (fun t => MemKept s t ∧ (t.cell c).hold = (s.cell c).hold.erase e ∧ (t.cell c).again = (s.cell c).again))))

/-! ## Engines (05, 11) -/

namespace Sys2Proof.Spec

/-- The token of a command is on its way: a status and a value (R124). -/
def TokenSent (t : State) (k : Cmd) (status val : Nat) : Prop :=
  ∃ n o, ({ n := n, cell := k.cell, f := .token { cmd := k, status := status, val := val, out := o } } : Fly) ∈ t.fly

/-- The token of a copy channel's command is on its way (R117, R125). -/
def ChanToken (t : State) (k : Cmd) (ch status val : Nat) : Prop :=
  ∃ n, ({ n := n, cell := k.cell, f := .token { cmd := k, status := status, val := val, chan := some ch } } : Fly) ∈ t.fly

/-- Some bytes of memory hold a number, and no other byte has changed. -/
def BytesSet (s t : State) (a n v : Nat) : Prop :=
  ∀ b, memGet t.mem b = if a ≤ b ∧ b < a + n then BitVec.ofNat 8 (byteAt v (b - a)) else memGet s.mem b

/-- An ARD that may start: not refused, and nothing that it reads poisoned (R292, R293). -/
def ArdFit (s : State) (c : Nat) (k : Cmd) : Prop :=
  s.stepsOn c (fun a => a == wAcc k.arg) = false ∧ (s.cell c).ard = none ∧
    ardBad k (lookD (s.cell c).acc (wAcc k.arg) {}).kind = false ∧ ardRange k.arg = false ∧ s.ardPoison k = false

/-- An ARD has started: it has left its queue and holds its rows, element by element the output of R293, with the
place where they go; with CLR the rows read are +0 from then on, and nothing else of the buffers changes. -/
def ArdStarted (s t : State) (c : Nat) (k : Cmd) (loc : Option Loc) : Prop :=
  let x := lookD (s.cell c).acc (wAcc k.arg) {}
  let z := (ardSize k.arg).getD 0
  let blk := padKey c (fld k.arg 35 18)
  MemKept s t ∧ RegistersKept s t ∧ t.fly = s.fly ∧ ∃ a, (t.cell c).ard = some a ∧ a.cmd = k ∧ a.loc = loc ∧ a.row = 0 ∧
    a.size = 32 * z ∧ a.rows.length = ardRows k.arg ∧
    (∀ i, i < ardRows k.arg →
      let r := fld k.arg 61 57 + i
      a.rows.getD i 0 = ((List.range 32).map (fun j =>
        ardEl k x.kind (lookD x.el (32 * r + j) 0) (memRead s.mem (blk + 4 * r) 4) (memRead s.mem (blk + 128) 4) * 2 ^ (8 * z * j))).sum) ∧
    (k.arg.testBit 44 = false → (t.cell c).acc = (s.cell c).acc) ∧
    (k.arg.testBit 44 = true → (∀ a, a ≠ wAcc k.arg → look (t.cell c).acc a = look (s.cell c).acc a) ∧
      ∃ y, look (t.cell c).acc (wAcc k.arg) = some y ∧ ({ y with el := x.el } : Acc) = x ∧ ∀ r j, j < 32 →
        lookD y.el (32 * r + j) 0 =
          if fld k.arg 61 57 ≤ r ∧ r < fld k.arg 61 57 + ardRows k.arg then 0 else lookD x.el (32 * r + j) 0)

end Sys2Proof.Spec

/-- R293: an output element of ARD. With OTYPE 1 it is the element itself. Else the element, an INT32 one rounded to FP32,
less the row's value, times the scale and through the exponential table, as the read word asks, each step rounded once to
the nearest of its format, is converted as FCVT converts it. -/
def Sys2Proof.Spec.ArdElements : Prop :=
  ∀ (k : Cmd) (kd : AccKind) (x row scale : Nat),
    let w := k.arg
    let F := if kd = .fp64 then fmt64 else fmt32
    let out := ardEl k kd x row scale
    let step := fun (used : Bool) (a b : Nat) (op : Rat → Rat → Rat) (y : Nat) =>
      (used = false → b = a) ∧
      (used = true → (∀ p q, rat (decodeF F a) = some p → rat (decodeF fmt32 y) = some q → Rounds F .rne b (op p q)) ∧
        ((decodeF F a).isNan = true ∨ (decodeF fmt32 y).isNan = true → b = qnan F))
    (fld w 51 48 = 1 → out = x) ∧
    ∀ t, fld w 51 48 ≠ 1 → Ty.ofNat? (fld w 51 48) = some t → ∃ x0 x1 x2 x3,
      (kd ≠ .int32 → x0 = x) ∧ (kd = .int32 → Rounds fmt32 .rne x0 ((BitVec.ofNat 32 x).toInt : Rat)) ∧
      step (w.testBit 47) x0 x1 (fun p q => p - q) row ∧ step (w.testBit 45) x1 x2 (fun p q => p * q) scale ∧
      x3 = (if w.testBit 46 then expTab x2 else x2) ∧
      out = (fCvt (Ty.fmt t) F (match fld k.cnt 1 0 with | 0 => .rne | 1 => .rz | 2 => .rd | _ => .ru) (k.cnt.testBit 2) x3).bits

/-- R124, R171, R270, R287, R291 to R293, R304, R336 and R383: TOKEN_WRITE puts the status and value of a completed
command into its token register while its task runs, and counts a detached copy that failed; with it the channel of a
copy becomes idle, the registers of the aborts that waited for it written, and the bytes of a crucible's answer are
written, once the cell runs the grid. ENGINE_QUEUE_HEAD and
RING_WAKE wait for an unresolved guard, discard by a false one with status 3, wait for the issue release, and then run
the head: ACFG and AZERO at once, a crucible command to its crucible, an ARD whose output ring is not full.
BUDGET_PERIOD forgets the slots of the last period. The token of a SMPL with no legal entry has status 0x91; NOLEGAL is
then set in st of a task that still runs, which raises GEN.NOLEGAL where it is enabled, and GEN_DETERR counts one that
raises no trap and is detached or finds its task gone. Completes: TOKEN_WRITE, ENGINE_QUEUE_HEAD, RING_WAKE,
BUDGET_PERIOD. -/
def Sys2Proof.Spec.QueuesAndTokens : Prop :=
  (∀ (s : State) (k n cell : Nat) (w : Tok),
    let c := w.cmd
    let x := s.cell c.cell
    let unaborted := ∀ ch, w.chan = some ch → (x.chan ch).waits = []
    s.flight k = some { n := n, cell := cell, f := .token w } → (c.op.queue = .crucible → Plain s c.gid) →
    (c.op = .smpl → w.status = 0x91 → w.out = none → w.chan = none → (∀ r, c.tok = some r → r.isS = true) →
      ∃ t, exec (.tokenWrite k) s = .next t ∧ MemKept s t ∧ t.fly = s.fly.eraseIdx k ∧
        let b := s.bank c.cell c.hi
        let y := t.bank c.cell c.hi
        let live := s.live c.cell c.hi c.act
        let count := fun (v : State) => lookD (v.cell c.cell).csr 8 0
        let counted := x.grid = some c.gid → count t = (count s + 1) % 2 ^ 64
        (∀ r, c.tok = some r → live = true → readReg t.gt y r = if r = 0#8 then 0 else BitVec.ofNat 64 (0x91 * 2 ^ 48 + w.val)) ∧
        (live = false → counted ∧ y = b) ∧
        ∀ task, live = true → b.task = some task → y.st = b.st ||| 0x20#64 ∧
          (b.st.getLsbD 13 = true → count t = count s ∧ ∃ task', y.task = some task' ∧ ({ task' with pendTrap := task.pendTrap } : Task) = task ∧
            task'.pendTrap = some (task.pendTrap.getD { cause := .genNolegal, pc := c.pc, insn := c.insn })) ∧
          (b.st.getLsbD 13 = false → y.task = some task ∧ (c.tok = none → counted) ∧ (c.tok ≠ none → count t = count s))) ∧
    ((c.op = .smpl → w.status ≠ 0x91) →
    (w.out.isSome = true → x.grid ≠ some c.gid → exec (.tokenWrite k) s = .next s) ∧
    (∀ off n data, w.out = some (off, n, data) → x.grid = some c.gid → c.tok = none → w.chan = none → Untraced s c.gid →
      x.watch = [] → Memory.Wf s.mem → off + n ≤ 0x3FFC0 → ∃ t, exec (.tokenWrite k) s = .next t ∧ RegistersKept s t ∧
        BytesSet s t (padKey c.cell off) n data) ∧
    (∀ ch, w.chan = some ch → w.out = none → ∃ t, exec (.tokenWrite k) s = .next t ∧
      (t.cell c.cell).chan ch = { status := w.status, bytes := (x.chan ch).w.landed, addr := ((x.chan ch).stop.map (·.2)).getD 0 }) ∧
    (∀ ch hi act q, w.chan = some ch → w.out = none → c.tok = none → (x.chan ch).waits = [(hi, act, q)] →
      s.live c.cell hi act = true → q.isS = true → q ≠ 0#8 → ∃ t, exec (.tokenWrite k) s = .next t ∧
        readReg t.gt (t.bank c.cell hi) q =
          BitVec.ofNat 64 (x.tongs.length % 128 * 2 ^ 56 + w.status % 256 * 2 ^ 48 + (x.chan ch).w.landed % 2 ^ 48)) ∧
    (w.out = none → unaborted → ∀ r, c.tok = some r → r.isS = true → s.live c.cell c.hi c.act = true → ∃ t, exec (.tokenWrite k) s = .next t ∧
      MemKept s t ∧ t.fly = s.fly.eraseIdx k ∧
      readReg t.gt (t.bank c.cell c.hi) r = (if r = 0#8 then 0 else BitVec.ofNat 64 (w.status * 2 ^ 48 + w.val)) ∧
      (t.bank c.cell c.hi).pend = (s.bank c.cell c.hi).pend.erase r ∧
      (∀ q, q ≠ r → readReg t.gt (t.bank c.cell c.hi) q = readReg s.gt (s.bank c.cell c.hi) q) ∧
      ∀ d hi, (d ≠ c.cell ∨ hi ≠ c.hi) → t.bank d hi = s.bank d hi) ∧
    (w.out = none → unaborted → c.tok = none → ∃ t, exec (.tokenWrite k) s = .next t ∧ MemKept s t ∧ RegistersKept s t ∧ t.fly = s.fly.eraseIdx k ∧
      (c.op.queue = .tongs → w.status ≠ 0 → w.status ≠ 0x30 → x.grid = some c.gid →
        lookD (t.cell c.cell).csr 5 0 = (lookD (s.cell c.cell).csr 5 0 + 1) % 2 ^ 64)))) ∧
  (∀ (s : State) (c : Nat) (q : QueueId) (k : Cmd) (rest : List Cmd),
    let head := exec (.engineQueueHead c q) s
    let wake := exec (.ringWake c q) s
    let Left := fun (t : State) => MemKept s t ∧ RegistersKept s t ∧ (t.cell c).queue q = rest ∧
      ∀ p, p ≠ q → (t.cell c).queue p = (s.cell c).queue p
    (s.cell c).queue q = k :: rest → k.cell = c → k.op.queue = q → (∀ j ∈ rest, j.id ≠ k.id) → k.op ≠ .amma → q ≠ .coll → q ≠ .gen →
    (k.ringC = none → k.ringD = none → wake = .next s) ∧
    (k.ringC.isSome = true ∨ k.ringD.isSome = true → q = .anvil ∨ q = .crucible → wake = head) ∧
    (s.verdict k = none → head = .next s) ∧
    (s.verdict k = some false → ∃ t, head = .next t ∧ Left t ∧ TokenSent t k 3 0) ∧
    (s.verdict k = some true → q = .anvil ∨ q = .crucible → s.released k = false → head = .next s) ∧
    (s.verdict k = some true → s.released k = true →
      (q = .crucible → k.op ≠ .atq → ∃ t, head = .next t ∧ Left t ∧ t.fly = s.fly ++ [{ n := s.serial, cell := c, f := .cruc k }]) ∧
      (k.op = .atq → (s.slot k.gid (dieOf c) .cq = none → head = .next s) ∧
        (∀ u, s.slot k.gid (dieOf c) .cq = some u → ∃ t, head = .next t ∧ Left t ∧
          t.fly = s.fly ++ [{ n := s.serial, cell := c, f := .cruc k }])) ∧
      (k.op = .acfg → s.stepsOn c (fun _ => true) = false → (s.cell c).ard = none → ∃ t, head = .next t ∧ Left t ∧
        TokenSent t k 0 0 ∧ (t.cell c).gang = k.cnt % 4 ∧ (t.cell c).opc = []) ∧
      (k.op = .azero → s.stepsOn c (fun a => bit k.cnt a) = false → ∃ t, head = .next t ∧ Left t ∧ TokenSent t k 0 0 ∧
        ∀ a, look (t.cell c).acc a = if bit k.cnt a then none else look (s.cell c).acc a) ∧
      (k.op = .ard → ArdFit s c k →
        (fld k.arg 43 42 = 0 → ∃ t, head = .next t ∧ Left t ∧ ArdStarted s t c k none) ∧
        (fld k.arg 43 42 = 1 → ∃ t, head = .next t ∧ Left t ∧ ArdStarted s t c k (some (.port c (fld k.arg 17 0)))) ∧
        (fld k.arg 43 42 = 2 → ∀ r, k.ringD = some r → s.ringUnfit c (ardBytes k.arg) (some r) = false →
          (cwFilled r.slots (s.ringWord r c) = some r.slots → head = .next s ∧ wake = .next s) ∧
          (cwFilled r.slots (s.ringWord r c) ≠ some r.slots → ∃ t, head = .next t ∧ wake = .next t ∧ Left t ∧
            ArdStarted s t c k (some (r.slotLoc c (cwP (s.ringWord r c)))))))) ) ∧
  ∀ (s : State), ∃ t, exec .budgetPeriod s = .next t ∧ ({ t with dies := s.dies } : State) = s ∧
    ∀ d x, look s.dies d = some x → ∃ y, look t.dies d = some y ∧ ({ y with period := x.period, spent := x.spent } : Die) = x ∧
      y.period = s.gt.toNat / 1024 ∧ y.spent = if x.period = s.gt.toNat / 1024 then x.spent else []

/-- Tokens, the heads of the engine queues, and the elements that an ARD writes: the statements QueuesAndTokens,
ArdElements above, together.
Where the rules leave a point open the statement follows the model's choices of log 13 and 55; that an ARD holds all its
rows as the accumulator stood at its start is the model's choice of log 49. -/
def Obligations.TokensAndQueues : Prop :=
  Sys2Proof.Spec.QueuesAndTokens ∧ Sys2Proof.Spec.ArdElements

/-- R115 to R117, R122, R124, R125, R131, R137 and R138: a copy leaves its queue for the channel it names, or the lowest
idle one, and starts when its release is complete and its checks hold; one that fails a check completes with its
status, no byte read. A piece of a copy in the cell's own scratchpad is read, and then its bytes land, nothing else
changes, and an acknowledgement is on its way; after the last the token carries the bytes landed. A pending copy goes
on only while every cell that it names runs its grid, and writes no token. Completes: TONGS_COMMAND_START,
TONGS_PIECE_LAND, TONGS_PIECE_ACK, PENDING_COPY_REPLAY. -/
def Sys2Proof.Spec.ChannelsRun : Prop :=
  (∀ (s : State) (c ch : Nat) (k : Cmd) (rest : List Cmd),
    let x := s.cell c
    let start := exec (.tongsCommandStart c) s
    let idle := fun n => (x.chan n).cmd = none
    let taken := match k.chan with
      | some n => n = ch ∧ idle n
      | none => ch < 4 ∧ idle ch ∧ ∀ n, n < ch → ¬ idle n
    let Kept := fun (t : State) => MemKept s t ∧ RegistersKept s t
    let To := fun (j : Cmd) (old : Chan) => ∃ t, start = .next t ∧ Kept t ∧ (t.cell c).tongs = rest ∧ t.fly = s.fly ∧
      (t.cell c).chan ch = { old with cmd := some j }
    (∀ j, s.toStart c = some (ch, j) → j.preStatus (s.lr j.gid) = none → ∃ t, start = .next t ∧ Kept t ∧ t.fly = s.fly ∧
      (t.cell c).tongs = x.tongs ∧ (t.cell c).chan ch = { x.chan ch with cmd := some { j with started := true }, addr := 0 }) ∧
    (s.toStart c = none → x.tongs = k :: rest →
      (s.verdict k = none → start = .next s) ∧
      (s.verdict k = some false → ∃ t, start = .next t ∧ Kept t ∧ (t.cell c).tongs = rest ∧ TokenSent t k 3 0) ∧
      (s.verdict k = some true → (∀ n, k.chan = some n → ¬ idle n) → (k.chan = none → ∀ n, n < 4 → ¬ idle n) → start = .next s) ∧
      (s.verdict k = some true → taken →
        (s.released k = false → To k { status := (x.chan ch).status, addr := (x.chan ch).addr }) ∧
        (s.released k = true → k.preStatus (s.lr k.gid) = none → To { k with started := true } { status := (x.chan ch).status }) ∧
        (∀ st, s.released k = true → k.preStatus (s.lr k.gid) = some st → ∃ t, start = .next t ∧ Kept t ∧ (t.cell c).tongs = rest ∧
          ChanToken t { k with started := true } ch st 0 ∧
          (t.cell c).chan ch = { cmd := some { k with started := true }, stop := some (st, 0), done := true, status := (x.chan ch).status })))) ∧
  (∀ (s u : State) (c ch a d : Nat) (k : Cmd),
    let h := (s.cell c).chan ch
    let n := s.copyRun k h.w (some a) d 64 1
    Memory.Wf s.mem → h.cmd = some k → k.cell = c → k.started = true → h.stop = none → h.done = false → h.w.pos < k.total →
    h.w.got = none → k.op = .cpy → k.space false = 1 → k.space true = 1 → s.copyEl k h.w h.w.pos = .move (some a) d → 0 < k.z →
    a + 64 ≤ 2 ^ 18 → s.slot k.gid (dieOf c) .tongs = some u → s.bad (padKey c a) 64 = false → s.plat.down = [] →
    let read : Got := { els := n, data := memRead s.mem (padKey c a) (n * k.z), bad := false, dst := d }
    ∃ t, exec (.tongsPieceLand c ch) s = .next t ∧ MemKept s t ∧ RegistersKept s t ∧ t.fly = s.fly ∧
      (t.cell c).chan ch = { h with w := { h.w with row := none, got := some read } }) ∧
  (∀ (s : State) (c ch : Nat) (k : Cmd) (g : Got),
    let h := (s.cell c).chan ch
    let z := k.z
    Memory.Wf s.mem → h.cmd = some k → k.cell = c → k.started = true → h.stop = none → h.done = false → h.w.pos < k.total →
    h.w.got = some g → 0 < g.els * z → k.op = .cpy → k.space true = 1 → g.dst + g.els * z ≤ 0x3FFC0 → bit k.arg 447 = false →
    (s.cell c).grid = some k.gid → Untraced s k.gid → (s.cell c).watch = [] → s.plat.down = [] →
    ∃ t, exec (.tongsPieceLand c ch) s = .next t ∧ RegistersKept s t ∧ BytesSet s t (padKey c g.dst) (g.els * z) g.data ∧
      t.fly = s.fly ++ [{ n := s.serial, cell := c, f := .pieceAck c ch (g.els * z) (dieOf c) }] ∧
      (t.cell c).chan ch = { h with
        poisoned := h.poisoned || g.bad, out := h.out + 1, w := { h.w with got := none, pos := h.w.pos + g.els, landed := h.w.landed + g.els * z } }) ∧
  (∀ (s : State) (c ch : Nat) (k : Cmd),
    let h := (s.cell c).chan ch
    h.cmd = some k → k.started = true → h.stop = none → h.done = false → h.w.pos < k.total →
    (∀ t, s.piece k h.w h.away none = .waits t → exec (.tongsPieceLand c ch) s = .next t) ∧
    ∀ st a t, s.piece k h.w h.away none = .fails st a t → h.out ≠ 0 → ∃ u, exec (.tongsPieceLand c ch) s = .next u ∧
      u.mem = t.mem ∧ u.fly = t.fly ∧ (∀ c hi, u.bank c hi = t.bank c hi) ∧ (u.cell c).chan ch = { h with stop := some (st, a) }) ∧
  (∀ (s : State) (i n cell c ch b die : Nat) (k : Cmd),
    let h := (s.cell c).chan ch
    let st := match h.stop with
      | some x => x.1
      | none => if h.away ≠ [] then 1 else if h.poisoned then 0x30 else 0
    s.flight i = some { n := n, cell := cell, f := .pieceAck c ch b die } → h.cmd = some k → h.done = false →
    (1 < h.out → ∃ t, exec (.tongsPieceAck i) s = .next t ∧ MemKept s t ∧ RegistersKept s t ∧ t.fly = s.fly.eraseIdx i ∧
      (t.cell c).chan ch = { h with out := h.out - 1 }) ∧
    (h.out = 1 → h.stop.isSome = true ∨ (k.started = true ∧ h.w.got = none ∧ k.total ≤ h.w.pos) →
      ∃ t, exec (.tongsPieceAck i) s = .next t ∧ MemKept s t ∧ RegistersKept s t ∧ ChanToken t k ch st (h.w.landed % 2 ^ 48) ∧
        (t.cell c).chan ch = { h with out := 0, done := true, w := { h.w with src := none, dst := none } })) ∧
  ∀ (s : State) (g : Nat) (x : Grid) (p : PendCopy) (rest : List PendCopy),
    let replay := exec (.pendingCopyReplay g) s
    let goes := fun (w : Work) (t : State) => replay = .next (t.mapGrid g (fun y => { y with pend := { p with w := w } :: rest }))
    look s.grids g = some x → x.pend = p :: rest → x.resid = .running →
    (p.cmd.total ≤ p.w.pos → ∃ t, replay = .next t ∧ t.mem = s.mem ∧ t.cells = s.cells ∧ t.fly = s.fly ∧
      look t.grids g = some { x with pend := rest }) ∧
    (p.w.pos < p.cmd.total → (∃ c ∈ s.pendCells p, (s.cell c).grid ≠ some g) → replay = .next s) ∧
    (p.w.pos < p.cmd.total → (∀ c ∈ s.pendCells p, (s.cell c).grid = some g) →
      (∀ t, s.piece p.cmd p.w [] p.only = .waits t → replay = .next t) ∧
      (∀ w t, s.piece p.cmd p.w [] p.only = .went w t → goes w t) ∧
      ∀ w b bad die t, s.piece p.cmd p.w [] p.only = .landed w b bad [] die t → goes w t)

namespace Sys2Proof.Spec

/-- The address of an element of a copy in plain mode at one end: its base, and for each dimension the index times the
element size or the signed stride, wrapped to 64 bits (R119, R122). -/
def plainAt (w : Nat) (dst : Bool) (i0 i1 i2 i3 : Nat) : Nat :=
  let stride := fun (dl sl : Nat) => (BitVec.ofNat 32 (bits w (if dst then dl else sl) 32)).toInt
  (((bits w (if dst then 64 else 0) 64 : Int) + i0 * codeBytes (bits w 436 4) + i1 * stride 288 192 + i2 * stride 320 224 +
    i3 * stride 352 256) % 2 ^ 64).toNat

/-- One element of an integer type combined into another (R129). -/
def Combined (ty red old new : Nat) (v : Nat) : Prop :=
  let w := 8 * codeBytes ty
  let sgn := fun x => if ty ∈ [0, 1, 3, 5] then (BitVec.ofNat w x).toInt else (x : Int)
  (red = 0 → v = (old + new) % 2 ^ w) ∧
  (red = 1 → v = if sgn new < sgn old then new else old) ∧
  (red = 2 → v = if sgn old < sgn new then new else old) ∧
  (red = 3 → v = old &&& new) ∧ (red = 4 → v = old ||| new) ∧ (red = 5 → v = old ^^^ new)

/-- R122 and R128 to R130: where the elements of a copy come from and go. In plain mode the element at a place of the
order, dimension 0 fastest, goes from and to the addresses that the bases and the strides give; CPYG takes a row of its
table, and CPYS writes one, at the index that the list holds for it, skips an index of 32 ones, and stops with INDEX at
one that is not below the bound. The piece read is the element and those after it that are contiguous at both ends, in
one 64-byte block of the destination. A piece of CPYM lands in every cell of its rectangle, and nowhere else; one of
CPYR is combined element by element with what stands there. -/
def CopyElements : Prop :=
  (∀ (s u : State) (c ch : Nat) (k : Cmd),
    let h := (s.cell c).chan ch
    let w := k.arg
    let p := h.w.pos
    let e0 := bits w 128 16
    let e1 := bits w 144 16
    let e2 := bits w 160 16
    let z := codeBytes (bits w 436 4)
    let row := fun q => q / e0 % e1
    let read := exec (.tongsPieceLand c ch) s
    let Reads := fun (S D : Nat → Nat) => S p + 64 ≤ 2 ^ 18 → s.bad (padKey c (S p)) 64 = false →
      ∃ t n g, read = .next t ∧ MemKept s t ∧ RegistersKept s t ∧ t.fly = s.fly ∧ ((t.cell c).chan ch).w.got = some g ∧
        ((t.cell c).chan ch).w.pos = p ∧ g.els = n ∧ g.dst = D p ∧ g.data = memRead s.mem (padKey c (S p)) (n * z) ∧
        0 < n ∧ p + n ≤ e0 * e1 * e2 * bits w 176 16 ∧ (1 < n → (D p + n * z - 1) / 64 = D p / 64) ∧
        ∀ j, j < n → S (p + j) = S p + j * z ∧ D (p + j) = D p + j * z
    Memory.Wf s.mem → h.cmd = some k → k.cell = c → k.started = true → h.stop = none → h.done = false → p < k.total → h.w.got = none →
    bit w 423 = false → bits w 428 4 = 1 → 0 < z → s.slot k.gid (dieOf c) .tongs = some u → s.plat.down = [] →
    (k.op = .cpy ∨ k.op = .cpym ∨ k.op = .cpyr →
      let at_ := fun dst q => plainAt w dst (q % e0) (row q) (q / (e0 * e1) % e2) (q / (e0 * e1 * e2))
      Reads (at_ false) (at_ true)) ∧
    (k.op = .cpyg ∨ k.op = .cpys → (∀ r, h.w.row = some r → r.1 ≤ row p) →
      let idx := fun q => match h.w.row with
        | some r => if r.1 = row q then r.2 else memRead s.mem (padKey c (bits w 224 18 + 4 * row q)) 4
        | none => memRead s.mem (padKey c (bits w 224 18 + 4 * row q)) 4
      (idx p = 0xFFFFFFFF → ∃ t, read = .next t ∧ MemKept s t ∧ RegistersKept s t ∧ ((t.cell c).chan ch).w.pos = p + 1 ∧
        ((t.cell c).chan ch).w.got = none ∧ ((t.cell c).chan ch).w.landed = h.w.landed) ∧
      (idx p ≠ 0xFFFFFFFF → bits w 256 32 ≤ idx p → ∃ t, read = .next t ∧ MemKept s t ∧ RegistersKept s t ∧
        ((t.cell c).chan ch).stop.map (·.1) = some 0x16) ∧
      (idx p < bits w 256 32 → idx p ≠ 0xFFFFFFFF →
        Reads (fun q => plainAt w false (q % e0) (if k.op = .cpyg then idx q else row q) 0 0)
          (fun q => plainAt w true (q % e0) (if k.op = .cpys then idx q else row q) 0 0)))) ∧
  ∀ (s : State) (c ch : Nat) (k : Cmd) (g : Got),
    let h := (s.cell c).chan ch
    let z := k.z
    let n := g.els * z
    let lands := exec (.tongsPieceLand c ch) s
    Memory.Wf s.mem → h.cmd = some k → k.cell = c → k.started = true → h.stop = none → h.done = false → h.w.pos < k.total →
    h.w.got = some g → 0 < n → bit k.arg 447 = false → Untraced s k.gid → s.plat.down = [] →
    (k.op = .cpym → bit k.arg 423 = false → h.away = [] → g.dst % 2 ^ 18 + n ≤ 0x3FFC0 →
      let Member := fun m => ∃ i j, i < 2 ^ fld k.cnt 5 3 ∧ j < 2 ^ fld k.cnt 2 0 ∧
        m = cellAt (dieOf c) (32 * (bits k.arg 87 5 + j) + (bits k.arg 82 5 + i))
      bits k.arg 87 5 + 2 ^ fld k.cnt 2 0 ≤ 32 → bits k.arg 82 5 + 2 ^ fld k.cnt 5 3 ≤ 32 →
      (∀ m, Member m → (s.cell m).grid = some k.gid ∧ (s.cell m).watch = []) →
      ∃ t, lands = .next t ∧ RegistersKept s t ∧
        (∀ m, Member m → ∀ b, b < n → memGet t.mem (padKey m (g.dst % 2 ^ 18 + b)) = BitVec.ofNat 8 (byteAt g.data b)) ∧
        (∀ a, (∀ m, Member m → ∀ b, b < n → a ≠ padKey m (g.dst % 2 ^ 18 + b)) → memGet t.mem a = memGet s.mem a) ∧
        ((t.cell c).chan ch).w.pos = h.w.pos + g.els ∧ ((t.cell c).chan ch).w.landed = h.w.landed + 2 ^ (fld k.cnt 5 3 + fld k.cnt 2 0) * n) ∧
    (k.op = .cpyr → k.space true = 1 → (s.cell c).grid = some k.gid → (s.cell c).watch = [] → g.dst + n ≤ 0x3FFC0 →
      ∃ t v, lands = .next t ∧ RegistersKept s t ∧ BytesSet s t (padKey c g.dst) n v ∧
        ((t.cell c).chan ch).w.pos = h.w.pos + g.els ∧ ((t.cell c).chan ch).w.landed = h.w.landed + n ∧
        (k.ty ≤ 6 ∨ k.ty = 13 → ∀ j, j < g.els → Combined k.ty (bits k.arg 440 4) (memRead s.mem (padKey c (g.dst + j * z)) z)
          (bits g.data (8 * (j * z)) (8 * z)) (bits v (8 * (j * z)) (8 * z))))

end Sys2Proof.Spec

/-- Copies: their channels and pieces, and the places of their elements: the statements ChannelsRun, CopyElements above,
together.
Where the rules leave a point open the statement follows the model's choices of log 44, 45, 46, 47, 84, 85, 86. -/
def Obligations.CopyChannels : Prop :=
  Sys2Proof.Spec.ChannelsRun ∧ Sys2Proof.Spec.CopyElements

namespace Sys2Proof.Spec

/-- Every member's command of a step has left its queue and has its token on the way, with a status (R280, R294). -/
def StepEnds (s t : State) (i : Nat) (u : GangStep) (st : Nat) : Prop :=
  MemKept s t ∧ RegistersKept s t ∧ t.steps = s.steps.eraseIdx i ∧
    ∀ j ∈ u.joined, (∃ v, TokenSent t j.2 st v) ∧ (∀ k ∈ (t.cell j.2.cell).anvil, j.2.op = .amma → k.id ≠ j.2.id)

/-- An element of an operand part of whole bytes, as an integer of its type (R274, R275). -/
def opInt (fmt data line i : Nat) : Int :=
  let b := byteAt data (128 * line + i)
  if fmt = 5 then (BitVec.ofNat 8 b).toInt else (b : Int)

/-- The checks of a step whose members agree, in the order of their statuses; on the broadcast bus the B slot holds 128
columns (R275, R278, R281, R285, R294). -/
def stepChecks (s : State) (u : GangStep) (k : Cmd) : List (Prop × Nat) :=
  let f := stepForm (tFmt k.ea) (tFmt k.eb)
  [(stepBad k.arg k.ea k.eb = true, 0x50), (tValid k.ea = false ∨ tValid k.eb = false, 0x52), (f = none, 0x51),
   (s.ringUnfit k.cell (4096 * u.side) k.ringC = true ∨
      s.ringUnfit k.cell (if (s.cluster u.cluster).bus then 16384 else 4096 * u.side) k.ringD = true, 0x53),
   (bit k.arg 61 = false ∧ ∃ c ∈ u.cells, s.kindOf c (wAcc k.arg) ≠ .none ∧ ∀ x, f = some x → s.kindOf c (wAcc k.arg) ≠ x.2.2, 0x55),
   (s.scaleBad u k = true, 0x54)]

/-- The entry of an operand cache for a generation of a ring in a role (R283). -/
def opHit (l : List OpEnt) (r : Ring) (gen : Nat) (isB : Bool) : Option OpEnt :=
  l.find? (fun e => decide (e.ctl = r.ctl ∧ e.gen = gen ∧ e.roleB = isB))

/-- A slice's part of a slot: what its operand cache holds of it, or else the bytes that stand there (R283). -/
def opPart (m : List Host.Cell) (l : List OpEnt) (r : Ring) (gen : Nat) (isB : Bool) (place : Nat) : Nat :=
  match opHit l r gen isB with
  | some e => e.data
  | none => memRead m place 4096

/-- An operand cache after a step has used a part: a hit becomes the latest used, and a miss is installed in place of the
least recently used of eight (R283). -/
def opUsed (m : List Host.Cell) (l : List OpEnt) (r : Ring) (gen : Nat) (isB : Bool) (place : Nat) : List OpEnt :=
  match opHit l r gen isB with
  | some e => e :: l.filter (fun y => !decide (y.ctl = r.ctl ∧ y.gen = gen ∧ y.roleB = isB))
  | none => ({ ctl := r.ctl, gen := gen, roleB := isB, data := memRead m place 4096 } :: l).take 8

/-- Two numbers are in memory in place of what was there, and no other byte has changed. -/
def BothSet (s t : State) (a n v b m w : Nat) : Prop :=
  ∀ x, memGet t.mem x = if a ≤ x ∧ x < a + n then BitVec.ofNat 8 (byteAt v (x - a))
    else if b ≤ x ∧ x < b + m then BitVec.ofNat 8 (byteAt w (x - b)) else memGet s.mem x

end Sys2Proof.Spec

/-- R264, R279, R280, R284 to R287 and R294: an AMMA at the head of its queue joins its gang's barrier with the outcome
of its guard; one that comes more than 65,536 cycles after the first ends the step with 0x56. A full step waits for its
members' releases. One whose members disagree ends with 0x56, one with a false guard with 3, and one that fails a check
with the first status of R294; else it is ready and its commands leave their queues. A step not full after 65,536 cycles
ends with 0x56. A step's fetch begins after that of the step before it, waits for its releases and its rings, those
advances counted that are still to be made before it, takes the generations of its slots and its scales, and ends, in
turn, with the operands of each member read, from its operand cache where that holds them and installed there where not,
and ADVA and ADVB made; on the broadcast bus there is no cache, and a slice's columns of B are those of its place in the
cluster. Completes:
AMMA_JOIN, AMMA_STEP_START, GANG_TIMEOUT, AMMA_FETCH, AMMA_FETCH_END. -/
def Sys2Proof.Spec.GangSteps : Prop :=
  (∀ (s : State) (c : Nat) (k : Cmd) (rest : List Cmd) (v : Bool),
    let join := exec (.ammaJoin c) s
    let g := s.gangOf c
    let k1 := { k with started := v }
    (s.cell c).anvil = k :: rest → k.op = .amma → k.cell = c → c < 8192 → (s.cell c).gang ≤ 2 →
    (s.hasJoined k = true → join = .next s) ∧
    (s.hasJoined k = false → s.verdict k = none → join = .next s) ∧
    (∀ (i : Nat) (u : GangStep), s.hasJoined k = false → s.verdict k = some v → s.steps[i]? = some u → sameGang u g = true →
      u.phase = .joining → (s.cluster g.cluster).bus = false → u.since + 65536 < s.gt.toNat → ∃ t, join = .next t ∧ MemKept s t ∧
        RegistersKept s t ∧ (∀ w ∈ t.steps, sameGang w g = true → w.phase ≠ .joining) ∧ (∃ v, TokenSent t k1 0x56 v) ∧
        ∀ d ∈ u.cells, d ≠ c → ∀ j, u.cmdOf d = some j → ∃ v, TokenSent t j 0x56 v) ∧
    (s.hasJoined k = false → s.verdict k = some v →
      (∀ u ∈ s.steps, u.phase = .joining → u.cluster = g.cluster → s.gt.toNat ≤ u.since + 65536) →
      ((∀ u ∈ s.steps, sameGang u g = true → u.phase ≠ .joining) → ∃ (t : State) (u : GangStep), join = .next t ∧ ({ t with steps := s.steps } : State) = s ∧
        t.steps = s.steps ++ [u] ∧ sameGang u g = true ∧ u.joined = [(c, k1)] ∧ u.since = s.gt.toNat ∧ u.phase = .joining) ∧
      (∀ (i : Nat) (u : GangStep), s.steps[i]? = some u → sameGang u g = true → u.phase = .joining → ∃ (t : State) (w : GangStep), join = .next t ∧
        ({ t with steps := s.steps } : State) = s ∧ t.steps.length = s.steps.length ∧ t.steps[i]? = some w ∧ w.since = u.since ∧
        (c, k1) ∈ w.joined ∧ ∀ d ∈ u.cells, d ≠ c → ∀ j, u.cmdOf d = some j → (d, j) ∈ w.joined))) ∧
  (∀ (s : State) (i st : Nat) (u : GangStep) (k : Cmd),
    let start := exec (.ammaStepStart i) s
    let free := ∀ w ∈ s.steps, w.phase = .joining → sameGang w u = true → ∀ j ∈ w.joined, s.released j.2 = true
    s.steps[i]? = some u → u.phase = .joining → (s.cluster u.cluster).bus = false → u.lead = some k →
    (u.full = false ∨ ¬ free → start = .next s) ∧
    (free → u.full = true → u.agrees = false → ∃ t, start = .next t ∧ StepEnds s t i u 0x56 ∧
      ∀ j ∈ u.joined, s.live j.2.cell j.2.hi j.2.act = true → ∃ q, (t.bank j.2.cell j.2.hi).task = some q ∧ q.pendTrap.isSome = true) ∧
    (free → u.full = true → u.agrees = true → k.started = false → ∃ t, start = .next t ∧ StepEnds s t i u 3) ∧
    (free → u.full = true → u.agrees = true → k.started = true →
      Decides (stepChecks s u k) st →
      (st ≠ 0 → ∃ t, start = .next t ∧ StepEnds s t i u st) ∧
      (st = 0 → ∃ t, start = .next t ∧ MemKept s t ∧ RegistersKept s t ∧ t.fly = s.fly ∧ 
        t.steps = s.steps.set i { u with phase := .ready, wave := s.serial } ∧
        ∀ j ∈ u.joined, j.2.op = .amma → ∀ q ∈ (t.cell j.2.cell).anvil, q.id ≠ j.2.id)) ∧
    (u.full = true ∨ s.gt.toNat < u.since + 65536 → exec (.gangTimeout i) s = .next s) ∧
    (u.full = false → u.since + 65536 ≤ s.gt.toNat → ∃ t, exec (.gangTimeout i) s = .next t ∧ StepEnds s t i u 0x56)) ∧
  (∀ (s : State) (i : Nat) (u : GangStep) (k : Cmd) (a b : Ring),
    let fetch := exec (.ammaFetch i) s
    let before := ∃ w ∈ s.steps.take i, sameGang w u = true ∧ w.phase = .ready
    let ahead := s.advAhead i u
    let free := ∀ j ∈ u.joined, s.released j.2 = true
    let fill := fun (r : Ring) => cwFilled r.slots (s.ringWord r k.cell)
    let gen := fun (r : Ring) (sk : Nat) => (bits (s.ringWord r k.cell) 32 32 + sk + ahead r) % ringWrap r.slots
    s.steps[i]? = some u → u.phase = .ready → (s.cluster u.cluster).bus = false → u.lead = some k → k.ringC = some a → k.ringD = some b →
    (before ∨ ¬ free → fetch = .next s) ∧
    (¬ before → free → (fill a = none ∨ fill b = none) → ∃ t, fetch = .next t ∧ u ∉ t.steps ∧ ∀ j ∈ u.joined, ∃ v, TokenSent t j.2 0x53 v) ∧
    (∀ fa fb, ¬ before → free → fill a = some fa → fill b = some fb →
      (fa ≤ k.ska + ahead a ∨ fb ≤ k.skb + ahead b → fetch = .next s) ∧
      (k.ska + ahead a < fa → k.skb + ahead b < fb → s.scalesBad u k = false → ∃ (t : State) (w : GangStep), fetch = .next t ∧ ({ t with steps := s.steps } : State) = s ∧
        t.steps[i]? = some w ∧ w.phase = .fetching ∧ w.joined = u.joined ∧ w.genA = gen a k.ska ∧ w.genB = gen b k.skb ∧
        ∀ c ∈ u.cells, ∀ r, r < 32 →
          (tScMode k.ea = 0 → lookD w.scA (c * 32 + r) 0 = 0x3F800000) ∧ (tScMode k.eb = 0 → lookD w.scB (c * 32 + r) 0 = 0x3F800000) ∧
          (∀ p, tScMode k.ea ≠ 0 → scalePlace c k.ea (fld k.arg 59 40) (s.blockAt u k.arg c false + r) = some p →
            lookD w.scA (c * 32 + r) 0 = memRead s.mem p 4) ∧
          (∀ p, tScMode k.eb ≠ 0 → scalePlace c k.eb (fld k.arg 59 40) (s.blockAt u k.arg c true + r) = some p →
            lookD w.scB (c * 32 + r) 0 = memRead s.mem p 4)))) ∧
  ∀ (s : State) (i fa fb : Nat) (u : GangStep) (k : Cmd) (a b : Ring),
    let ends := exec (.ammaFetchEnd i) s
    let bus := (s.cluster u.cluster).bus
    let pa := fun c => (a.slotLoc c u.genA).key + 4096 * (sly c - u.oy)
    let pb := fun c => (b.slotLoc c u.genB).key + 4096 * (if bus then slx c else slx c - u.ox)
    let used := fun c => opUsed s.mem (s.cell c).opc a u.genA false (pa c)
    let word := fun (r : Ring) => s.ringWord r k.cell
    let own := fun (r : Ring) => padKey (r.owner k.cell) (r.ctl % 2 ^ 18)
    let adv := fun (r : Ring) => bits (word r) 0 32 + (bits (word r) 32 32 + 1) % (r.slots * (2 ^ 32 / r.slots)) * 2 ^ 32
    let fit := fun (r : Ring) (f : Nat) => r.ctl % 2 ^ 18 + 8 ≤ 0x3FFC0 ∧ cwFilled r.slots (word r) = some f ∧ 1 ≤ f ∧
      (s.cell (r.owner k.cell)).watch = []
    let turn := fun (w : GangStep) => w.phase = .fetching ∧ (if bus then w.cluster = u.cluster ∧ w.wave ≠ u.wave else sameGang w u = true)
    Memory.Wf s.mem → s.steps[i]? = some u → u.phase = .fetching → u.lead = some k → k.ringC = some a → k.ringD = some b →
    (∀ j w, s.steps[j]? = some w → j ≠ i →
      if bus then w.cluster = u.cluster → w.phase = .fetching → w.wave ≠ u.wave else w ≠ u) → Untraced s k.gid →
    ((∃ w ∈ s.steps.take i, turn w) → ends = .next s) ∧
    ((∀ w ∈ s.steps.take i, ¬ turn w) →
    (∀ c ∈ u.cells, (bus = true ∨ opHit (s.cell c).opc a u.genA false = none → s.bad (pa c) 4096 = false) ∧
      (bus = true ∨ opHit (used c) b u.genB true = none → s.bad (pb c) 4096 = false)) →
    (bit k.cnt 10 = true → fit a fa) → (bit k.cnt 9 = true → fit b fb) →
    (bit k.cnt 10 = true → bit k.cnt 9 = true → own a + 8 ≤ own b ∨ own b + 8 ≤ own a) →
    ∃ (t : State) (w : GangStep), ends = .next t ∧ RegistersKept s t ∧ t.fly = s.fly ∧ t.steps = s.steps.set i w ∧ w.phase = .fetched ∧
      w.joined = u.joined ∧
      (bus = true → ∀ c ∈ u.cells, lookD w.opA c 0 = memRead s.mem (pa c) 4096 ∧ lookD w.opB c 0 = memRead s.mem (pb c) 4096 ∧
        (t.cell c).opc = (s.cell c).opc) ∧
      (bus = false → ∀ c ∈ u.cells, lookD w.opA c 0 = opPart s.mem (s.cell c).opc a u.genA false (pa c) ∧
        lookD w.opB c 0 = opPart s.mem (used c) b u.genB true (pb c) ∧ (t.cell c).opc = opUsed s.mem (used c) b u.genB true (pb c)) ∧
      (bit k.cnt 10 = false → bit k.cnt 9 = false → MemKept s t) ∧
      (bit k.cnt 10 = true → bit k.cnt 9 = false → BytesSet s t (own a) 8 (adv a)) ∧
      (bit k.cnt 10 = false → bit k.cnt 9 = true → BytesSet s t (own b) 8 (adv b)) ∧
      (bit k.cnt 10 = true → bit k.cnt 9 = true → BothSet s t (own a) 8 (adv a) (own b) 8 (adv b)))

/-- R279, R280 and R285: on the broadcast bus the steps of a cluster's gangs start together, once all sixteen cells have
joined and every issue release is complete; where a cell has not joined 65,536 cycles after the first of a gang, that
gang's step ends with MISMATCH, and steps that would go on and name unlike B rings, or unlike generations of one at the
fetch, all end so. Those that pass their checks are ready in one wave, fetch together in its turn, and end their fetch
together with their own rows of A and, of the one slot of B, the columns of each slice's place in the cluster. -/
def Sys2Proof.Spec.Broadcasts : Prop :=
  (∀ (s : State) (i : Nat) (u : GangStep),
    let start := exec (.ammaStepStart i) s
    let l := s.steps.filter (fun w => decide (w.phase = .joining ∧ w.cluster = u.cluster))
    let all := (∀ w ∈ l, w.full = true) ∧ (l.map (fun w => w.joined.length)).sum = 16
    let free := ∀ w ∈ l, ∀ j ∈ w.joined, s.released j.2 = true
    let goes := fun (w : GangStep) (k : Cmd) => w ∈ l ∧ w.agrees = true ∧ w.lead = some k ∧ k.started = true
    s.steps[i]? = some u → u.phase = .joining → (s.cluster u.cluster).bus = true →
    (¬ all → start = .next s ∧ (u.since + 65536 ≤ s.gt.toNat → ∃ t, exec (.gangTimeout i) s = .next t ∧ StepEnds s t i u 0x56)) ∧
    (all → exec (.gangTimeout i) s = .next s ∧ (¬ free → start = .next s)) ∧
    (all → free → (∃ w x k j, goes w k ∧ goes x j ∧ k.ringD ≠ j.ringD) → ∃ t, start = .next t ∧ MemKept s t ∧ RegistersKept s t ∧
      (∀ w ∈ t.steps, w ∈ s.steps ∧ w ∉ l) ∧ ∀ w ∈ l, ∀ j ∈ w.joined, ∃ v, TokenSent t j.2 0x56 v) ∧
    (all → free → (∀ w x k j, goes w k → goes x j → k.ringD = j.ringD) →
      (∀ w ∈ l, ∃ k, goes w k ∧ ∀ p ∈ stepChecks s w k, ¬ p.1) →
      ∃ t n, start = .next t ∧ MemKept s t ∧ RegistersKept s t ∧ t.fly = s.fly ∧
        ∀ w, w ∈ t.steps ↔ (w ∈ s.steps ∧ w ∉ l) ∨ ∃ v ∈ l, w = { v with phase := .ready, wave := n })) ∧
  (∀ (s : State) (i : Nat) (u : GangStep),
    let fetch := exec (.ammaFetch i) s
    let l := s.steps.filter (fun w => decide (w.cluster = u.cluster ∧ w.phase = .ready ∧ w.wave = u.wave))
    let before := ∃ w ∈ s.steps.take i, w.cluster = u.cluster ∧ w.wave ≠ u.wave ∧ w.phase = .ready
    let free := ∀ w ∈ l, ∀ j ∈ w.joined, s.released j.2 = true
    let reads := fun (w : GangStep) (g : Nat) => w ∈ l ∧ ∃ k r, w.lead = some k ∧ k.ringD = some r ∧
      cwFilled r.slots (s.ringWord r k.cell) ≠ none ∧ g = (bits (s.ringWord r k.cell) 32 32 + k.skb + s.advAhead i w r) % ringWrap r.slots
    s.steps[i]? = some u → u.phase = .ready → (s.cluster u.cluster).bus = true →
    (before ∨ ¬ free → fetch = .next s) ∧
    (¬ before → free → (∃ w x g h, reads w g ∧ reads x h ∧ g ≠ h) → ∃ t, fetch = .next t ∧ MemKept s t ∧ RegistersKept s t ∧
      (∀ w ∈ t.steps, w ∈ s.steps ∧ w ∉ l) ∧ ∀ w ∈ l, ∀ j ∈ w.joined, ∃ v, TokenSent t j.2 0x56 v)) ∧
  ∀ (s : State) (i : Nat) (u : GangStep),
    let l := s.steps.filter (fun w => decide (w.cluster = u.cluster ∧ w.phase = .fetching ∧ w.wave = u.wave))
    let pa := fun (w : GangStep) (a : Ring) c => (a.slotLoc c w.genA).key + 4096 * (sly c - w.oy)
    let pb := fun (w : GangStep) (b : Ring) c => (b.slotLoc c w.genB).key + 4096 * slx c
    s.steps[i]? = some u → u.phase = .fetching → (s.cluster u.cluster).bus = true →
    (∀ w ∈ s.steps.take i, w.cluster = u.cluster → w.phase = .fetching → w.wave = u.wave) →
    (∀ w ∈ l, ∃ k a b, w.lead = some k ∧ k.ringC = some a ∧ k.ringD = some b ∧ bit k.cnt 10 = false ∧ bit k.cnt 9 = false ∧
      ∀ c ∈ w.cells, s.bad (pa w a c) 4096 = false ∧ s.bad (pb w b c) 4096 = false) →
    ∃ t, exec (.ammaFetchEnd i) s = .next t ∧ MemKept s t ∧ RegistersKept s t ∧ t.fly = s.fly ∧ t.steps.length = s.steps.length ∧
      ∀ (j : Nat) (w : GangStep), s.steps[j]? = some w → (w ∉ l → t.steps[j]? = some w) ∧
        (w ∈ l → ∀ k a b, w.lead = some k → k.ringC = some a → k.ringD = some b → ∃ x : GangStep, t.steps[j]? = some x ∧ x.phase = .fetched ∧
          x.joined = w.joined ∧ ∀ c ∈ w.cells, lookD x.opA c 0 = memRead s.mem (pa w a c) 4096 ∧ lookD x.opB c 0 = memRead s.mem (pb w b c) 4096)

namespace Sys2Proof.Spec

/-- A pattern of a format is the sum of two others, rounded once to the nearest, where both are numbers. -/
def Adds (F : Fmt) (out x y : Nat) : Prop :=
  ∀ p q, rat (decodeF F x) = some p → rat (decodeF F y) = some q → Rounds F .rne out (p + q)

end Sys2Proof.Spec

/-- R277, R281 and R222: the sums of the float formats on numbers. FP8: the exact sum of the 128 products rounded to FP32, the
product of the scales rounded, their product rounded, and that added to the buffer's element with one rounding more, or
taken for it with INIT. BF16 and FP16: two exact sums of 32 products, each rounded, added one after the other. FP32 and FP64:
one fused rounding for each product. A NaN among the elements, or zero times an infinity, gives a NaN. NAN says that the
element is a NaN, OF that it is an infinity made of finite values. -/
def Sys2Proof.Spec.StepSums : Prop :=
  ∀ (fa fb n z sa sb acc : Nat) (kd : AccKind) (a b : List Nat) (ta tb : Ty) (init : Bool),
    let A := Ty.fmt ta
    let B := Ty.fmt tb
    let o := stepEl fa fb a b sa sb init acc
    let F := if fa = 7 then fmt64 else fmt32
    stepForm fa fb = some (n, z, kd) → Ty.ofNat? fa = some ta → Ty.ofNat? fb = some tb → kd ≠ .int32 → a.length = n → b.length = n →
    (∀ p q : Nat → Rat, (∀ i, i < n → rat (decodeF A (a.getD i 0)) = some (p i) ∧ rat (decodeF B (b.getD i 0)) = some (q i)) →
      let dot := fun lo len : Nat => ((List.range len).map (fun i => p (lo + i) * q (lo + i))).sum
      (n = 128 → ∀ u v, rat (decodeF fmt32 sa) = some u → rat (decodeF fmt32 sb) = some v →
        ∃ g c y, Rounds fmt32 .rne g (dot 0 128) ∧ Rounds fmt32 .rne c (u * v) ∧
          (∀ x w, rat (decodeF fmt32 g) = some x → rat (decodeF fmt32 c) = some w → Rounds fmt32 .rne y (x * w)) ∧
          (init = true → o.bits = y) ∧ (init = false → Adds fmt32 o.bits acc y)) ∧
      (n = 64 → ∃ g h y, Rounds fmt32 .rne g (dot 0 32) ∧ Rounds fmt32 .rne h (dot 32 32) ∧ (init = true → y = g) ∧
        (init = false → Adds fmt32 y acc g) ∧ Adds fmt32 o.bits y h) ∧
      (n = 32 ∨ n = 16 → ∃ x : Nat → Nat, o.bits = x (n - 1) ∧ (init = true → Rounds F .rne (x 0) (p 0 * q 0)) ∧
        (init = false → ∀ v, rat (decodeF F acc) = some v → Rounds F .rne (x 0) (p 0 * q 0 + v)) ∧
        ∀ i, i + 1 < n → ∀ v, rat (decodeF F (x i)) = some v → Rounds F .rne (x (i + 1)) (p (i + 1) * q (i + 1) + v))) ∧
    (∀ i, i < n → let x := decodeF A (a.getD i 0)
      let y := decodeF B (b.getD i 0)
      x.isNan = true ∨ y.isNan = true ∨ (x.isZero = true ∧ y.isInf = true) ∨ (x.isInf = true ∧ y.isZero = true) → (decodeF F o.bits).isNan = true) ∧
    o.wrap = false ∧ o.nan = (decodeF F o.bits).isNan ∧
    (o.of = true → (decodeF F o.bits).isInf = true ∧ ∀ i, i < n → (decodeF A (a.getD i 0)).isInf = false ∧ (decodeF B (b.getD i 0)).isInf = false) ∧
    ((decodeF F o.bits).isInf = true → (∀ i, i < n → (rat (decodeF A (a.getD i 0))).isSome = true ∧ (rat (decodeF B (b.getD i 0))).isSome = true) →
      (n = 128 → (rat (decodeF fmt32 sa)).isSome = true ∧ (rat (decodeF fmt32 sb)).isSome = true) →
      (init = false → (rat (decodeF F acc)).isSome = true) → o.of = true)

/-- R277, R281, R284, R291 and R293: when a step's compute ends, each member's buffer holds for every element the sum of
R277, in the kind of its formats, with the flags of R281, and its token follows; integer sums wrap at 32 bits. A row of
an ARD lands at its place; after the last, an ARD to the vector registers has written them, one to a ring has raised P
by one, and the token carries the bytes and the buffer's flags. Completes: AMMA_COMPUTE_END, ARD_ROW_LAND. -/
def Sys2Proof.Spec.MatrixSums : Prop :=
  (∀ (s : State) (i : Nat) (u : GangStep) (l : Cmd) (f : Nat × Nat × AccKind),
    s.steps[i]? = some u → u.phase = .fetched → u.lead = some l → (u.joined.map (·.1)).Nodup →
    (∀ j ∈ u.joined, stepForm (tFmt j.2.ea) (tFmt j.2.eb) = some f ∧ j.2.ea = l.ea ∧ j.2.eb = l.eb) →
    ((∃ w ∈ s.steps.take i, sameGang w u = true) → exec (.ammaComputeEnd i) s = .next s) ∧
    ((∀ w ∈ s.steps.take i, sameGang w u = false) → ∃ t, exec (.ammaComputeEnd i) s = .next t ∧ MemKept s t ∧ RegistersKept s t ∧
      t.steps = s.steps.eraseIdx i ∧ ∀ e ∈ u.joined,
        let c := e.1
        let old := lookD (s.cell c).acc (wAcc e.2.arg) {}
        let new := lookD (t.cell c).acc (wAcc e.2.arg) {}
        let A := lookD u.opA c 0
        let B := lookD u.opB c 0
        let was := fun n => if old.kind = .none then 0 else lookD old.el n 0
        let part := fun (data line : Nat) => (List.range f.1).map (fun j => data / 2 ^ (1024 * line) / 2 ^ (8 * f.2.1 * j) % 2 ^ (8 * f.2.1))
        let scale := fun (m : Map Nat) j => lookD m (c * 32 + j) 0x3F800000
        let el := fun n => stepEl (tFmt l.ea) (tFmt l.eb) (part A (n / 32)) (part B (n % 32)) (scale u.scA (n / 32)) (scale u.scB (n % 32))
          (bit l.arg 61) (was n)
        TokenSent t e.2 0 (u.genA % 2 ^ 48) ∧ new.kind = f.2.2 ∧
        (∀ n, n < 1024 → lookD new.el n 0 = (el n).bits) ∧
        (new.nan = true ↔ old.nan = true ∨ ∃ n, n < 1024 ∧ (el n).nan = true) ∧
        (new.of = true ↔ old.of = true ∨ ∃ n, n < 1024 ∧ (el n).of = true) ∧
        (new.wrap = true ↔ old.wrap = true ∨ ∃ n, n < 1024 ∧ (el n).wrap = true) ∧
        (f = (128, 1, .int32) → ∀ r q, r < 32 → q < 32 →
          lookD new.el (32 * r + q) 0 = (BitVec.ofInt 32 ((if bit l.arg 61 then 0 else (BitVec.ofNat 32 (was (32 * r + q))).toInt) +
            ((List.range 128).map (fun j => opInt (tFmt l.ea) A r j * opInt (tFmt l.eb) B q j)).sum)).toNat))) ∧
  ∀ (s : State) (c : Nat) (a : Ard),
    let k := a.cmd
    let row := a.rows.getD a.row 0
    let bytes := ardBytes k.arg
    (s.cell c).ard = some a → Memory.Wf s.mem → Untraced s k.gid → (s.cell c).watch = [] →
    (∀ off, a.loc = some (.port c off) → off % 64 = 0 → a.size ≤ 256 → off + a.row * a.size + a.size ≤ 0x3FFC0 →
      (a.row + 1 < a.rows.length → ∃ t, exec (.ardRowLand c) s = .next t ∧ RegistersKept s t ∧ t.fly = s.fly ∧
        BytesSet s t (padKey c (off + a.row * a.size)) a.size row ∧ (t.cell c).ard = some { a with row := a.row + 1 }) ∧
      (a.rows.length ≤ a.row + 1 → fld k.arg 43 42 = 1 → ∃ t, exec (.ardRowLand c) s = .next t ∧ RegistersKept s t ∧
        BytesSet s t (padKey c (off + a.row * a.size)) a.size row ∧ (t.cell c).ard = none ∧
        TokenSent t k 0 ((a.flags * 2 ^ 32 + bytes) % 2 ^ 48))) ∧
    (∀ d off f r, a.loc = some (.port d off) → off % 64 = 0 → a.size ≤ 256 → off + a.row * a.size + a.size ≤ 0x3FFC0 → (s.cell d).watch = [] →
      a.rows.length ≤ a.row + 1 → fld k.arg 43 42 = 2 → k.ringD = some r →
      let word := s.ringWord r k.cell
      let own := padKey (r.owner k.cell) (r.ctl % 2 ^ 18)
      let at_ := padKey d (off + a.row * a.size)
      r.ctl % 2 ^ 18 + 8 ≤ 0x3FFC0 → (s.cell (r.owner k.cell)).watch = [] → own + 8 ≤ at_ ∨ at_ + a.size ≤ own →
      cwFilled r.slots word = some f → f < r.slots →
      ∃ t, exec (.ardRowLand c) s = .next t ∧ RegistersKept s t ∧ (t.cell c).ard = none ∧ TokenSent t k 0 ((a.flags * 2 ^ 32 + bytes) % 2 ^ 48) ∧
        BothSet s t at_ a.size row own 8 ((bits word 0 32 + 1) % (r.slots * (2 ^ 32 / r.slots)) + bits word 32 32 * 2 ^ 32)) ∧
    (a.loc = none → a.rows.length ≤ a.row + 1 → fld k.arg 43 42 = 0 → k.tok.isSome = true → s.live c k.hi k.act = true →
      let v := fld k.arg 41 37
      let n := (bytes + 63) / 64
      let all := (a.rows.zipIdx.map (fun e => e.1 * 2 ^ (8 * a.size * e.2))).sum
      v + n ≤ 32 → ∃ t, exec (.ardRowLand c) s = .next t ∧ MemKept s t ∧ (t.cell c).ard = none ∧
        TokenSent t k 0 ((a.flags * 2 ^ 32 + bytes) % 2 ^ 48) ∧
        (∀ j, j < n → readVec (t.bank c k.hi) (BitVec.ofNat 8 (64 + v + j)) = BitVec.ofNat 512 (all / 2 ^ (512 * j))) ∧
        ∀ r, (∀ j, j < n → r ≠ BitVec.ofNat 8 (64 + v + j)) → readReg t.gt (t.bank c k.hi) r = readReg s.gt (s.bank c k.hi) r ∧
          (rbank r = 1 → readVec (t.bank c k.hi) r = readVec (s.bank c k.hi) r))

/-- The anvil's gangs, steps and sums: the statements GangSteps, Broadcasts, MatrixSums, StepSums above, together.
Where the rules leave a point open the statement follows the model's choices of log 7, 17, 43, 49, 68, 109, 110, 111. -/
def Obligations.Anvil : Prop :=
  Sys2Proof.Spec.GangSteps ∧ Sys2Proof.Spec.Broadcasts ∧ Sys2Proof.Spec.MatrixSums ∧ Sys2Proof.Spec.StepSums

/-! ## Attention and the KV cache (12) -/

namespace Sys2Proof.Spec

/-- The conditions of R309 under which an append does not start, in the order of their statuses. -/
def appChecks (s : State) (k : Cmd) : List (Prop × Nat) :=
  let d := k.arg
  let n := appRows d
  let z := appZ d
  let x := s.cruc k.crucible
  let outside := fun (off len : Nat) => 2 ^ 18 < off + len
  let of := fun (P : Seq → Prop) => ∃ q, s.seq? (s.cmdAsid k) (fld d 255 224) = some q ∧ P q
  let bad := fun (off len : Nat) => s.bad (padKey k.cell off) len = true
  [(fld d 511 256 ≠ 0 ∨ fld d 118 0 ≠ 0 ∨ fld d 191 174 % 64 ≠ 0 ∨ fld d 173 156 % 64 ≠ 0 ∨ fld d 155 138 % 8 ≠ 0 ∨ 2 ^ 20 < fld d 223 192 + n, 0x60),
   (outside (fld d 191 174) (128 * n * z) ∨ outside (fld d 173 156) (128 * n * z) ∨ outside (fld d 155 138) (8 * n), 0x6C),
   (s.seq? (s.cmdAsid k) (fld d 255 224) = none, 0x61),
   (of (fun q => fld d 223 192 < q.floor ∨ q.nl ≤ fld d 131 124 ∨ q.nkvh ≤ fld d 123 120), 0x6C),
   (of (fun q => x.pool.frozen q.map = true), 0x62), (of (fun q => x.appSlots q d true = true), 0x66),
   (of (fun q => x.appSlots q d false = true), 0x67),
   (bad (fld d 191 174) (128 * n * z) ∨ bad (fld d 173 156) (128 * n * z) ∨ bad (fld d 155 138) (8 * n), 0x6F)]

/-- The conditions of R306 and R307 under which a query is not accepted, in the order of their statuses. -/
def queryChecks (s : State) (k : Cmd) : List (Prop × Nat) :=
  let d := k.arg
  let n := qRows d
  let a := s.cmdAsid k
  let bad := fun (off len : Nat) => s.bad (padKey k.cell off) len = true
  [(fld d 124 0 ≠ 0 ∨ fld d 191 174 % 64 ≠ 0 ∨ fld d 173 156 % 8 ≠ 0 ∨ 64 < n, 0x60),
   (2 ^ 18 < fld d 191 174 + 128 * n * qZ d ∨ 2 ^ 18 < fld d 173 156 + 8 * n, 0x6C),
   (s.seq? a (fld d 223 192) = none, 0x61),
   (∃ q, s.seq? a (fld d 223 192) = some q ∧ (q.nl ≤ fld d 138 131 ∨ q.nkvh ≤ fld d 130 127), 0x6C),
   (∀ r, k.ringD = some r → r.slotSz < 8192 * oZ d + 256 ∨ cwFilled r.slots (s.ringWord r k.cell) = none, 0x65),
   (∀ p, look (s.cruc k.crucible).slots (fld d 155 146) = some p → p.1 ≠ a, 0x6D),
   (bad (fld d 191 174) (128 * n * qZ d) ∨ bad (fld d 173 156) (8 * n), 0x6F)]

/-- The results of a query stand in its ring's next slot, row by row, with the log-sum-exp of each behind them, the
producer count has advanced, and its token carries the rows that saw nothing and the tiles met (R303, R307). -/
def ResultWritten (s t : State) (q : Query) (r : Ring) : Prop :=
  let k := q.cmd
  let z := oZ k.arg
  let word := s.ringWord r k.cell
  let slot := (r.slotLoc k.cell (bits word 0 32)).key
  let none_ := count q.rows (fun x => !x.seen)
  RegistersKept s t ∧
    (∀ j x, q.rows[j]? = some x →
      memRead t.mem (slot + 128 * j * z) (128 * z) =
        ((rowOut k.arg x).1.zipIdx.map (fun e => e.1 * 2 ^ (8 * z * e.2))).sum % 256 ^ (128 * z) ∧
      memRead t.mem (slot + 8192 * z + 4 * j) 4 = (rowOut k.arg x).2 % 2 ^ 32) ∧
    memRead t.mem (r.ctlLoc k.cell).key 8 = (bits word 0 32 + 1) % ringWrap r.slots + bits word 32 32 * 2 ^ 32 ∧
    TokenSent t k (if none_ = 0 then 0 else 0x64) ((none_ * 2 ^ 40 + (q.full + q.part) % 2 ^ 20 * 2 ^ 20 + q.empty % 2 ^ 20) % 2 ^ 48)

/-- The token of a command is on its way with bytes for its cell's scratchpad (R307, R310, R485). -/
def OutSent (t : State) (k : Cmd) (val off n data : Nat) : Prop :=
  ∃ i, ({ n := i, cell := k.cell, f := .token { cmd := k, status := 0, val := val % 2 ^ 48, out := some (off, n, data) } } : Fly) ∈ t.fly

/-- A result may be written: its ring has room, in scratchpad, and nothing records it. -/
def Writable (s : State) (q : Query) (r : Ring) : Prop :=
  let k := q.cmd
  Memory.Wf s.mem ∧ k.ringD = some r ∧ Untraced s k.gid ∧ (s.cell (r.owner k.cell)).watch = [] ∧ q.rows.length ≤ 64 ∧
    (∃ f, cwFilled r.slots (s.ringWord r k.cell) = some f ∧ f < r.slots) ∧ 1 ≤ r.slots ∧
    r.ctl % 2 ^ 18 + 16 + bits (s.ringWord r k.cell) 0 32 % r.slots * r.slotSz + 8192 * oZ k.arg + 256 ≤ 0x3FFC0

end Sys2Proof.Spec

/-- R152, R295, R299 to R301, R304, R309 to R315 and R485: a command waits at its crucible for its cell's older ones on
the same sequence. ATMSK, ATCNT and ATSEQ complete with the first status that applies or with their effect: the
program in its slot, a counter, a sequence created with its handle, forked, committed, freed, trimmed or reported;
what is to stand in the cell's scratchpad goes with the token. An ATQ goes on to be accepted. An append that a check
refuses changes nothing; one that starts takes the headroom, and each row goes to its page at FILL, the exponent kept
while the row fits, else the least of R300, raised with the rows before it rounded anew; NOPAGE stops it where no page is
free, and a poisoned page that it would read. A page is spilled when few frames are free, the least recently used of those unpinned, and one that is wanted is filled into
a free frame, each counted for its ASID. A HEAD that the host has signalled is copied to every crucible. Completes: CRUCIBLE_COMMAND_ARRIVAL,
KV_SPILL, KV_FILL, HEAD_COPY.
Where the rules leave a point open the statement follows the model's choices of log 12, 19, 50, 51, 96. -/
def Obligations.CrucibleCommands : Prop :=
  (∀ (s : State) (i n c st : Nat) (k : Cmd),
    let arrive := exec (.crucibleCommandArrival i) s
    let a := s.cmdAsid k
    let cb := k.crucible
    let x := s.cruc cb
    let d := k.arg
    let Ends := fun (st val : Nat) (P : State → Prop) => ∃ t, arrive = .next t ∧ TokenSent t k st (val % 2 ^ 48) ∧ RegistersKept s t ∧ P t
    let same := fun (t : State) => t.crucs = s.crucs ∧ MemKept s t
    s.flight i = some { n := n, cell := c, f := .cruc k } →
    (s.crucBlocked n k = true → arrive = .next s) ∧
    (s.crucBlocked n k = false →
      (k.op = .atq → ∃ t, arrive = .next t ∧ ({ t with fly := s.fly } : State) = s ∧
        t.fly = s.fly.eraseIdx i ++ [{ n := n, cell := c, f := .accept k }]) ∧
      (k.op = .atmsk →
        let m := fld d 51 46
        let off := fld d 17 0
        let words := (List.range m).map (fun j => BitVec.ofNat 32 (memRead s.mem (padKey k.cell (off + 4 * j)) 4))
        Decides [(fld d 45 18 ≠ 0 ∨ m = 0 ∨ off % 4 ≠ 0, 0x60), (2 ^ 18 < off + 4 * m, 0x6C), (s.bad (padKey k.cell off) (4 * m) = true, 0x6F),
          (∃ p, look x.slots (fld d 61 52) = some p ∧ p.1 ≠ a, 0x75), (32 < m, 0x70), (∃ j, maskCheck words = some (.op, j), 0x71),
          (∃ j, maskCheck words = some (.reg, j), 0x72), (∃ j, maskCheck words = some (.unset, j), 0x73),
          (∃ j, maskCheck words = some (.novis, j), 0x74)] st →
        (st ∈ [0x60, 0x6C, 0x6F, 0x75] → Ends st 0 same) ∧ (st = 0x70 → Ends st m same) ∧
        (∀ e, st ∈ [0x71, 0x72, 0x73, 0x74] → maskCheck words = some e → Ends st e.2 same) ∧
        (st = 0 → Ends 0 m (fun t => MemKept s t ∧ look (t.cruc cb).slots (fld d 61 52) = some (a, words) ∧
          ∀ j, j ≠ fld d 61 52 → look (t.cruc cb).slots j = look x.slots j))) ∧
      (k.op = .atcnt →
        (k.cnt < 8 → s.seq? a (fld d 31 0) = none → Ends 0x61 0 same) ∧
        (∀ q, k.cnt < 8 → s.seq? a (fld d 31 0) = some q → Ends 0 (lookD q.ctr k.cnt 0) same) ∧
        (8 ≤ k.cnt → Ends 0 (let e := lookD x.asids a {}
          if k.cnt < 16 then lookD e.ctr (k.cnt - 8) 0 else if k.cnt = 16 then e.spill else e.fill) same)) ∧
      (∀ op, k.op = .atseq op →
        let off := fld d 191 174
        let h := fld d 255 224
        let size := if op = 5 then 64 else if op = 0 then 4 else if op = 1 then 4 * fld d 159 156 else 0
        let fits := seqBad op d = false ∧ off % (if op = 5 then 64 else 4) = 0 ∧ off + size ≤ 2 ^ 18
        (seqBad op d = true → Ends 0x60 0 same) ∧
        (seqBad op d = false → off % (if op = 5 then 64 else 4) ≠ 0 ∨ 2 ^ 18 < off + size → Ends 0x6C 0 same) ∧
        (fits → op = 0 → x.pool.create seqMaps = none → Ends 0x6A 0 same) ∧
        (∀ e m pool, fits → op = 0 → look x.seqs e = none → e < seqEntries → (∀ j, j < e → (look x.seqs j).isSome = true) →
          x.pool.create seqMaps = some (m, pool) →
          let hd := x.gen e * 2 ^ 18 + cb * 2 ^ 16 + e
          Ends 0 hd (fun t => MemKept s t ∧ OutSent t k hd off 4 hd ∧ look (t.cruc cb).seqs e = some {
            asid := a, gid := k.gid, map := m, parent := none, children := [], nl := fld d 173 166 + 1, nkvh := fld d 165 162 + 1, len := 0,
            floor := 0, pers := bit d 161, stream := none, ctr := [] })) ∧
        (fits → op ≠ 0 → s.seq? a h = none → Ends 0x61 0 same) ∧
        (∀ q, fits → s.seq? a h = some q →
          let e := hEntry h
          (∀ st, op = 1 → x.fork k.gid e (fld d 159 156) = .error st → Ends st 0 same) ∧
          (∀ es y, op = 1 → x.fork k.gid e (fld d 159 156) = .ok (es, y) → es.length = fld d 159 156 → (∀ c ∈ es, y.handle cb c < 2 ^ 32) →
            Ends 0 (fld d 159 156) (fun t => t.cruc cb = y ∧ MemKept s t ∧ ∃ ids, OutSent t k (fld d 159 156) off size ids ∧
              ∀ j c, es[j]? = some c → ids / 2 ^ (32 * j) % 2 ^ 32 = y.handle cb c ∧ (look y.seqs c).map (·.gid) = some k.gid)) ∧
          (op = 2 → hCruc (fld d 223 192) ≠ cb ∨ s.seq? a (fld d 223 192) = none → Ends 0x6B 0 same) ∧
          (∀ y w, op = 2 → hCruc (fld d 223 192) = cb → (s.seq? a (fld d 223 192)).isSome = true →
            x.commit e (hEntry (fld d 223 192)) (bit d 160) = some y → look x.seqs (hEntry (fld d 223 192)) = some w →
            ∃ v, Ends 0 v (fun t => MemKept s t ∧ t.cruc cb = y ∧
              look y.seqs e = some { q with map := w.map, len := w.len, floor := w.floor, children := [] })) ∧
          (op = 3 → x.pool.frozen q.map = true → Ends 0x62 0 same) ∧
          (op = 3 → x.pool.frozen q.map = false → (x.pool.map? q.map).isSome = true → ∃ v, Ends 0 v (fun t => MemKept s t ∧
            look (t.cruc cb).seqs e = some { q with floor := max q.floor (fld d 223 192) })) ∧
          (op = 4 → Ends 0 (x.free e).2 (fun t => MemKept s t ∧ t.cruc cb = (x.free e).1)) ∧
          (op = 5 → Ends 0 0 (fun t => same t ∧ OutSent t k 0 off 64 (x.report cb e q))))) ∧
      (k.op = .atapp → k.started = false → Decides (appChecks s k) st →
        (st ≠ 0 → Ends st 0 same) ∧
        (st = 0 →
          let j := { k with started := true, cnt := 0, ea := 0, ta := (lookD x.asids a {}).head }
          ∃ t, arrive = .next t ∧ ({ t with fly := s.fly } : State) = s ∧
            t.fly = s.fly.set i { n := n, cell := k.cell, f := .cruc j })) ∧
      (k.op = .atapp → k.started = true → (s.appRow k = none → arrive = .next s) ∧
        (∀ t j, s.appRow k = some (t, none, j) → ∃ u, arrive = .next u ∧ ({ u with fly := t.fly } : State) = t ∧
          u.fly = t.fly.set i { n := n, cell := k.cell, f := .cruc j }) ∧
        ∀ t st j, s.appRow k = some (t, some st, j) → ((st = 0x63 ∧ s.appWrite [] k = none) ∨ (st = 0 ∧ k.cnt + 1 = appRows d ∧ j.cnt = appRows d) ∨
          (st = 0x6F ∧ ∃ w p, s.appWrite x.pins k = some w ∧ (if w.fresh then w.src else some w.page) = some p ∧
            ((x.page p).poison = true ∨ s.bad (kvKey cb p 0) 16384 = true))) ∧ ∃ u, arrive = .next u ∧ u.mem = t.mem ∧
          TokenSent u k st ((j.ea % 2 ^ 16 * 2 ^ 32 + j.cnt % 2 ^ 32) % 2 ^ 48)))) ∧
  (∀ (s : State) (cb p h : Nat) (kr vr : List Machine.Num) (doc at_ : Int),
    let g := (s.cruc cb).page p
    let t := (s.kvAppend cb p h kr vr doc at_).1
    let g' := (t.cruc cb).page p
    let keeps := fun (row : List Machine.Num) (e : Int) => g.fill ≠ 0 ∧ fits448 (amax row) e = true
    let Half := fun (isV : Bool) (row : List Machine.Num) (e e' : Int) =>
      (keeps row e → e' = e) ∧ (¬ keeps row e → e' = expFor (amax row) h) ∧
      (∀ j v, row[j]? = some v → memGet t.mem (kvHalf cb p isV + 128 * g.fill + j) = BitVec.ofNat 8 (kvStore v e')) ∧
      ∀ j, j < 128 * g.fill → memGet t.mem (kvHalf cb p isV + j) =
        if keeps row e then memGet s.mem (kvHalf cb p isV + j)
        else BitVec.ofNat 8 (kvStore ((decodeF fmtE4m3 (memGet s.mem (kvHalf cb p isV + j)).toNat).scale e) e')
    Memory.Wf s.mem → kr.length = 128 → vr.length = 128 → g.fill < 64 →
    g'.fill = g.fill + 1 ∧ look g'.tags g.fill = some (at_, doc) ∧ Half false kr g.kexp g'.kexp ∧ Half true vr g.vexp g'.vexp) ∧
  (∀ (a : Machine.Num) (h : Nat),
    let e := expFor a h
    e ≤ 127 ∧ (-128 : Int) ≤ e ∧ (∀ e' : Int, -128 ≤ e' → e' < e → fits448 a (e' - h) = false) ∧ (e < 127 → fits448 a (e - h) = true)) ∧
  ∀ (s : State) (cb page asid : Nat),
    let x := s.cruc cb
    let may := fun p => x.used p = true ∧ (x.page p).sram = true ∧ p ∉ x.pins
    let owner := (x.page page).asid
    let Moves := fun (o : Host.Outcome State Fault Refusal) (sram : Bool) (P : AsidEnt → AsidEnt → Prop) => ∃ t, o = .next t ∧
      MemKept s t ∧ RegistersKept s t ∧ t.fly = s.fly ∧ (t.cruc cb).page page = { x.page page with sram := sram } ∧
      (∀ p, p ≠ page → (t.cruc cb).page p = x.page p) ∧ P (lookD x.asids owner {}) (lookD (t.cruc cb).asids owner {})
    (256 ≤ x.freeFrames ∨ x.slotFree = false → exec (.kvSpill cb page) s = .next s) ∧
    (s.kvWanted cb page = false → exec (.kvFill cb page) s = .next s) ∧
    (∀ l r, x.freeFrames < 256 → x.slotFree = true → x.recent = l ++ page :: r → may page → (∀ p ∈ r, ¬ may p) →
      Moves (exec (.kvSpill cb page) s) false (fun e f => f = { e with spill := e.spill + 1 })) ∧
    (x.used page = true → (x.page page).sram = false → 0 < x.freeFrames → s.kvWanted cb page = true →
      Moves (exec (.kvFill cb page) s) true (fun e f => f = { e with fill := e.fill + 1 })) ∧
    (look s.plat.headDue asid = none → exec (.headCopy asid) s = .next s) ∧
    ∀ h, look s.plat.headDue asid = some h → ∃ t, exec (.headCopy asid) s = .next t ∧ MemKept s t ∧ RegistersKept s t ∧ t.fly = s.fly ∧
      look t.plat.headDue asid = none ∧ ∀ j, j < 4 → lookD (t.cruc j).asids asid {} = { lookD (s.cruc j).asids asid {} with head := h } ∧
      ∀ b, b ≠ asid → look (t.cruc j).asids b = look (s.cruc j).asids b

/-- R302 to R307, R321 to R324, R327 and R328: a query is accepted after its cell's older commands, with the pages, the
program and the rows as they are then, or completes with the first status that applies; MASK.ILL is raised where its
mask slot is not its own. A page whose header is poisoned ends it. An empty tile is skipped; another waits for its page, and its visible slots meet every row.
A query with no tile left writes its results when its ring has room, is held while its cell is not resident, and
writes nothing when it met poison, its token then with the tiles classed. Completes: ATQ_ACCEPT, ATQ_TILE_FETCH,
ATQ_RESULT, HELD_RESULT_WRITE.
Where the rules leave a point open the statement follows the model's choices of log 7, 51, 68, 96. -/
def Obligations.Queries : Prop :=
  (∀ (s : State) (i n c st : Nat) (k : Cmd) (q : Seq) (p : Nat × List (BitVec 32)),
    let accept := exec (.atqAccept i) s
    let d := k.arg
    let a := s.cmdAsid k
    let x := s.cruc k.crucible
    s.flight i = some { n := n, cell := c, f := .accept k } →
    (s.crucBlocked n k = true → accept = .next s) ∧
    (s.crucBlocked n k = false → Decides (queryChecks s k) st →
      (st ≠ 0 → ∃ t, accept = .next t ∧ t.crucs = s.crucs ∧ MemKept s t ∧ RegistersKept s t ∧ TokenSent t k st 0 ∧
        (st = 0x6D → s.live k.cell k.hi k.act = true → ∃ j, (t.bank k.cell k.hi).task = some j ∧ j.pendTrap.isSome = true)) ∧
      (st = 0 → s.seq? a (fld d 223 192) = some q → look x.slots (fld d 155 146) = some p → ∃ t w, accept = .next t ∧
        MemKept s t ∧ RegistersKept s t ∧ t.fly = s.fly.eraseIdx i ∧ (t.cruc k.crucible).queries = x.queries ++ [w] ∧ w.prog = p.2 ∧
        w.floor = q.floor ∧ w.seq = fld d 223 192 ∧ w.pinned = (x.pool.visible 4 q.map).map (·.2) ∧ w.full = 0 ∧ w.part = 0 ∧ w.empty = 0 ∧ w.poisoned = false ∧
        (∀ e, e ∈ w.pages ↔ e ∈ x.pool.visible 4 q.map ∧ kvIndex q (fld d 138 131) (fld d 130 127) 0 ≤ e.1 ∧
          e.1 < kvIndex q (fld d 138 131) (fld d 130 127) 0 + 16384) ∧
        w.rows.length = qRows d ∧ ∀ j r, w.rows[j]? = some r →
          r.pos = (BitVec.ofNat 32 (memRead s.mem (padKey k.cell (fld d 173 156 + 8 * j)) 4)).toInt ∧
          r.doc = (BitVec.ofNat 32 (memRead s.mem (padKey k.cell (fld d 173 156 + 8 * j) + 4) 4)).toInt ∧ r.seen = false ∧
          r.q = (List.range 128).map (fun m => memRead s.mem (padKey k.cell (fld d 191 174 + 128 * j * qZ d + m * qZ d)) (qZ d))))) ∧
  (∀ (s : State) (cb i idx page : Nat) (q : Query) (rest : List (Nat × Nat)),
    let fetch := exec (.atqTileFetch cb i) s
    let x := s.cruc cb
    let g := x.page page
    let base := 64 * (idx % 16384)
    let q1 := { q with pages := rest }
    let cls := (runMask q.prog (tileIn q g base)).res.getD .m
    let Goes := fun (w : Query) => ∃ t, fetch = .next t ∧ MemKept s t ∧ RegistersKept s t ∧ t.fly = s.fly ∧
      (t.cruc cb).queries = x.queries.set i w
    let met := fun (vis : QRow → List Nat) => q.rows.map (fun r => attendRow (if bit q.cmd.arg 126 then fmtE4m3 else fmtBf16)
      (fld q.cmd.arg 255 224) (s.kvRows cb page g.fill false g.kexp) (s.kvRows cb page g.fill true g.vexp) (vis r) r)
    x.queries[i]? = some q → q.pages = (idx, page) :: rest →
    (g.poison = true → Goes { q1 with pages := [], poisoned := true }) ∧
    (g.poison = false → g.fill = 0 ∨ base + g.fill - 1 < q.floor → Goes q1) ∧
    (g.poison = false → g.fill ≠ 0 → q.floor ≤ base + g.fill - 1 →
      (cls = .f → Goes { q1 with empty := q.empty + 1 }) ∧
      (cls ≠ .f → g.sram = false → fetch = .next s) ∧
      (cls ≠ .f → g.sram = true → s.bad (kvKey cb page 0) 16384 = true → Goes { q1 with
          pages := [], poisoned := true, full := q.full + (if cls = .t then 1 else 0), part := q.part + (if cls = .t then 0 else 1) }) ∧
      (g.sram = true → s.bad (kvKey cb page 0) 16384 = false →
        (cls = .t → Goes { q1 with rows := met (fun _ => List.range g.fill), full := q.full + 1 }) ∧
        (cls = .m → Goes { q1 with
          rows := met (fun r => (List.range g.fill).filter (fun j => (runMask q.prog (elemIn q g base r j)).res == some .t)), part := q.part + 1 })))) ∧
  ∀ (s : State) (cb i : Nat) (q : Query),
    let x := s.cruc cb
    let k := q.cmd
    let away := ∃ r, k.ringD = some r ∧ (s.cell (r.owner k.cell)).grid ≠ some k.gid
    (x.queries[i]? = some q →
      let result := exec (.atqResult cb i) s
      (q.pages ≠ [] → result = .next s) ∧
      (q.pages = [] → q.poisoned = true → ∃ t v, result = .next t ∧ MemKept s t ∧ RegistersKept s t ∧ TokenSent t k 0x6F v ∧
        v % 2 ^ 40 = (q.full + q.part) % 2 ^ 20 * 2 ^ 20 + q.empty % 2 ^ 20 ∧ (t.cruc cb).queries = x.queries.eraseIdx i) ∧
      (q.pages = [] → q.poisoned = false → away → ∃ t, result = .next t ∧ MemKept s t ∧ RegistersKept s t ∧ t.fly = s.fly ∧
        (t.cruc cb).queries = x.queries.eraseIdx i ∧ (t.cruc cb).held = x.held ++ [q]) ∧
      (q.pages = [] → q.poisoned = false → ¬ away → ∀ r, k.ringD = some r →
        (cwFilled r.slots (s.ringWord r k.cell) = some r.slots → result = .next s) ∧
        (cwFilled r.slots (s.ringWord r k.cell) = none → ∃ t, result = .next t ∧ MemKept s t ∧ RegistersKept s t ∧
          TokenSent t k 0x65 ((count q.rows (fun x => !x.seen) * 2 ^ 40 + (q.full + q.part) % 2 ^ 20 * 2 ^ 20 + q.empty % 2 ^ 20) % 2 ^ 48) ∧
          (t.cruc cb).queries = x.queries.eraseIdx i) ∧
        (Writable s q r → ∃ t, result = .next t ∧ ResultWritten s t q r ∧ (t.cruc cb).queries = x.queries.eraseIdx i))) ∧
    (x.held[i]? = some q →
      let write := exec (.heldResultWrite cb i) s
      (away → write = .next s) ∧
      (¬ away → ∀ r, k.ringD = some r → Writable s q r → ∃ t, write = .next t ∧ ResultWritten s t q r ∧ (t.cruc cb).held = x.held.eraseIdx i))

/-! ## Generation and collectives (14) -/

namespace Sys2Proof.Spec

/-- `w` is the first `n` of some candidates in the order of R333. -/
def FirstOf (n : Nat) (l w : List (Nat × Nat)) : Prop :=
  w.length = min n l.length ∧ w.Pairwise (fun p q => candBefore q p = false) ∧
    ∃ rest, (w ++ rest).Perm l ∧ ∀ p ∈ w, ∀ q ∈ rest, candBefore q p = false

/-- A pair as R335 writes it, or the pair that stands for none. -/
def pairAt (w : List (Nat × Nat)) (j : Nat) : Nat :=
  match w[j]? with
  | some p => p.1 % 2 ^ 32 + p.2 % 2 ^ 32 * 2 ^ 32
  | none => 0xFF800000 + 0xFFFFFFFF * 2 ^ 32

/-- The head of a cell's generation queue has left it and its token is on the way. -/
def GenEnds (s t : State) (c : Nat) (k : Cmd) (rest : List Cmd) (st val : Nat) : Prop :=
  RegistersKept s t ∧ (t.cell c).gen = rest ∧ TokenSent t k st (val % 2 ^ 48)

/-- The hash of R334, over 64-bit words. -/
def noiseHash (seed seqid pos idx : BitVec 64) : BitVec 64 :=
  let x0 := seed ^^^ seqid * 0x9E3779B97F4A7C15#64 ^^^ pos * 0xC2B2AE3D27D4EB4F#64 ^^^ idx * 0x165667B19E3779F9#64
  let x1 := (x0 ^^^ x0 >>> 33) * 0xFF51AFD7ED558CCD#64
  let x2 := (x1 ^^^ x1 >>> 33) * 0xC4CEB9FE1A85EC53#64
  x2 ^^^ x2 >>> 33

/-- The legal elements of a shard with their indices (R333). -/
def legalOf (m : List Host.Cell) (k : Cmd) (vals : List Nat) : List (Nat × Nat) :=
  let d := k.arg
  let value := fun j => if tFmt k.ea = 8 then vals.getD j 0 else vals.getD j 0 * 2 ^ 16
  let allowed := fun j => !bit d 104 || bits (memGet m (padKey k.cell (fld d 159 142 + j / 8))).toNat (j % 8) 1 == 1
  ((List.range vals.length).filter (fun j => !(decodeF fmt32 (value j)).isNan && allowed j)).map (fun j => (value j, fld d 319 288 + j))

/-- The set S of R335 among tempered legal elements. -/
def MassSet (d : Nat) (ys l : List (Nat × Nat)) : Prop :=
  let cut := fld d 255 224
  (cut = 0xFF800000 → l = ys) ∧
    (cut ≠ 0xFF800000 → ∃ w, FirstOf (fld d 114 108 + 1) ys w ∧ l = ys.filter (fun p => w.contains p && f32ge p.1 cut))

/-- The mass of elements in the order given, with the weights of R333. -/
def massOf (d : Nat) (l : List (Nat × Nat)) : Nat :=
  l.foldl (fun acc p => f32op .add acc (expTab (f32op .sub p.1 (fld d 287 256)))) 0

/-- The element of S at which the walk of PICK stops (R335). -/
def Walked (d r : Nat) (l : List (Nat × Nat)) (p : Nat × Nat) : Prop :=
  ∃ n, l[n]? = some p ∧ (∀ m, m < n → f32gt (massOf d (l.take (m + 1))) r = false) ∧
    (f32gt (massOf d (l.take (n + 1))) r = true ∨ n + 1 = l.length)

/-- The number that PICK draws (R335). -/
def drawn (d : Nat) : Nat :=
  let total := fld d 191 160
  let u := noiseHash (BitVec.ofNat 64 (fld d 447 384)) (BitVec.ofNat 64 (fld d 383 352)) (BitVec.ofNat 64 (fld d 351 320)) 0xFFFFFFFF#64
  let r := f32op .mul (rne fmt32 (.fin false (2 * (u >>> 40).toNat + 1) (-25) false)) total
  if f32ge r total then total - 1 else r

/-- Engine writes of a command are plain: memory is canonical, nothing records them and no barrier of its cell is
watched. -/
def PlainWrites (s : State) (k : Cmd) : Prop :=
  Memory.Wf s.mem ∧ Untraced s k.gid ∧ (s.cell k.cell).watch = []

end Sys2Proof.Spec

/-- R330 to R337, R343 and R479: the head of a generation queue waits for its issue release and for the token of the
command before it, then runs and completes; a command that fails writes nothing. A SMPL takes the legal elements of its
shard, those a grammar bitmap allows among them, and writes by its mode: the largest (greedy, or with the noise of
R334), the candidates, the mass of a set, or the element picked in it; with none legal, the status NOLEGAL. A TOPK
refuses a bad block, stops at poison, and else writes the first K of the valid pairs in candidate order, its token
holding the cut and the number of pairs at or above it. Completes: GEN_COMMAND_START.
Where the rules leave a point open the statement follows the model's choices of log 7, 52, 53. -/
def Obligations.Generation : Prop :=
  (∀ seed seqid pos idx : BitVec 64, BitVec.ofNat 64 (genHash seed.toNat seqid.toNat pos.toNat idx.toNat) = noiseHash seed seqid pos idx) ∧
  ∀ (s : State) (c : Nat) (k : Cmd) (rest : List Cmd),
    let start := exec (.genCommandStart c) s
    let d := k.arg
    (s.cell c).gen = k :: rest → k.cell = c →
    (s.released k = false ∨ s.genEnding c = true → start = .next s) ∧
    (s.released k = true → s.genEnding c = false →
      (∀ t, s.runGen k = .error (.wait t) → start = .next t) ∧
      (∀ st a u, s.runGen k = .error (.fail st a u) → u.cells = s.cells → u.gt = s.gt → ∃ t v, start = .next t ∧ t.mem = u.mem ∧ GenEnds s t c k rest st v) ∧
      (∀ r u, s.runGen k = .ok (r, u) → u.cells = s.cells → u.gt = s.gt → r.outs = [] → ∃ t v, start = .next t ∧ t.mem = u.mem ∧ GenEnds s t c k rest r.status v) ∧
      (∀ r u off n data v, s.runGen k = .ok (r, u) → u.cells = s.cells → u.gt = s.gt → r.outs = [(off, n, data)] → r.val = some v → PlainWrites u k → off + n ≤ 0x3FFC0 →
        ∃ t, start = .next t ∧ BytesSet u t (padKey c off) n data ∧ GenEnds s t c k rest r.status v) ∧
      (k.op = .topk →
        let src := padKey c (fld d 415 398)
        let n := fld d 379 367
        let pairs := (List.range n).map (fun j => memRead s.mem (src + 8 * j) 8)
        let valid := (pairs.filter (fun x => bits x 32 32 != 0xFFFFFFFF && !(decodeF fmt32 (bits x 0 32)).isNan)).map (fun x => (bits x 0 32, bits x 32 32))
        let low := fun (w : List (Nat × Nat)) => (w.getLast?.map (·.1)).getD 0xFF800000
        let target := f32op .mul (fld d 511 480) (fld d 447 416)
        let reached := fun (w : List (Nat × Nat)) (m : Nat) =>
          f32ge ((w.take (m + 1)).foldl (fun acc p => f32op .add acc (expTab (f32op .sub p.1 (fld d 479 448)))) 0) target
        let cuts := f32gt (fld d 447 416) 0 && f32gt 0x3F800000 (fld d 511 480)
        (tkBad d = true → ∃ t v, start = .next t ∧ MemKept s t ∧ GenEnds s t c k rest 0x90 v) ∧
        (tkBad d = false → s.bad src (8 * n) = true → ∃ t v, start = .next t ∧ MemKept s t ∧ GenEnds s t c k rest 0x30 v) ∧
        (tkBad d = false → s.bad src (8 * n) = false → PlainWrites s k → fld d 397 380 + 8 * tkOut d ≤ 0x3FFC0 → ∃ t w cut, start = .next t ∧
          GenEnds s t c k rest 0 ((w.filter (fun p => f32ge p.1 cut)).length * 2 ^ 32 + cut) ∧ FirstOf (tkOut d) valid w ∧
          (cuts = false → cut = low w) ∧
          (cuts = true → (∀ m p, w[m]? = some p → reached w m = true → (∀ j, j < m → reached w j = false) → cut = p.1) ∧
            ((∀ m, m < w.length → reached w m = false) → cut = low w)) ∧
          ∀ j, j < tkOut d → memRead t.mem (padKey c (fld d 397 380 + 8 * j)) 8 = pairAt w j)) ∧
      (k.op = .smpl →
        (∀ st, smStatus k = st → st ≠ 0 → ∃ t v, start = .next t ∧ MemKept s t ∧ GenEnds s t c k rest st v) ∧
        ∀ vals, smStatus k = 0 → s.shard k (tSpace k.ea) (smZ k.ea) (tDim k.ea 0) (tAddr k.ea 0 0 0 0) = .ok vals →
          let sick := bit d 104 && s.bad (padKey c (fld d 159 142)) ((vals.length + 7) / 8)
          let out := padKey c (fld d 141 124)
          let mode := fld d 107 105
          let legal := legalOf s.mem k vals
          let ys := legal.map (fun p => (f32op .div p.1 (fld d 511 480), p.2))
          let One := fun (w : List (Nat × Nat)) => ∃ t, start = .next t ∧ BytesSet s t out 8 (pairAt w 0) ∧
            GenEnds s t c k rest 0 ((w[0]?.map (·.2)).getD 0xFFFFFFFF)
          (sick = true → ∃ t v, start = .next t ∧ MemKept s t ∧ GenEnds s t c k rest 0x30 v) ∧
          (sick = false → PlainWrites s k → fld d 141 124 + smOut d ≤ 0x3FFC0 → fld d 319 288 + vals.length < 2 ^ 32 →
            (mode ≤ 2 → legal = [] → ∃ t, start = .next t ∧ GenEnds s t c k rest 0x91 0xFFFFFFFF ∧
              ∀ j, 8 * j < smOut d → memRead t.mem (padKey c (fld d 141 124 + 8 * j)) 8 = pairAt [] 0) ∧
            (mode = 0 → legal ≠ [] → ∃ w, FirstOf 1 legal w ∧ One w) ∧
            (mode = 1 → legal ≠ [] → ∃ pool, (if fld d 123 115 = 0 then pool = ys else FirstOf (fld d 123 115) ys pool) ∧
              let keys := pool.map (fun p => (f32op .add p.1 (genNoise (smHash d p.2)), p.2))
              ((∀ p ∈ keys, (decodeF fmt32 p.1).isNan = false) → ∃ w, FirstOf 1 keys w ∧ One w)) ∧
            (mode = 2 → legal ≠ [] → ∃ t w, start = .next t ∧ FirstOf (fld d 114 108 + 1) ys w ∧ GenEnds s t c k rest 0 w.length ∧
              ∀ j, j < fld d 114 108 + 1 → memRead t.mem (padKey c (fld d 141 124 + 8 * j)) 8 = pairAt w j) ∧
            (mode = 3 → ∃ t l, start = .next t ∧ MassSet d ys l ∧ BytesSet s t out 8 (massOf d l) ∧ GenEnds s t c k rest 0 (massOf d l)) ∧
            (mode = 4 → ∃ l, MassSet d ys l ∧
              let low := fld d 223 192
              let inside := f32ge (drawn d) low && f32gt (f32op .add low (massOf d l)) (drawn d)
              (l = [] ∨ inside = false → One []) ∧
              (l ≠ [] → inside = true → ∃ p, Walked d (f32op .sub (drawn d) low) l p ∧ One [p])))))

namespace Sys2Proof.Spec

/-- A grammar command has failed: memory is unchanged, and its token is on the way. -/
def GramFails (s : State) (c : Nat) (k : Cmd) (rest : List Cmd) (st : Nat) : Prop :=
  ∃ t v, exec (.genCommandStart c) s = .next t ∧ MemKept s t ∧ GenEnds s t c k rest st v

/-- The stack block of a step of a grammar: its state and depth, with a symbol pushed where there is one; no other byte
has changed (R341, R342). -/
def Stepped (u t : State) (so nextState depth : Nat) (sym : Option (Nat × Nat)) : Prop :=
  memRead t.mem so 4 = nextState ∧ memRead t.mem (so + 4) 2 = depth ∧ (∀ p, sym = some p → memRead t.mem (so + 8 + 2 * p.1) 2 = p.2) ∧
    ∀ b, (b < so ∨ so + 6 ≤ b) → (∀ p, sym = some p → b < so + 8 + 2 * p.1 ∨ so + 10 + 2 * p.1 ≤ b) → memGet t.mem b = memGet u.mem b

end Sys2Proof.Spec

/-- R340 to R343: a grammar command refuses a bad block and a block that leaves the scratchpad, stops at a poisoned stack,
and fails where the state, the depth or the top does not fit the grammar. GMASK then writes the bits of its slice of
the mask row, those at or above the vocabulary's size zero; GSTEP follows the transition of its token, pushing or
popping a symbol, and fails, the stack block unchanged, where there is none, or at a bad symbol, a full or an empty
stack. Completes: GEN_COMMAND_START.
Where the rules leave a point open the statement follows the model's choices of log 7, 52. -/
def Obligations.Grammars : Prop :=
  ∀ (s : State) (c : Nat) (k : Cmd) (rest : List Cmd),
    let start := exec (.genCommandStart c) s
    let d := k.arg
    let mask := k.op == .gmask
    let so := fld d 447 430
    let word := memRead s.mem (padKey c so) 8
    let state := bits word 0 32
    let depth := bits word 32 16
    let slot := padKey c (so + 6 + 2 * depth)
    let top := if depth = 0 then 0 else memRead s.mem slot 2
    let fits := so + 520 ≤ 2 ^ 18 ∧ (mask = true → fld d 429 412 + fld d 379 362 / 8 ≤ 2 ^ 18)
    let sick := s.bad (padKey c so) 8 = true ∨ (depth ≠ 0 ∧ depth ≤ 256 ∧ s.bad slot 2 = true)
    (s.cell c).gen = k :: rest → k.cell = c → k.op = .gmask ∨ k.op = .gstep → s.released k = true → s.genEnding c = false →
    (gmBad d mask = true → GramFails s c k rest 0x90) ∧
    (gmBad d mask = false → ¬ fits → GramFails s c k rest 0x94) ∧
    (gmBad d mask = false → fits → sick → GramFails s c k rest 0x30) ∧
    (gmBad d mask = false → fits → ¬ sick → ∀ h, s.gmRead k (fld d 511 448) 64 = .ok h →
      let nsym := fld h 239 224
      let misfit := fld h 223 192 ≤ state ∨ 256 < depth ∨ nsym ≤ top
      (misfit → GramFails s c k rest 0x95) ∧
      (¬ misfit → mask = true → ∀ x,
        let size := fld h 287 256
        let lo := fld d 411 380
        let nv := fld d 379 362
        let past := min (lo + nv) size
        let row := fld h 191 128 + (state * nsym + top) * ((size + 511) / 512 * 64)
        (if past ≤ lo then x = 0 else s.gmRead k (row + lo / 8) ((past + 7) / 8 - lo / 8) = .ok x) →
        PlainWrites s k → fld d 429 412 + nv / 8 ≤ 0x3FFC0 → ∃ t w, start = .next t ∧ GenEnds s t c k rest 0 w ∧
          (∀ j, j < nv → bits (memGet t.mem (padKey c (fld d 429 412 + j / 8))).toNat (j % 8) 1 = if lo + j < size then bits x (lo % 8 + j) 1 else 0) ∧
          ∀ b, (b < padKey c (fld d 429 412) ∨ padKey c (fld d 429 412) + nv / 8 ≤ b) → memGet t.mem b = memGet s.mem b) ∧
      (¬ misfit → mask = false → ∀ y e, s.gmRead k (fld h 63 0 + 8 * state) 8 = .ok y →
        s.gmSearch k (fld h 127 64) (bits y 32 32) (fld d 361 330) 34 0 (bits y 0 32) = .ok e →
        (e = none → GramFails s c k rest 0x98) ∧
        (∀ x, e = some x →
          let act := bits x 10 2
          let sym := bits x 0 10
          let out := bits x 12 20
          let Goes := fun (dep : Nat) (more : Option (Nat × Nat)) => PlainWrites s k → so + 520 ≤ 0x3FFC0 → ∃ t, start = .next t ∧
            GenEnds s t c k rest 0 (act * 2 ^ 32 + out) ∧ Stepped s t (padKey c so) out dep more
          bits x 32 32 = fld d 361 330 ∧
          (act = 1 → sym = 0 ∨ nsym ≤ sym → GramFails s c k rest 0x95) ∧
          (act = 1 → sym ≠ 0 → sym < nsym → depth = 256 → GramFails s c k rest 0x96) ∧
          (act = 1 → sym ≠ 0 → sym < nsym → depth ≠ 256 → Goes (depth + 1) (some (depth, sym))) ∧
          (act = 2 → depth = 0 → GramFails s c k rest 0x97) ∧
          (act = 2 → depth ≠ 0 → Goes (depth - 1) none) ∧
          (act = 0 ∨ act = 3 → Goes depth none))))

namespace Sys2Proof.Spec

/-- Every member of a collective has its token on the way with a status, and its command has left its queue. -/
def CollEnds (t : State) (l : List (Nat × Cmd)) (st : Nat) : Prop :=
  ∀ j ∈ l, TokenSent t j.2 st 0 ∧ (∀ q ∈ (t.cell j.2.cell).queue j.2.op.queue, q.id ≠ j.2.id)

/-- MISMATCH has been raised: the members that joined complete with it, and their live tasks meet the trap at their next
boundary; each member that a collective still awaited is owed a failure (R345). -/
def Mismatched (s t : State) (x : Coll) : Prop :=
  MemKept s t ∧ RegistersKept s t ∧ CollEnds t x.joined 0x81 ∧
    (∀ j ∈ x.joined, s.live j.2.cell j.2.hi j.2.act = true → ∃ q, (t.bank j.2.cell j.2.hi).task = some q ∧ q.pendTrap.isSome = true) ∧
    (x.cells.Nodup → ∀ c, (t.cell c).missed = (s.cell c).missed + if x.awaits ((x.joined.head?.map (·.2.gid)).getD 0) c then 1 else 0)

/-- The operation that OP names (R346). -/
def redOf (op : Nat) : RedOp := if op = 0 then .add else if op = 1 then .max else .min

/-- Whether a pair of R348 beats another. -/
def Beats (a b : Nat) : Prop :=
  let x := decodeF fmt32 (bits a 0 32)
  let y := decodeF fmt32 (bits b 0 32)
  (x.isNan = false ∧ y.isNan = true) ∨ fCond .gt x y = true ∨
    ((fCond .eq x y = true ∨ (x.isNan = true ∧ y.isNan = true)) ∧ bits a 32 32 < bits b 32 32)

/-- A pair as R348 writes it. -/
def pairOut (a : Nat) : Nat := if (decodeF fmt32 (bits a 0 32)).isNan then bits a 32 32 * 2 ^ 32 + 0x7FC00000 else a

/-- `e` is the value of a prefix of a scan: for an integer type the reduction, for a float type the running value (R255,
R257, R347). -/
def Scanned (ty : Ty) (op : Nat) (l : List Nat) (e : Nat) : Prop :=
  if Ty.isF6 ty then e = canonSat ty false ((running (redStep (redOf op) ty .rne) l).getD (redNone (redOf op) ty))
  else ∃ r : BitVec (Ty.width ty), Reduces (redOf op) (l.map (BitVec.ofNat _)) r ∧ e = r.toNat

/-- `e` is the reduction of the members' elements in the order of their ranks: for a float type by the pairwise tree
(R255, R256, R347). -/
def Reduced (ty : Ty) (op : Nat) (l : List Nat) (e : Nat) : Prop :=
  if Ty.isF6 ty then e = canonSat ty false ((treeAt (redStep (redOf op) ty .rne) (fun i => l[i]?) 13 0).getD 0)
  else ∃ r : BitVec (Ty.width ty), Reduces (redOf op) (l.map (BitVec.ofNat _)) r ∧ e = r.toNat

end Sys2Proof.Spec

/-- R345 to R348: the head of a collective queue completes with DESC or GRID without joining, its member noted in the
collective that awaits it, or until one is opened, or joins the collective of its grid that awaits its cell, or opens one, with the outcome of its guard; one that comes more than 65,536 cycles
after the first, or to a collective that has failed without it, meets the mismatch. The last member makes the
collective run, discards it where the guards are false, or finds the mismatch, as does the timeout. A collective that
runs waits for its members' releases, and for its flits where it crosses dies; then each member's results are written, with its token: the reduction, the scan
of its rank, the root's elements or every rank's; where an input that they use is poisoned nothing is written. Completes:
COLLECTIVE_JOIN, COLLECTIVE_TIMEOUT, COLLECTIVE_RESULT.
Where the rules leave a point open the statement follows the model's choices of log 7, 54, 55, 68, 89, 92. -/
def Obligations.Collectives : Prop :=
  (∀ (s : State) (c i : Nat) (k : Cmd) (rest : List Cmd) (v : Bool) (old : Coll),
    let join := exec (.collectiveJoin c) s
    let k1 := { k with started := v }
    let x := { old with joined := old.joined ++ [(c, k1)] }
    let first := (x.joined.head?.map (·.2.arg)).getD 0
    let members := 2 ^ fld first 49 47 * 2 ^ fld first 46 44
    let missed := (s.cell c).missed
    let passed := (s.cell c).passed
    let late := (coCells k.arg).filter (fun m => decide (passed < (s.cell m).passed ∧ (s.cell m).grid = some k.gid))
    let noted := if i < s.colls.length then [] else late
    let fresh := i = s.colls.length ∧ (∀ t ∈ s.colls, t.awaits k.gid c = false) ∧
      old = { joined := [], since := s.gt.toNat, past := late, base := passed }
    let Joins := fun (t : State) => ({ t with colls := s.colls, cells := s.cells } : State) = s ∧
      ∀ m, t.cell m = if m ∈ noted then { s.cell m with passed := (s.cell m).passed - 1 } else s.cell m
    let instead := fun (t : Coll) => t.awaits k.gid c = true ∧ t.base ≤ passed
    let found := s.colls[i]? = some old ∧ old.awaits k.gid c = true ∧ ∀ t ∈ s.colls.take i, t.awaits k.gid c = false
    let placed := fun (x : Coll) => if i < s.colls.length then s.colls.set i x else s.colls ++ [x]
    let Popped := fun (t : State) (st : Nat) => MemKept s t ∧ RegistersKept s t ∧ (t.cell c).coll = rest ∧ TokenSent t k st 0
    let joined := ∃ t ∈ s.colls, ∃ j ∈ t.joined, j.2.id = k.id
    (s.cell c).coll = k :: rest → k.cell = c →
    (joined → join = .next s) ∧
    (¬ joined →
      (∀ st, (coBad k = true ∧ st = 0x80) ∨ (coBad k = false ∧ coOut (s.lr k.gid) k = true ∧ st = 0x82) → ∃ t, join = .next t ∧ Popped t st ∧
        (0 < missed → (t.cell c).missed = missed - 1 ∧ t.colls = s.colls) ∧
        (missed = 0 → (t.cell c).missed = 0 ∧ ((∀ y ∈ s.colls, ¬ instead y) → t.colls = s.colls ∧ (t.cell c).passed = passed + 1) ∧
          (s.colls[i]? = some old → instead old → (∀ y ∈ s.colls.take i, ¬ instead y) →
            t.colls = s.colls.set i { old with past := old.past ++ [c] } ∧ (t.cell c).passed = passed))) ∧
      (coBad k = false → coOut (s.lr k.gid) k = false →
        (s.verdict k = none → join = .next s) ∧
        (s.verdict k = some v → 0 < missed → ∃ t, join = .next t ∧ Popped t 0x81 ∧ (t.cell c).missed = missed - 1 ∧ t.colls = s.colls ∧
          (s.live c k.hi k.act = true → ∃ q, (t.bank c k.hi).task = some q ∧ q.pendTrap.isSome = true)) ∧
        (s.verdict k = some v → missed = 0 → fresh ∨ found →
          let agree := ∀ j ∈ x.joined, coKey j.2 = coKey k1
          (old.since + 65536 < s.gt.toNat → ∃ t, join = .next t ∧ Mismatched s t x ∧ t.colls = (placed x).eraseIdx i) ∧
          (s.gt.toNat ≤ old.since + 65536 →
            (x.joined.length ≠ members → ∃ t, join = .next t ∧ Joins t ∧ t.colls = placed x) ∧
            (x.joined.length = members → agree →
              (v = true → ∃ t l, join = .next t ∧ Joins t ∧ t.colls = placed { x with complete := true, owes := l } ∧
                ((∀ j ∈ x.joined, dieOf j.2.cell = dieOf c) → l = [])) ∧
              (v = false → ∃ t, join = .next t ∧ MemKept s t ∧ RegistersKept s t ∧ CollEnds t x.joined 3 ∧ t.colls = (placed x).eraseIdx i)) ∧
            (x.joined.length = members → ¬ agree → ∃ t, join = .next t ∧ Mismatched s t x ∧ t.colls = (placed x).eraseIdx i)))))) ∧
  ∀ (s : State) (i : Nat) (x : Coll) (f : Nat × Cmd) (r : List (Nat × Cmd)),
    let timeout := exec (.collectiveTimeout i) s
    let result := exec (.collectiveResult i) s
    let d := f.2.arg
    let z := coZ d
    let ready := x.complete = true ∧ ∀ j ∈ x.joined, s.released j.2 = true
    let cmds := (coCells d).filterMap (fun c => (x.joined.find? (fun j => j.1 == c)).map (·.2))
    let input := fun (k : Cmd) (j : Nat) => memRead s.mem (padKey k.cell (coSrc k.arg + j * z)) z
    let sick := ∃ k ∈ cmds, (k.op = .cbc → coRank k.arg k.cell = fld k.arg 75 63) ∧ s.bad (padKey k.cell (coSrc k.arg)) (coN d * z) = true
    let out := fun (k : Cmd) => coResult k (coRank d k.cell) (cmds.map (coElems s.mem))
    s.colls[i]? = some x → x.joined = f :: r →
    (x.complete = true ∨ s.gt.toNat ≤ x.since + 65536 → timeout = .next s) ∧
    (x.complete = false → x.since + 65536 < s.gt.toNat → ∃ t, timeout = .next t ∧ Mismatched s t x ∧ t.colls = s.colls.eraseIdx i) ∧
    (¬ ready → result = .next s) ∧
    (ready → ∀ h n rest, x.owes = (h, n) :: rest → ∃ t m, result = .next t ∧ MemKept s t ∧ RegistersKept s t ∧ t.fly = s.fly ∧ m ≤ n ∧
      t.colls = s.colls.set i { x with owes := if m = 0 then rest else (h, m) :: rest }) ∧
    (ready → x.owes = [] → sick → ∃ t st, result = .next t ∧ MemKept s t ∧ RegistersKept s t ∧ t.colls = s.colls.eraseIdx i ∧ ∀ k ∈ cmds, TokenSent t k st 0) ∧
    (ready → x.owes = [] → ¬ sick → Memory.Wf s.mem → (coCells d).Nodup → (∀ j ∈ x.joined, j.2.cell = j.1 ∧ coKey j.2 = coKey f.2) →
      (∀ k ∈ cmds, PlainWrites s k ∧ coDst k.arg + (out k).length * z ≤ 0x3FFC0) → ∃ t, result = .next t ∧ RegistersKept s t ∧
        t.colls = s.colls.eraseIdx i ∧
        (∀ k ∈ cmds, TokenSent t k 0 ((out k).length * z % 2 ^ 48) ∧ ∀ j e, (out k)[j]? = some e →
          memRead t.mem (padKey k.cell (coDst k.arg + j * z)) z = e % 2 ^ (8 * z)) ∧
        (∀ b, (∀ k ∈ cmds, b < padKey k.cell (coDst k.arg) ∨ padKey k.cell (coDst k.arg) + (out k).length * z ≤ b) → memGet t.mem b = memGet s.mem b) ∧
        ((∀ c ∈ coCells d, ∃ j ∈ x.joined, j.1 = c) → fld d 62 56 + coW d ≤ 128 → cmds.length ≤ 8192 → ∀ p k, cmds[p]? = some k →
          let got := fun (j : Nat) => memRead t.mem (padKey k.cell (coDst k.arg + j * z)) z
          let reduces := f.2.op = .cred ∨ f.2.op = .cscan
          (reduces → ∀ ty, Ty.ofNat? (coTy d) = some ty → coTy d ∈ [0, 1, 2, 13, 7, 8] → coOp d ≤ 2 → ∀ j, j < coN d →
            (f.2.op = .cred → Reduced ty (coOp d) (cmds.map (fun q => input q j)) (got j)) ∧
            (f.2.op = .cscan → Scanned ty (coOp d) ((cmds.take (if bit d 36 then p else p + 1)).map (fun q => input q j)) (got j)) ∧
            (f.2.op = .cscan → bit d 35 = true → Scanned ty (coOp d) (cmds.map (fun q => input q j)) (got (coN d + j)))) ∧
          (f.2.op = .cred → coOp d = 3 → ∀ j, j < coN d → ∃ q ∈ cmds, got j = pairOut (input q j) ∧ ∀ o ∈ cmds, ¬ Beats (input o j) (input q j)) ∧
          (f.2.op = .cbc → ∀ root, cmds[fld d 75 63]? = some root → ∀ j, j < coN d → got j = input root j) ∧
          (f.2.op = .cgath → bit d 34 = true ∨ p = fld d 75 63 → ∀ o q j, cmds[o]? = some q → j < coN d → got (o * coN d + j) = input q j) ∧
          (f.2.op = .cgath → bit d 34 = false → p ≠ fld d 75 63 → out k = [])))

/-! ## Launches and the end of a grid (16, 18) -/

namespace Sys2Proof.Spec

/-- The fields of a completion record (R370). -/
def RecordOf (r gt lr gtStart tasks abandon : Nat) (e : EndInfo) : Prop :=
  fld r 511 448 = gt ∧ fld r 447 384 = gtStart % 2 ^ 64 ∧ fld r 383 320 = tasks % 2 ^ 64 ∧ fld r 319 288 = abandon % 2 ^ 32 ∧
    fld r 287 256 = 0 ∧ fld r 255 192 = e.fpc % 2 ^ 64 ∧ fld r 191 160 = fld lr 127 96 ∧ fld r 159 144 = asidOf lr ∧ fld r 143 128 = 0 ∧
    fld r 127 96 = e.detail % 2 ^ 32 ∧ fld r 95 64 = e.fdetail % 2 ^ 32 ∧ fld r 63 48 = e.cause % 2 ^ 16 ∧ fld r 47 16 = 0 ∧
    fld r 15 0 = e.status % 2 ^ 16

/-- A grid's completion is told: its record stands at COMPL, and nothing else of memory has changed but what the walk
set; or the host has the interrupt where COMPL does not translate for a write (R370). -/
def Completed (s t : State) (lr gtStart tasks : Nat) (e : EndInfo) : Prop :=
  let va := fld lr 639 576
  let ab := if gangv lr then lookD s.plat.abandons (gangidOf lr) 0 else 0
  (∀ tr u, s.walk (dieOf (originOf lr)) noGrid (asidOf lr) va 1 = .ok (tr, u) → Memory.Wf u.mem → RecordOf (memRead t.mem (tr.pa va) 64) s.gt.toNat lr gtStart tasks ab e ∧
    (∀ b, (b < tr.pa va ∨ tr.pa va + 64 ≤ b) → memGet t.mem b = memGet u.mem b) ∧ t.plat.irqs = s.plat.irqs) ∧
  ∀ x, s.walk (dieOf (originOf lr)) noGrid (asidOf lr) va 1 = .error x → t.plat.irqs = s.plat.irqs ++ [.completion (fld lr 127 96) (asidOf lr) e.status]

/-- A launch queue has given up its head record. -/
def HeadTaken (s t : State) (q : Nat) : Prop :=
  (t.lq q).head = ((s.lq q).head + 1) % 2 ^ 32 ∧ (t.lq q).pending = none ∧ (t.lq q).tail = (s.lq q).tail ∧ ∀ p, p ≠ q → t.lq p = s.lq p

/-- The fields of a grid information block (R371). -/
def InfoOf (r lr gt c : Nat) : Prop :=
  fld r 511 448 = fld lr 319 256 ∧ fld r 447 384 = gt ∧ fld r 383 352 = fld lr 127 96 ∧ fld r 351 336 = asidOf lr ∧ fld r 335 323 = c ∧
    fld r 322 310 = (c / 128 - fld lr 236 231) * 2 ^ fld lr 239 237 + (c % 128 - fld lr 230 224) ∧ fld r 309 303 = fld lr 230 224 ∧
    fld r 302 297 = fld lr 236 231 ∧ fld r 296 294 = fld lr 239 237 ∧ fld r 293 291 = fld lr 242 240 ∧ fld r 290 288 = dieOf c ∧ fld r 287 0 = 0

/-- A grid is gone: its cells are free and idle, their counters standing, and its completion is told (R369, R370, R454). -/
def Closed (s t : State) (g : Nat) (x : Grid) (e : EndInfo) : Prop :=
  look t.grids g = none ∧ (∀ h, h ≠ g → look t.grids h = look s.grids h) ∧
    (∀ c ∈ s.cellsOf g, (t.cell c).grid = none ∧ (t.cell c).csr = (s.cell c).csr ∧ ∀ hi, (t.bank c hi).task = none) ∧
    (∀ c, c ∉ s.cellsOf g → ∀ hi, t.bank c hi = s.bank c hi) ∧ Completed s t x.lr x.gtStart x.tasks e

/-- The L1s of a grid's cells are empty, and the dirty bytes of each of their lines are on their way home (R93, R369). -/
def Flushed (s t : State) (g : Nat) : Prop :=
  ∀ c ∈ s.cellsOf g, ∀ h ∈ s.l1Cells c, (t.cell h).l1 = [] ∧ ∀ x ∈ (s.cell h).l1, x.dirty ≠ 0 →
    ∃ n a, ({ n := n, cell := h, f := .access a } : Fly) ∈ t.fly ∧ a.cell = h ∧ a.loc = .home x.pa ∧ a.n = 64 ∧ a.op = .store x.data x.dirty 2

/-- No stream and no sequence of a grid is left but the persistent ones (R19, R369). -/
def Freed (t : State) (g : Nat) : Prop :=
  (∀ d n e, d < 8 → n < 2 ^ 14 → look (t.die d).streams n = some e → e.gid = g → e.pers = true) ∧
    ∀ cb n q, look (t.cruc cb).seqs n = some q → q.gid = g → q.pers = true

/-- A grid has no stream of its own left to end, only persistent ones, and no lock entry holds or awaits anything of
it. -/
def NothingLeft (s : State) (g : Nat) (x : Grid) : Prop :=
  x.savedStreams = [] ∧ (∀ d, ∀ e ∈ (s.die d).streams, e.2.gid = g → e.2.pers = true) ∧
    ∀ p, ∀ e ∈ s.locksAt p, (∀ h, e.holder = some h → h.gid ≠ g) ∧ ∀ w ∈ e.waiters, w.gid ≠ g

end Sys2Proof.Spec

/-- R364 to R368, R371, R383, R384, R439 and R440: a tail written by the host lets the device read the records up to it. A
record is read once, from a ring and a place inside the map, and refused with the status of the first check that
fails, in the order of R366 (the record's own fields, its handler table, its gates and fuse map, its tensor-identifier
image, the budgets it reserves), its completion told; or kept. A kept launch is admitted when its cells are free: each
of its cells has a scratchpad of zeros with its information block, an idle bank, and the message that starts its task
of handler 0. A launch that records begins to fill its recording area with those messages; one that a recording was
given for replays it. Completes: QTAIL_WRITE, LAUNCH_RECORD_CHECK, GRID_ADMISSION.
Where the rules leave a point open the statement follows the model's choices of log 7, 14, 20, 27, 28, 30, 37, 73, 87,
94. -/
def Obligations.Launches : Prop :=
  (∀ (s : State) (q : Nat) (v : BitVec 32), ∃ t, exec (.qtailWrite q v) s = .next t ∧
    ({ t with plat := { t.plat with queues := s.plat.queues } } : State) = s ∧ t.lq (q % 64) = { s.lq (q % 64) with tail := v.toNat } ∧
    ∀ p, p ≠ q % 64 → t.lq p = s.lq p) ∧
  (∀ (s : State) (q : Nat),
    let check := exec (.launchRecordCheck q) s
    let x := s.lq q
    let at_ := x.base + 8 * (x.head % 2 ^ x.log)
    let pa := memRead s.mem at_ 8
    let lr := memRead s.mem pa 256
    let waits := 64 ≤ q ∨ x.head = x.tail ∨ x.pending.isSome = true ∨ s.plat.up = false ∨ s.plat.quench.isSome = true
    let first := [(s.plat.areasSet = false, 3), (asidOf lr = 0 ∨ bit (lookD s.ctx (asidOf lr) 0) 0 = false ∨ s.removing (asidOf lr) = true, 1),
      (rectOk lr = false, 2), (s.fieldOk lr = false, 3), (codeOk lr = false, 4)]
    let Refused := fun (st detail : Nat) => ∃ t g, check = .next t ∧ RegistersKept s t ∧ HeadTaken s t q ∧
      Completed s t lr g 0 { status := st, detail := detail }
    (waits → check = .next s) ∧
    (¬ waits → 2 ^ 41 < at_ + 8 ∨ 2 ^ 41 < pa + 256 → check = .fault .physicalHole) ∧
    (¬ waits → at_ + 8 ≤ 2 ^ 41 → pa + 256 ≤ 2 ^ 41 →
      (∀ st, Decides first st → st ≠ 0 → Refused st 0) ∧
      (∀ st detail, s.checkLaunch lr = .error (st, detail) → Refused st detail) ∧
      (Decides first 0 →
        let a := asidOf lr
        let d := dieOf (originOf lr)
        (∀ e, s.vget d noGrid a (fld lr 191 128) (8 * nhand lr) = .error e → Refused 5 0) ∧
        ∀ htab s1, s.vget d noGrid a (fld lr 191 128) (8 * nhand lr) = .ok (htab, s1) →
          let handler := fun n => bits htab (64 * n) 64
          let noHandler := handler 0 = 0 ∨ ((superOf lr).isSome = true ∧ (nhand lr < 2 ∨ handler 1 = 0))
          (noHandler → Refused 5 0) ∧
          (¬ noHandler → (∀ e, s1.vget d noGrid a (fld lr 703 640) (16 * ngateOf lr) = .error e → Refused 3 0) ∧
            ∀ gates s2, s1.vget d noGrid a (fld lr 703 640) (16 * ngateOf lr) = .ok (gates, s2) →
              let gate := fun n => bits gates (128 * n) 128
              let unfit := fun e => bit e 0 = true ∧ ¬ (gListBase e % 512 = 0 ∧ fld e 7 1 = 0 ∧ fld e 34 27 < nhand lr ∧ handler (fld e 34 27) ≠ 0 ∧
                subOk lr (fld e 19 14 * 128 + fld e 26 20) (fld e 13 11) (fld e 10 8) = true)
              let fused := if bit lr 421 = true ∨ fld lr 575 512 = 0 then 0 else 64
              ((∃ n, n < ngateOf lr ∧ unfit (gate n)) → Refused 3 0) ∧
              ((∀ n, n < ngateOf lr → ¬ unfit (gate n)) → (∀ e, s2.vget d noGrid a (fld lr 575 512) fused = .error e → Refused 3 0) ∧
                ∀ map s3, s2.vget d noGrid a (fld lr 575 512) fused = .ok (map, s3) →
                  (∀ n, s3.readTids d a (fld lr 383 320) (ntidOf lr) 0 = .error n → Refused 6 (2 ^ 31 + n)) ∧
                  ∀ rs s4, s3.readTids d a (fld lr 383 320) (ntidOf lr) 0 = .ok (rs, s4) →
                    let id := fun (r : Nat) => r % 2 ^ 64
                    let entry := fun (r : Nat) => r / 2 ^ 64 % 2 ^ 512
                    let wrong := fun (n r : Nat) => 4096 ≤ id r ∨ (∃ m q, m < n ∧ rs[m]? = some q ∧ id q = id r) ∨
                      (tValid (entry r) = true ∧ tidCheck lr (entry r) ≠ 0)
                    (∀ n r, rs[n]? = some r → wrong n r → (∀ m q, m < n → rs[m]? = some q → ¬ wrong m q) → Refused 6 (id r % 2 ^ 32)) ∧
                    ((∀ m q, rs[m]? = some q → ¬ wrong m q) → (∃ k ∈ [Slot.hbm, .hs, .flit, .cq, .tongs], k.cap < reserved lr k) →
                      Refused 7 0)))) ∧
      ∀ l u, s.checkLaunch lr = .ok (l, u) → check = .next (u.setLq q { u.lq q with pending := some l }))) ∧
  ∀ (s : State) (q : Nat) (l : Launch),
    let adm := exec (.gridAdmission q) s
    let lr := l.lr
    let free := ∀ c ∈ rectCells lr, (s.cell c).grid = none
    let area := recArea s.ctx (asidOf lr)
    let starts := if bit lr 418 then 1 else (rectCells lr).length
    (s.lq q).pending = some l →
    (s.admissible q l = false ∨ ¬ free → adm = .next s) ∧
    (s.admissible q l = true → free → rectOk lr = true → Memory.Wf s.mem →
      (∀ e ∈ l.tid, e.1 < 4096) →
      ∃ t g, adm = .next t ∧ HeadTaken s t q ∧ (t.lq q).last = some s.serial ∧ look t.grids s.serial = some g ∧ g.lr = lr ∧ g.queue = q ∧
        g.gtStart = s.gt.toNat ∧ g.tasks = 0 ∧ g.gates = l.gates ∧ g.resid = .running ∧ g.events = [] ∧
        g.replay.isSome = (look s.plat.replays (fld lr 127 96)).isSome ∧ (recording lr = false → g.recPos = 0) ∧
        (g.replay = none → recording lr = false ∨ (32 * starts ≤ area.2 ∧ area.1 + 32 * starts ≤ 2 ^ 41) → g.ending = none) ∧
        (recording lr = true → 32 * starts ≤ area.2 → area.1 + 32 * starts ≤ 2 ^ 41 → g.recPos = 32 * starts) ∧
        (∀ d ∈ diesOf lr, ∀ n e, n < 4096 → look l.tid n = some e → t.tidEnt s.serial d n = e) ∧
        look t.plat.headDue (asidOf lr) = none ∧
        (∀ j, j < 4 → (lookD (t.cruc j).asids (asidOf lr) {}).head = fld (lookD s.ctx (asidOf lr) 0) 53 52) ∧
        (∀ c ∈ rectCells lr, (t.cell c).grid = some s.serial ∧ (∀ hi, (t.bank c hi).task = none) ∧ InfoOf (memRead t.mem (padKey c 0x3FFC0) 64) lr s.gt.toNat c ∧
          (∀ off, off < 0x3FFC0 → memGet t.mem (padKey c off) = 0#8) ∧
          ((bit lr 418 = true → c = originOf lr) → ∃ m, (t.cell c).qlo = [m] ∧ m.msg.handler = 0 ∧ m.msg.dest = c ∧ m.msg.pay = []) ∧
          (bit lr 418 = true → c ≠ originOf lr → (t.cell c).qlo = [])) ∧
        (∀ c, c ∉ rectCells lr → (t.cell c).grid = (s.cell c).grid ∧ ∀ hi, t.bank c hi = s.bank c hi) ∧
        ∀ b, (∀ c ∈ rectCells lr, b < padKey c 0 ∨ padKey c 0 + 2 ^ 18 ≤ b) → (recording lr = true → b < area.1 ∨ area.1 + area.2 ≤ b) →
          memGet t.mem b = memGet s.mem b)

/-- R369, R370, R419, R420 and R423: a grid whose time is over ends with TIMEOUT. A resident grid of which nothing
remains writes its L1 lines back, frees its streams and sequences that are not persistent, and ends with its completion
told; one that a fault ends discards at once the tasks,
messages and queued commands of its cells, but for holders that drain, and ends, with the fault's status, when nothing
started remains. A failed structure ends the grid that owns it, or the resident grids of its die; a record of a replay
that has not occurred within 2^24 cycles of the occurrence before ends its grid. Completes: GRID_TIMEOUT,
GRID_END, GRID_FAULT_END, HW_UE, REPLAY_DIVERGENCE.
Where the rules leave a point open the statement follows the model's choices of log 13, 14, 24, 29, 31, 32. -/
def Obligations.GridEnds : Prop :=
  ∀ (s : State) (g : Nat) (x : Grid),
    look s.grids g = some x →
    let Sets := fun (i : Instr) (e : EndInfo) => ∃ t, exec i s = .next t ∧ look t.grids g = some { x with ending := some (x.ending.getD e) } ∧
      (∀ h, h ≠ g → look t.grids h = look s.grids h) ∧ ({ t with grids := s.grids } : State) = s
    let lim := fld x.lr 767 736 * 1024
    (lim = 0 ∨ s.gt.toNat < x.gtStart + lim → exec (.gridTimeout g) s = .next s) ∧
    (lim ≠ 0 → x.gtStart + lim ≤ s.gt.toNat → Sets (.gridTimeout g) { status := 0x13 }) ∧
    (∀ d what, Sets (.hwUe d what (some g)) { status := 0x10, cause := 0x70, fdetail := what }) ∧
    (∀ d what, let e : EndInfo := { status := 0x10, cause := 0x70, fdetail := what }
      ∃ t, exec (.hwUe d what none) s = .next t ∧ ({ t with grids := s.grids } : State) = s ∧ ∀ h y, look s.grids h = some y →
        look t.grids h = some (if (s.resident d).any (fun r => r.1 == h) then { y with ending := some (y.ending.getD e) } else y)) ∧
    (∀ n, let due := (∃ r ∈ x.replay.getD [], r.1 = n) ∧ x.metAt + 2 ^ 24 ≤ s.gt.toNat
      (due → Sets (.replayDivergence g n) { status := 0x10, cause := 0x71, detail := n, fdetail := n }) ∧
      (¬ due → exec (.replayDivergence g n) s = .next s)) ∧
    (x.ending.isSome = true ∨ x.resid = .saved ∨ s.finished g = false → exec (.gridEnd g) s = .next s) ∧
    (x.ending = none → x.resid ≠ .saved → s.finished g = true →
      (s.caching g = true → ∃ t, exec (.gridEnd g) s = .next t ∧ MemKept s t ∧ RegistersKept s t ∧ t.grids = s.grids ∧ Flushed s t g) ∧
      (s.caching g = false → ∃ t, exec (.gridEnd g) s = .next t ∧ look t.grids g = none ∧ Freed t g) ∧
      (s.caching g = false → NothingLeft s g x → ∃ t, exec (.gridEnd g) s = .next t ∧ Closed s t g x { status := 0 })) ∧
    (x.ending = none → exec (.gridFaultEnd g) s = .next s) ∧
    ∀ e, x.ending = some e →
      let b := s.discardGrid g
      (∀ c ∈ s.cellsOf g, (b.cell c).qlo = [] ∧ (b.cell c).qhi = [] ∧ (b.cell c).ready = [] ∧ (b.cell c).again = [] ∧ (b.cell c).hold = [] ∧
        (b.cell c).tongs = [] ∧ (b.cell c).anvil = [] ∧ (b.cell c).cruc = [] ∧ (b.cell c).gen = [] ∧
        ∀ hi k, (b.bank c hi).task = some k → k.ending = .draining ∨ k.ending = .drained) ∧
      (b.finished g = false → exec (.gridFaultEnd g) s = .next b) ∧
      (b.finished g = true → b.caching g = true → ∃ t, exec (.gridFaultEnd g) s = .next t ∧ t.grids = b.grids ∧ Flushed b t g) ∧
      (b.finished g = true → b.caching g = false → ∃ t, exec (.gridFaultEnd g) s = .next t ∧ look t.grids g = none ∧ Freed t g) ∧
      (b.finished g = true → b.caching g = false → ∀ y, look b.grids g = some y → NothingLeft b g y →
        ∃ t, exec (.gridFaultEnd g) s = .next t ∧ Closed b t g y e)

/-! ## Contexts (18) -/

/-- R382, R384, R424 to R428, R431 and R439: a running grid is to be switched out in a quench, for another job's slice,
or for a launch that may take its cells. Its copies stop once its cells are idle and its engines done, each
to be pending; it is saved when its L1s are written back too: its cells are free, what R425 names is kept, blocks and
their tags stand in its context's save area, and the EPOCH of its context has advanced. A grid whose area is as it was
saved, under the device's key, comes back to its cells, with their scratchpads, queues and information blocks; another
loses its context with RESTORE.LOST. Completes: PREEMPT_REQUEST, CONTEXT_SAVE, CONTEXT_RESTORE. -/
def Sys2Proof.Spec.ContextSwitch : Prop :=
  ∀ (s : State) (g : Nat) (x : Grid),
    let cs := s.cellsOf g
    let wanted := s.plat.quench.isSome = true ∨ s.gangOut g = true ∨ ∃ q ∈ s.plat.queues, ∃ l, q.2.pending = some l ∧
      s.admissible q.1 l = true ∧ ∃ h ∈ s.holders l.lr, h.1 = g
    let save := exec (.contextSave g) s
    let quiet := (∀ c ∈ cs, (s.cell c).runs = false ∧ (s.cell c).arrays = false ∧ (s.cell c).cruc = []) ∧ s.joint g = false
    let still := ∀ c ∈ cs, (s.cell c).copies = false
    look s.grids g = some x →
    (x.resid = .running → x.ending = none → wanted → ∃ t, exec (.preemptRequest g) s = .next t ∧ ({ t with grids := s.grids } : State) = s ∧
      look t.grids g = some { x with resid := .preempting } ∧ ∀ h, h ≠ g → look t.grids h = look s.grids h) ∧
    (x.resid ≠ .running ∨ x.ending ≠ none ∨ ¬ wanted → exec (.preemptRequest g) s = .next s) ∧
    let need := saveNeed x.lr
    (x.resid ≠ .preempting ∨ x.ending ≠ none ∨ s.savable x.lr = false ∨ s.saveSpot x.lr = none → save = .next s) ∧
    (∀ spot, x.resid = .preempting → x.ending = none → s.savable x.lr = true → s.saveSpot x.lr = some spot →
      (2 ^ 40 < spot + need → save = .fault .physicalHole) ∧ (spot + need ≤ 2 ^ 40 → ¬ quiet → save = .next s)) ∧
    (∀ spot, x.resid = .preempting → x.ending = none → s.savable x.lr = true → s.saveSpot x.lr = some spot → spot + need ≤ 2 ^ 40 → quiet →
      let running := fun c ch => ((s.cell c).chan ch).cmd.isSome = true ∧ ((s.cell c).chan ch).stop = none ∧ ((s.cell c).chan ch).done = false
      ((∃ c ∈ cs, (s.cell c).tongs ≠ []) → ∃ t, save = .next t ∧ MemKept s t ∧ RegistersKept s t ∧ ∀ c ∈ cs, (t.cell c).tongs = [] ∧
        (∀ ch, running c ch → ((t.cell c).chan ch).stop.isSome = true) ∧ ∀ k ∈ (s.cell c).tongs, (s.cell c).chans = [] → cs = [c] →
          (s.verdict k ≠ some true → TokenSent t k 3 0) ∧ (s.verdict k = some true → ∀ st, k.preStatus (s.lr k.gid) = some st → TokenSent t k st 0) ∧
          (s.verdict k = some true → k.preStatus (s.lr k.gid) = none → TokenSent t k 1 0 ∧
            (k.gid = g → ∃ y, look t.grids g = some y ∧ { cmd := k } ∈ y.pend)))) ∧
    (∀ spot, x.resid = .preempting → x.ending = none → s.savable x.lr = true → s.saveSpot x.lr = some spot → spot + need ≤ 2 ^ 40 → quiet → still →
      (s.inFlight g false = true → save = .next s) ∧
      (s.inFlight g false = false → s.caching g = true → ∃ t, save = .next t ∧ MemKept s t ∧ RegistersKept s t ∧ t.grids = s.grids ∧
        Flushed s t g) ∧
      (s.inFlight g false = false → s.caching g = false → Memory.Wf s.mem → ∃ t y, save = .next t ∧ t.fly = s.fly ∧
        (∀ b, (b < spot ∨ spot + need ≤ b) → memGet t.mem b = memGet s.mem b) ∧ y.sealAt = spot ∧ y.image = memSlice t.mem spot need ∧
        (∀ n j, n < saveBlocks x.lr → j < 16 →
          let nonce := BitVec.ofNat 96 (asidOf x.lr * 2 ^ 80 + (fld (lookD s.ctx (asidOf x.lr) 0) 363 332 + 1) % 2 ^ 32 * 2 ^ 48 + n)
          let tag := gmac (Config.saveKey s.plat.keyEpoch) nonce (gmacBlocks (memRead t.mem (spot + 4096 * n) 4096))
          memGet t.mem (spot + 4096 * saveBlocks x.lr + 16 * n + j) = tag.extractLsb' (8 * (15 - j)) 8) ∧
        (∀ d ∈ t.dies, ∀ e ∈ d.2.gates, e.1 / 1024 ≠ g) ∧
        (∀ d n w, (d, n, w) ∈ y.savedGates ↔ n / 1024 = g ∧ ∃ e ∈ s.dies, e.1 = d ∧ (n, w) ∈ e.2.gates) ∧
        look t.grids g = some y ∧ y.resid = .saved ∧ y.lr = x.lr ∧ y.tasks = x.tasks ∧ y.tid = x.tid ∧ y.events = x.events ∧ y.pend = x.pend ∧
        y.sealKey = s.plat.keyEpoch ∧ y.saved.map (·.cell) = cs ∧
        (∀ e ∈ y.saved, let c := s.cell e.cell
          e.qlo = c.qlo ∧ e.qhi = c.qhi ∧ e.ready = c.ready ∧ e.again = c.again ∧ e.hold = c.hold ∧ e.csr = c.csr ∧
          ∀ off, off < 0x3FFC0 → memGet e.pad (padKey e.cell off) = memGet s.mem (padKey e.cell off)) ∧
        (∀ c ∈ cs, (t.cell c).grid = none ∧ ∀ hi, (t.bank c hi).task = none) ∧
        (let old := lookD s.ctx (asidOf x.lr) 0
         let new := lookD t.ctx (asidOf x.lr) 0
         fld new 363 332 = (fld old 363 332 + 1) % 2 ^ 32 ∧ new / 2 ^ 364 = old / 2 ^ 364 ∧ new % 2 ^ 332 = old % 2 ^ 332))) ∧
    let whole := x.sealKey = s.plat.keyEpoch ∧ memSlice s.mem x.sealAt need = x.image ∧
      ∀ w ∈ s.poison, w < x.sealAt / 8 ∨ x.sealAt + need ≤ 8 * w
    (∀ intact, x.resid ≠ .saved ∨ s.mayReturn x = false ∨ s.plat.up = false → exec (.contextRestore g intact) s = .next s) ∧
    (∀ intact, x.resid = .saved → s.mayReturn x = true → intact = false ∨ ¬ whole →
      ∃ t, exec (.contextRestore g intact) s = .next t ∧ MemKept s t ∧ t.cells = s.cells ∧
        look t.grids g = some { x with ending := some (x.ending.getD { status := 0x12 }) }) ∧
    (x.resid = .saved → s.mayReturn x = true → whole → Memory.Wf s.mem → (x.saved.map (·.cell)).Nodup →
      (∀ e ∈ x.saved, e.cell ∈ rectCells x.lr ∧ Memory.Wf e.pad ∧ ∀ b ∈ e.pad, padKey e.cell 0 ≤ b.1 ∧ b.1 < padKey e.cell 0x3FFC0) → rectOk x.lr = true →
      ∃ t y, exec (.contextRestore g true) s = .next t ∧ look t.grids g = some y ∧ y.resid = .running ∧ y.lr = x.lr ∧ y.tasks = x.tasks ∧
        y.events = x.events ∧ y.tid = x.tid ∧ y.saved = [] ∧ y.savedGates = [] ∧
        ((x.savedGates.map (fun e => (e.1, e.2.1))).Nodup → ∀ e ∈ x.savedGates, look (t.die e.1).gates e.2.1 = some e.2.2) ∧ ∀ e ∈ x.saved,
          (t.cell e.cell).grid = some g ∧ (t.cell e.cell).qlo = e.qlo ∧ (t.cell e.cell).qhi = e.qhi ∧ (t.cell e.cell).ready = e.ready ∧
          (t.cell e.cell).again = e.again ∧ (t.cell e.cell).hold = e.hold ∧ (t.cell e.cell).csr = e.csr ∧ (∀ hi, (t.bank e.cell hi).task = none) ∧
          InfoOf (memRead t.mem (padKey e.cell 0x3FFC0) 64) x.lr (x.gtStart % 2 ^ 64) e.cell ∧
          ∀ off, off < 0x3FFC0 → memGet t.mem (padKey e.cell off) = memGet e.pad (padKey e.cell off))

/-- R179, R426, R428, R431 and R443: the removal of a context ends its grids with REMOVED and then goes step by step,
each when its units hold nothing of the ASID, and makes the package reset when a step takes 2^20 cycles. A reset leaves
memory, the context table and GT, makes a new save key, and keeps the saved grids of a quench's image alone, whose header
the device's own identity key has signed, under the key that the header carries. A quench stops admissions, switches every
grid out and writes that header; after 2^20 cycles it aborts what still runs, but for a holder that
drains, its message to run again, and ends with NOSAVE what cannot be saved. Completes: CONTEXT_REMOVAL,
REMOVAL_TIMEOUT, PACKAGE_RESET, QUENCH, QUENCH_ABORT_TIMEOUT. -/
def Sys2Proof.Spec.RemovalAndReset : Prop :=
  (∀ (s : State) (a : Nat),
    let remove := exec (.contextRemoval a) s
    let of := fun (r : Removal) => r.asid = a
    ((∀ r ∈ s.plat.removals, r.asid ≠ a) → ∃ t, remove = .next t ∧ MemKept s t ∧ t.cells = s.cells ∧ t.fly = s.fly ∧
      t.plat = { s.plat with removals := s.plat.removals ++ [{ asid := a, step := 1, since := s.gt.toNat }] } ∧
      ∀ g x, (s.grids.map (·.1)).Nodup → look s.grids g = some x → look t.grids g =
        some (if asidOf x.lr = a then { x with ending := some (x.ending.getD { status := 0x16 }) } else x)) ∧
    (∀ r, s.plat.removals.find? (fun r => r.asid == a) = some r →
      let u := s.removeStep a r.step
      (u.2 = false → remove = .next u.1) ∧
      (u.2 = true → r.step = 8 → ∃ t, remove = .next t ∧ ({ t with plat := u.1.plat } : State) = u.1 ∧ ∀ q ∈ t.plat.removals, ¬ of q) ∧
      (u.2 = true → r.step ≠ 8 → ∃ t, remove = .next t ∧ ({ t with plat := u.1.plat } : State) = u.1 ∧
        ∀ q ∈ u.1.plat.removals, of q → { q with step := q.step + 1, since := s.gt.toNat } ∈ t.plat.removals) ∧
      (r.step = 4 → (∀ g ∈ s.gridsOf a, s.joint g = false ∧ ∀ c ∈ s.cellsOf g, (s.cell c).arrays = false) →
        u = (s, true)) ∧
      (r.step = 7 → s.fly.any (fun f => accessOf a false f.f) = false → u.2 = true ∧
        (∀ c, ∀ e ∈ (u.1.cell c).locks, e.asid ≠ a) ∧ ∀ d p, ∀ e ∈ lookD (u.1.die d).locks p [], e.asid ≠ a) ∧
      (r.since + 2 ^ 20 ≤ s.gt.toNat → exec (.removalTimeout a) s = exec (.packageReset none) s) ∧
      (s.gt.toNat < r.since + 2 ^ 20 → exec (.removalTimeout a) s = .next s)) ∧
    (s.plat.removals.find? (fun r => r.asid == a) = none → exec (.removalTimeout a) s = .next s)) ∧
  (∀ (s : State) (img : Option QuenchHeader),
    let image := (∃ h, img = some h ∧ h.sig = Config.identitySign h.wrapped) ∧ s.plat.header.isSome = true ∧ ∀ g ∈ s.grids, g.2.resid = .saved
    ∃ t, exec (.packageReset img) s = .next t ∧ t.gt = s.gt ∧ t.ctx = s.ctx ∧ t.cells = [] ∧ t.clusters = [] ∧
    t.fly = [] ∧ t.steps = [] ∧ t.colls = [] ∧ t.plat = { keyEpoch := s.plat.keyEpoch + 1 } ∧
    (Memory.Wf s.mem → (∀ b, b < 2 ^ 41 → memGet t.mem b = memGet s.mem b) ∧
      (¬ image → ∀ b, 2 ^ 41 ≤ b → memGet t.mem b = 0#8) ∧ ∀ b, 2 ^ 41 ≤ b → b < 2 ^ 43 → memGet t.mem b = 0#8) ∧
    (¬ image → t.grids = [] ∧ t.dies = [] ∧ t.crucs = []) ∧
    (image → ∀ h, img = some h → t.grids = s.grids.map (fun g =>
      (g.1, if Config.wrapKey (Config.saveKey g.2.sealKey) = h.wrapped then { g.2 with sealKey := s.plat.keyEpoch + 1 } else g.2)))) ∧
  ∀ (s : State),
    (s.plat.quench.isSome = true → exec .quench s = .next s) ∧
    (s.plat.quench = none → ∃ t, exec .quench s = .next t ∧ t.plat = { s.plat with
        quench := some s.gt.toNat
        header := some (.mk (Config.wrapKey (Config.saveKey s.plat.keyEpoch)) (Config.identitySign (Config.wrapKey (Config.saveKey s.plat.keyEpoch)))) } ∧
      ({ t with plat := s.plat, grids := s.grids } : State) = s ∧ ∀ g x, look s.grids g = some x →
        look t.grids g = some (if x.resid = .running then { x with resid := .preempting } else x)) ∧
    (s.plat.quench = none → exec .quenchAbortTimeout s = .next s) ∧
    (∀ q, s.plat.quench = some q → s.gt.toNat < q + 2 ^ 20 → exec .quenchAbortTimeout s = .next s) ∧
    ∀ q, s.plat.quench = some q → q + 2 ^ 20 ≤ s.gt.toNat → ∃ t, exec .quenchAbortTimeout s = .next t ∧
      (∀ g x, (g, x) ∈ s.grids → look s.grids g = some x → x.resid ≠ .saved → x.ending = none → Untraced s g →
        (s.savable x.lr = false ∨ s.saveSpot x.lr = none → ∃ y, look t.grids g = some y ∧ y.ending = some { status := 0x17 }) ∧
        ∀ c ∈ s.cellsOf g, ∀ hi k, (s.bank c hi).task = some k → k.ending ≠ .draining → k.ending ≠ .drained → (t.bank c hi).task = none ∧
          ∃ r ∈ (t.cell c).again, r.msg = k.msg ∧ r.hi = hi)

/-- Contexts switched, removed and reset: the statements ContextSwitch, RemovalAndReset above, together.
Where the rules leave a point open the statement follows the model's choices of log 7, 9, 22, 31, 32, 35, 36, 73, 93,
95. -/
def Obligations.Contexts : Prop :=
  Sys2Proof.Spec.ContextSwitch ∧ Sys2Proof.Spec.RemovalAndReset

/-! ## The platform (18, 19) -/

namespace Sys2Proof.Spec

/-- Nothing but the platform's registers has changed, and these as told. -/
def OnlyPlat (s t : State) (p : Plat) : Prop := t.plat = p ∧ ({ t with plat := s.plat } : State) = s

/-- A host area has been set (R441). -/
def AreaSet (s : State) (w : HostWrite) (die : Option Nat) (base len least : Nat) (p : Plat) : Prop :=
  let write := exec (.hostRegisterWrite w) s
  let resident := ∃ g ∈ s.grids, g.2.resid ≠ .saved
  (2 ^ 40 < base + len → write = .fault .physicalHole) ∧
    (base + len ≤ 2 ^ 40 → len < least ∨ resident ∨ (∃ d, die = some d ∧ (8 ≤ d ∨ homeDie base ≠ d ∨ homeDie (base + len - 1) ≠ d)) → write = .next s) ∧
    (base + len ≤ 2 ^ 40 → least ≤ len → ¬ resident → (∀ d, die = some d → d < 8 ∧ homeDie base = d ∧ homeDie (base + len - 1) = d) →
      ∃ t, write = .next t ∧ OnlyPlat s t p)

end Sys2Proof.Spec

/-- R99, R421, R438 to R441 and R444: the host sets queue bases and lengths, the areas of R441 with their least lengths
while no grid is resident, a context entry whose EPOCH stays the device's, and memory, and sends packets to other
hosts. The HEAD of an entry signalled is on its way to the crucibles. A trace ring's oldest entry goes to the recording area of
its grid. A failed link loses what is on it, and the grids that need it end with LINK; a stream whose transfer it loses is live at
one end; nothing comes in on a failed port. A reserved packet is dropped and counted, host traffic goes to the host, and link training changes nothing.
Completes: HOST_REGISTER_WRITE, CONTEXT_ENTRY_SIGNAL, TRACE_RING_DRAIN, LINK_FAILURE, RESERVED_PACKET_DROP, HOST,
LINK.
Where the rules leave a point open the statement follows the model's choices of log 20, 33, 41, 73, 102; that the host names a recording
by a register write, the clause of .replay, is the model's choice of log 14. -/
def Obligations.HostAndLinks : Prop :=
  (∀ (s : State) (q d base len a pa : Nat) (v : BitVec 64) (n : BitVec 4) (x0 x1 x2 x3 : BitVec 5) (e : BitVec 512) (data : List Byte)
      (id : Nat) (recs : List (Nat × Nat)) (l : List GangSlice) (dst : List Nat) (flits : List (BitVec 512)),
    let Write := fun (w : HostWrite) (p : Plat) => ∃ t, exec (.hostRegisterWrite w) s = .next t ∧ OnlyPlat s t p
    let queue := fun (w : HostWrite) (y : LQueue) => ∃ t, exec (.hostRegisterWrite w) s = .next t ∧ t.lq (q % 64) = y ∧
      (∀ p, p ≠ q % 64 → t.lq p = s.lq p) ∧ ({ t with plat := { t.plat with queues := s.plat.queues } } : State) = s
    let Entry := fun (t : State) => ∃ w, look t.ctx (a % 2 ^ 16) = some w ∧ w % 2 = e.toNat % 2 ∧ fld w 11 1 = 0 ∧ fld w 53 12 = fld e.toNat 53 12 ∧
      fld w 331 54 = 0 ∧ fld w 363 332 = fld (lookD s.ctx (a % 2 ^ 16) 0) 363 332 ∧ w / 2 ^ 364 = e.toNat / 2 ^ 364 ∧
      ∀ b, b ≠ a % 2 ^ 16 → look t.ctx b = look s.ctx b
    queue (.qbase q v) { s.lq (q % 64) with base := v.toNat } ∧ queue (.qlog q n) { s.lq (q % 64) with log := n.toNat } ∧
    AreaSet s (.msgArea d base len) (some d) base len (4 * 2 ^ 20) { s.plat with msgArea := put s.plat.msgArea d (base, len) } ∧
    AreaSet s (.evArea d base len) (some d) base len (2 ^ 20) { s.plat with evArea := put s.plat.evArea d (base, len) } ∧
    AreaSet s (.lockArea d base len) (some d) base len (32 * 2 ^ 20) { s.plat with lockArea := put s.plat.lockArea d (base, len) } ∧
    AreaSet s (.hearthArea d base len) (some d) base len (192 * 2 ^ 20) { s.plat with hearthArea := put s.plat.hearthArea d (base, len) } ∧
    AreaSet s (.gangArea base len) none base len (2 ^ 16) { s.plat with gangArea := some (base, len) } ∧
    AreaSet s (.coords x0 x1 x2 x3) none 0 0 0 { s.plat with coords := some (x0.toNat, x1.toNat, x2.toNat, x3.toNat) } ∧
    (∃ t, exec (.hostRegisterWrite (.context a e)) s = .next t ∧ Entry t ∧ ({ t with ctx := s.ctx } : State) = s) ∧
    (∃ t, exec (.contextEntrySignal a e.toNat) s = .next t ∧ Entry t ∧ look t.plat.headDue (a % 2 ^ 16) = some (fld e.toNat 53 52) ∧
      (∀ b, b ≠ a % 2 ^ 16 → look t.plat.headDue b = look s.plat.headDue b) ∧
      ({ t with ctx := s.ctx, plat := { t.plat with headDue := s.plat.headDue } } : State) = s) ∧
    (2 ^ 41 < pa + data.length → exec (.hostRegisterWrite (.store pa data)) s = .fault .physicalHole) ∧
    (pa + data.length ≤ 2 ^ 41 → Memory.Wf s.mem → ∃ t, exec (.hostRegisterWrite (.store pa data)) s = .next t ∧ RegistersKept s t ∧
      BytesSet s t pa data.length (ofBytes data)) ∧
    Write (.replay id recs) { s.plat with replays := put s.plat.replays id recs } ∧ Write (.schedule l) { s.plat with gangSched := l } ∧
    (flits.length ≤ 64 → Write (.packet dst flits) { s.plat with sent := s.plat.sent ++ [.host dst flits] }) ∧
    (64 < flits.length → exec (.hostRegisterWrite (.packet dst flits)) s = .next s)) ∧
  (∀ (s : State) (n : Nat) (e : Nat) (rest : List Nat),
    let r := if n < 512 then RingId.pad n else .slice ((n - 512) / 64) ((n - 512) % 64)
    let drain := exec (.traceRingDrain n) s
    let mine := fun (g : Nat × Grid) => recording g.2.lr = true ∧ asidOf g.2.lr = fld e 95 80
    (s.ring r = [] → drain = .next s) ∧
    (s.ring r = e :: rest → (∀ g ∈ s.grids, ¬ mine g) → ∃ t, drain = .next t ∧ MemKept s t ∧ RegistersKept s t ∧ t.ring r = rest) ∧
    (∀ g x, s.ring r = e :: rest → s.grids.find? (fun g => recording g.2.lr && asidOf g.2.lr == fld e 95 80) = some (g, x) → look s.grids g = some x →
      let c := lookD s.ctx (asidOf x.lr) 0
      let at_ := fld c 511 460 * 4096 + x.recPos
      Memory.Wf s.mem → x.recPos + 32 ≤ fld c 459 440 * 4096 → at_ + 32 ≤ 2 ^ 41 → ∃ t y, drain = .next t ∧ RegistersKept s t ∧ t.ring r = rest ∧
        look t.grids g = some y ∧ y.recPos = x.recPos + 32 ∧ BytesSet s t at_ 32 e)) ∧
  ∀ (s : State) (l : LinkId) (port kind : Nat) (flits : List (BitVec 512)),
    let lost := s.fly.filter (s.onLink l)
    let hit := fun (g : Nat) (x : Grid) => (∃ a b, l = .bridge a b ∧ x.resid ≠ .saved ∧ a ∈ diesOf x.lr ∧ b ∈ diesOf x.lr) ∨
      (∃ d, l = .crucible d ∧ ∃ q ∈ (s.cruc (d / 2)).queries ++ (s.cruc (d / 2)).held, q.cmd.gid = g ∧ crucDie (d / 2) (dieOf q.cmd.cell) = d) ∨
      ∃ f ∈ lost, g ∈ s.flightGrids f.f
    (∃ t, exec (.linkFailure l) s = .next t ∧ l ∈ t.plat.down ∧ MemKept s t ∧ RegistersKept s t ∧ t.fly = s.fly.filter (fun f => !s.onLink l f) ∧
      ((s.grids.map (·.1)).Nodup → ∀ g x, look s.grids g = some x →
        ∃ y, look t.grids g = some y ∧ ({ y with ending := x.ending, cut := x.cut, savedStreams := x.savedStreams } : Grid) = x ∧
          (hit g x → y.ending = some (x.ending.getD { status := 0x11 }) ∧ y.cut = true) ∧ (¬ hit g x → y.ending = x.ending ∧ y.cut = x.cut)) ∧
      ∀ f ∈ lost, ∀ who sid dst xfer, f.f = .mig who sid dst xfer → ∀ e, s.sEnt sid = some e → e.moves xfer = true →
        t.sEnt sid = none ∨ t.sEnt sid = some { e with mig := false }) ∧
    (LinkId.port port ∈ s.plat.down → exec (.reservedPacketDrop port kind) s = .next s ∧ exec (.host port flits) s = .next s) ∧
    (8 ≤ kind → kind < 16 → LinkId.port port ∉ s.plat.down → ∃ t, exec (.reservedPacketDrop port kind) s = .next t ∧
      lookD t.plat.rsvd port 0 = (lookD s.plat.rsvd port 0 + 1) % 2 ^ 64 ∧ ({ t with plat := { t.plat with rsvd := s.plat.rsvd } } : State) = s) ∧
    (LinkId.port port ∉ s.plat.down → ∃ t, exec (.host port flits) s = .next t ∧ OnlyPlat s t { s.plat with hostIn := s.plat.hostIn ++ [(port, flits.take 64)] }) ∧
    exec (.link port kind) s = .next s

/-- R384 and R447 to R450: at a slice's instant the job that owns it, or the one to be tried again, begins to come in,
and READY, with LATE when it is late, goes to its packages once the other jobs' grids are out. At the window's end the
job starts when every member's READY came in time; else the slice is abandoned, the other jobs go on, and the job is
tried again. A sample from the port toward the root slews GT, by at most one
count in 1,024 cycles and never backwards, and one more than 8 cycles off is reported; each period
samples go to every neighbour. A verified image is measured and runs, another leaves an error; a report of the
measurements is signed; power limits are counted. Completes: GANG, GANG_SLICE_INSTANT, GANG_DECISION, TSYNC,
TSYNC_PERIOD, FIRMWARE_VERIFY, ATTESTATION_REQUEST, POWER_LIMIT.
Where the rules leave a point open the statement follows the model's choices of log 7, 8, 20, 38, 39, 42. -/
def Obligations.GangsAndTime : Prop :=
  (∀ (s : State) (n : Nat) (e own : GangSlice) (p : GangPacket),
    let pl := s.plat
    let instant := exec (.gangSliceInstant n) s
    let decide_ := exec (.gangDecision n) s
    let closed := s.gt.toNat < e.at_ ∨ pl.gangTry.isSome = true ∨ n ∈ pl.slices ∨ pl.quench.isSome = true
    let try_ : GangTry := { slice := n, at_ := e.at_, gangid := own.gangid, gwin := s.gangWin own.gangid own.gwin, members := own.members }
    let in_ := ∃ g ∈ s.grids, ∃ x, look s.grids g.1 = some x ∧ gangv x.lr = true ∧ gangidOf x.lr ≠ own.gangid ∧ x.resid ≠ .saved
    let ready : GangPacket := { src := pl.here, late := false, gangid := own.gangid, slice := n, gt := s.gt.toNat }
    let late := { ready with late := true }
    let retried := match pl.gangRetry with
      | none => own = e
      | some j => pl.gangSched.find? (fun x => x.gangid == j) = some own
    (pl.deaf p.src = true → exec (.gang p) s = .next s) ∧
    (pl.deaf p.src = false → ∃ t, exec (.gang p) s = .next t ∧ OnlyPlat s t { pl with gang := pl.gang ++ [p] }) ∧
    (∀ g x j w, s.grids = (g, x) :: s.grids.drop 1 → gangv x.lr = true → gangidOf x.lr = j → s.gangWin j w = fld x.lr 943 928) ∧
    (pl.gangSched.find? (fun x => x.slice == n) = none → instant = .next s) ∧
    (pl.gangSched.find? (fun x => x.slice == n) = some e → (closed → instant = .next s) ∧
      (¬ closed → retried → in_ → ∃ t, instant = .next t ∧ OnlyPlat s t { pl with gangTry := some try_ }) ∧
      (¬ closed → retried → ¬ in_ → ∃ t, instant = .next t ∧ ({ t with plat := pl } : State) = s ∧
        t.plat.gangTry = some { try_ with sent := true } ∧
        (∀ m ∈ own.members, m ≠ pl.here → .gang m ready ∈ t.plat.sent ∧ (e.at_ + 2048 < s.gt.toNat → .gang m late ∈ t.plat.sent)) ∧
        (pl.here ∈ own.members → ready ∈ t.plat.gang ∧ (e.at_ + 2048 < s.gt.toNat → late ∈ t.plat.gang)))) ∧
    (pl.gangTry = none → decide_ = .next s) ∧
    (∀ t0 : GangTry, pl.gangTry = some t0 →
      let heard := ∀ m ∈ t0.members, ∃ g ∈ pl.gang, g.src = m ∧ g.late = false ∧ g.gangid = t0.gangid ∧ g.slice = n ∧ g.gt ≤ t0.at_ + 2048
      (t0.slice ≠ n ∨ s.gt.toNat < t0.at_ + 2048 + t0.gwin → decide_ = .next s) ∧
      (t0.slice = n → t0.at_ + 2048 + t0.gwin ≤ s.gt.toNat → heard → ∃ t, decide_ = .next t ∧ ({ t with plat := pl } : State) = s ∧
        t.plat.gangNow = some t0.gangid ∧ t.plat.gangTry = none ∧ t.plat.gangRetry = none ∧ n ∈ t.plat.slices) ∧
      (t0.slice = n → t0.at_ + 2048 + t0.gwin ≤ s.gt.toNat → ¬ heard → ∃ t, decide_ = .next t ∧
        ({ t with plat := pl, grids := s.grids } : State) = s ∧ t.plat.gangNow = pl.gangNow ∧ t.plat.gangTry = none ∧
        t.plat.gangRetry = some t0.gangid ∧ n ∈ t.plat.slices ∧
        lookD t.plat.abandons t0.gangid 0 = (lookD pl.abandons t0.gangid 0 + 1) % 2 ^ 64 ∧ ∀ g x, look s.grids g = some x → look t.grids g =
          some (if x.resid = .preempting ∧ gangv x.lr = true ∧ gangidOf x.lr ≠ t0.gangid ∧ s.plat.quench = none ∧ s.launchWants g = false then
            { x with resid := .running } else x)))) ∧
  ∀ (s : State) (port gt die cycles : Nat) (image sig : List Byte) (nonce : BitVec 384),
    let pl := s.plat
    let off : Int := (gt : Int) - (s.gt.toNat : Int)
    let digest := Config.sha384 image
    (portTo pl.at_ [0, 0, 0, 0] ≠ some port ∨ LinkId.port port ∈ pl.down → exec (.tsync port gt) s = .next s) ∧
    (portTo pl.at_ [0, 0, 0, 0] = some port → LinkId.port port ∉ pl.down → ∃ t, exec (.tsync port gt) s = .next t ∧
      OnlyPlat s t { pl with slew := off, irqs := if 8 < off ∨ off < -8 then pl.irqs ++ [.timeOff] else pl.irqs }) ∧
    (∀ dt, let most := Nat.min dt ((pl.slewAt + dt) / 1024)
      ∃ d : Int, (s.pass dt).plat.slew = pl.slew - d ∧ d.natAbs ≤ most ∧ (0 ≤ pl.slew → 0 ≤ d ∧ d ≤ pl.slew) ∧ (pl.slew ≤ 0 → d ≤ 0 ∧ pl.slew ≤ d) ∧
        (d.natAbs < most → d = pl.slew) ∧ (s.pass dt).gt = s.gt + BitVec.ofNat 64 ((dt : Int) + d).toNat ∧
        (pl.slew ≠ 0 → (s.pass dt).plat.slewAt = (pl.slewAt + dt) % 1024)) ∧
    (s.gt.toNat / 2 ^ 20 ≤ pl.tsyncs → exec .tsyncPeriod s = .next s) ∧
    (pl.tsyncs < s.gt.toNat / 2 ^ 20 → ∃ t, exec .tsyncPeriod s = .next t ∧ t.plat.tsyncs = s.gt.toNat / 2 ^ 20 ∧
      ({ t with plat := pl } : State) = s ∧ ∀ k, k < 8 → .tsync k s.gt.toNat ∈ t.plat.sent) ∧
    (Config.ecdsaVerify (bytesOf 48 digest.toNat) sig = true → ∃ t, exec (.firmwareVerify die image sig) s = .next t ∧
      ({ t with plat := pl } : State) = s ∧ t.plat.pcr = pl.pcr ++ [digest] ∧ die ∈ t.plat.booted ∧ t.plat.bootErr = pl.bootErr) ∧
    (Config.ecdsaVerify (bytesOf 48 digest.toNat) sig = false → ∃ t, exec (.firmwareVerify die image sig) s = .next t ∧
      t.plat.pcr = pl.pcr ∧ t.plat.booted = pl.booted ∧ (look t.plat.bootErr die).isSome = true ∧ MemKept s t ∧ RegistersKept s t) ∧
    (∃ t r, exec (.attestationRequest nonce) s = .next t ∧ OnlyPlat s t { pl with reports := pl.reports ++ [r ++ Config.identitySign r] } ∧
      r = bytesOf 48 nonce.toNat ++ bytesOf 8 s.gt.toNat ++ pl.at_.map (BitVec.ofNat 8) ++ pl.pcr.flatMap (fun d => bytesOf 48 d.toNat) ++
        bytesOf 8 Config.fuses.toNat) ∧
    ∃ t, exec (.powerLimit cycles) s = .next t ∧ OnlyPlat s t { pl with throttle := pl.throttle + cycles }

/-! ## The whole machine -/

/-- R20 to R29, R47 and R354: a step takes the turn that comes next: its cycles pass, and it runs a step of another
agent, the next word of a mask program as decoded, or the instruction of a bank. A bank's instruction is what the 96
bits of the slot at pc decode to, and the step is that instruction's own, at the state with the bank as the present
one, its pair and the acquires of its token reads settled, and the cycle of its task's first instruction noted, when
the bank's task runs, holds the line of its pc in its code, stands at an entry where one is needed, no trap is due,
nothing that the instruction waits for is missing, and no source is poisoned. A held instruction changes nothing; a
pattern that decodes to nothing raises UNDEF, and a transfer to a slot that may not be entered BTM. An error that strikes
memory is a turn of its own; while the package is in reset after an image that failed, its turns change nothing but its
clock.
Where the rules leave a point open the statement follows the model's choices of log 3, 5, 23, 66, 75, 94. -/
def Obligations.StepRunsTheDecoded : Prop :=
  ∀ (s u : State) (w : What),
    (s.sched = [] ∧ w = .issue s.cur.cell s.cur.hi ∧ u = s.pass 1 ∨ ∃ dt r, s.sched = { dt := dt, what := w } :: r ∧ u = { s.pass dt with sched := r }) →
    (∀ dt, s.plat.slew = 0 → s.pass dt = { s with gt := s.gt + BitVec.ofNat 64 dt }) ∧
    (s.plat.bootErr ≠ [] → (∀ d image sig, w ≠ .ev (.firmwareVerify d image sig)) → (∀ v, w ≠ .ev (.packageReset v)) → step s = .next u) ∧
    (s.plat.bootErr = [] → (∀ site double, w = .upset site double → step s = .next (u.upset double site)) ∧
    (∀ i, w = .ev i → step s = exec i u) ∧
    (∀ cb word i, w = .mask cb → (s.cruc cb).mu.prog[(s.cruc cb).mu.at_]? = some word → decodeMask word = .ok i →
      step s = exec i { u with cur := { u.cur with cb := cb } }) ∧
    ∀ c hi (k : Task) (line : Line), w = .issue c hi →
      let v : State := { u with cur := { u.cur with cell := c, hi := hi, pair := 0, rep := false } }
      let b := s.bank c hi
      let pc := b.pc.toNat
      let slot := fun n => decodeCell (BitVec.ofNat 96 (line.data / 2 ^ (96 * n) % 2 ^ 96))
      (s.runs c hi = false → step s = .next v) ∧
      (s.runs c hi = true → b.task = some k → k.pendTrap = none → k.xfault = none → b.fell = false → b.past = none →
        fld (s.lr k.gid) 63 0 ≤ pc / 64 * 64 → pc / 64 * 64 < fld (s.lr k.gid) 63 0 + fld (s.lr k.gid) 95 64 →
        b.line = some line → line.addr = pc / 64 * 64 → b.refetch = false →
        let mayEnter := pc % 8 < 5 ∧ pc / 8 % 8 = 0 ∧ bit line.data (480 + 22 + pc % 8) = true
        let due := fun (t : State) => step s = .next (if v.floatFirst then v else t)
        (b.entered ≠ none → ¬ mayEnter → due (v.fetchTrap .btm pc 0)) ∧
        (b.entered = none ∨ mayEnter → ∀ p, slot (pc % 8) = .error p → due (v.trap .undef pc 0)) ∧
        ∀ i, b.entered = none ∨ mayEnter → slot (pc % 8) = .ok i →
          let p := v.pairOf i
          let r := (v.tokenReads i).mapT (fun q => if q.first.isSome then q else { q with first := some v.gt.toNat, excl := 0 })
          let ready := v.stall i = false ∧ (p = 2 → ∃ j, slot (pc % 8 + 1) = .ok j ∧ v.stall j = false)
          (bit line.data (480 + 18 + pc % 8) = false → p = 0) ∧
          (v.stall i = true → step s = .next v) ∧
          (ready → ∀ q, poisonSrc b i = some q → due (v.trap .memUe 0 (2 * 2 ^ 56 + q.toNat))) ∧
          (ready → (∀ q ∈ readsOf i, q ∉ b.poison ∧ (rbank q = 1 → lookD b.vbad (ridx q) 0 = 0)) →
            step s = exec i { r with cur := { r.cur with pair := p } }) ∧
          ((∀ q ∈ readsOf i, look b.tokens q.toNat = none) → v.tokenReads i = v)))

/-- Words that the specification writes out in the examples of its sections 05 to 18 decode to the instructions that
it says they are, with every field as the example gives it; the bytes of a slot stand lowest address first (R20). -/
def Obligations.WordsOfTheSpec : Prop :=
  decodeCell 0x04FF0405C300100000000000#96 = .ok (.sar { ty := .i32, a := 0x04#8, b := 0x05#8, c := 0xC3#8 }) ∧
  decodeCell 0x140F05060000B20800000000#96 = .ok (.fcvt { dt := .e4m3, st := .f32, rnd := .rne, sat := true, a := 0x05#8, b := 0x06#8 }) ∧
  decodeCell 0x200F05040600200300000040#96 =
    .ok (.amo { op := .add, ty := .i64, sp := .g, sc := .die, ord := .ar, a := 0x05#8, b := 0x04#8, c := 0x06#8, off := 0x40#32 }) ∧
  decodeCell 0x280F0809000000C00D000000#96 =
    .ok (.cpy { g := 15#4, a := 0x08#8, b := 0x09#8, ta := 12#12, tb := 13#12, det := false, chan := none }) ∧
  decodeCell 0x340F0506000000000000000C#96 = .ok (.tidset { a := 0x05#8, b := 0x06#8, id := 12#12 }) ∧
  decodeCell 0x400F44454600100000000003#96 = .ok (.vadd { ty := .i32, a := 0x44#8, b := 0x45#8, c := 0x46#8, msk := 3#3 }) ∧
  decodeCell 0x601F0908A0A1014015000600#96 = .ok (.amma
    { g := 15#4, a := 9#8, b := 8#8, c := 0xA0#8, d := 0xA1#8, ta := 20#12, tb := 21#12, det := false, adva := true, advb := true, ska := 0#4, skb := 0#4 }) ∧
  decodeCell 0x680F090800A2000000000000#96 = .ok (.atq { g := 15#4, a := 0x09#8, b := 0x08#8, d := 0xA2#8, det := false }) ∧
  decodeCell 0x683F09080000000000000000#96 = .ok (.atmsk { g := 15#4, a := 0x09#8, b := 0x08#8, det := false }) ∧
  decodeCell 0x6C0F0908000001E000000000#96 = .ok (.smpl { a := 0x09#8, b := 0x08#8, det := false, tid := 30#12 }) ∧
  decodeCell 0x700F09080000000000000000#96 = .ok (.cred { g := 15#4, a := 0x09#8, b := 0x08#8, det := false }) ∧
  decodeCell 0x802F00000500000003000000#96 = .ok (.jl { tslot := 2#3, loff := 3#32 }) ∧
  decodeCell 0x840F0006000000000400000D#96 =
    .ok (.lset { k := true, sloff := 0#20, sslot := 2#3, eloff := 0#20, eslot := 3#3, b := 0x06#8 }) ∧
  decodeCell 0x880F05080900000000014003#96 =
    .ok (.send { a := 0x05#8, b := 0x08#8, c := 0x09#8, d := 0x00#8, hnd := 3#8, len := 64#8, pri := true, setm := 0#4 }) ∧
  decodeCell 0x900F05060000000040000023#96 =
    .ok (.sfork { a := 0x05#8, b := 0x06#8, n := 3#4, hor := 2#16, pers := false, loff := 0x100#18 }) ∧
  decodeCell 0x940F05040000000000000012#96 = .ok (.adecl { a := 0x05#8, b := 0x04#8, sz := 2#4, slot := 1#2, dsp := false }) ∧
  decodeCell 0xC40F00000000000000000007#96 = .ok (.brk 7#32) ∧
  decodeSlot [0x00, 0x06, 0x00, 0x15, 0x40, 0x01, 0xA1, 0xA0, 0x08, 0x09, 0x1F, 0x60] = decodeCell 0x601F0908A0A1014015000600#96 ∧
  decodeMask 0x04000000#32 = .ok (.mlq 0#3) ∧ decodeMask 0x08800000#32 = .ok (.mlk 1#3) ∧
  decodeMask 0x34100000#32 = .ok (.mcle { d := 0#3, a := 1#3, b := 0#3 }) ∧ decodeMask 0x19000000#32 = .ok (.mlp 2#3 0#17) ∧
  decodeMask 0x25840001#32 = .ok (.msub { d := 3#3, a := 0#3, b := 2#3, imm := 1#17 }) ∧
  decodeMask 0x3C020000#32 = .ok (.mband { d := 0#3, a := 0#3, b := 1#3 }) ∧ decodeMask 0x0E000000#32 = .ok (.mldq 4#3) ∧
  decodeMask 0x12800000#32 = .ok (.mldk 5#3) ∧ decodeMask 0x394A0000#32 = .ok (.mceq { d := 2#3, a := 4#3, b := 5#3 }) ∧
  decodeMask 0x48000000#32 = .ok (.mvis 0#3)

namespace Sys2Proof.Spec

/-- The steps of the agents beside the cells' and the mask units' instructions. -/
def otherAgent : Instr → Bool
  | .lineFetch _ _ | .lineRefetch _ _ | .resultWriteback _ | .homeSliceArrival _ | .homeSliceFill _
  | .writeThroughAck _ | .loadReturn _ | .l1Eviction _ _ | .portArrival _ | .hearthSliceArrival _
  | .hostWindowAccess _ | .traceRingDrain _ | .clusterTlbLookup _ | .tableWalk _ | .walkEntryRead _
  | .walkInstall _ | .dirtyUpdate _ | .tlbiComplete _ | .hostInvalidate _ _ _ _ | .hearthSpill _ | .hearthFill _ _
  | .tongsCommandStart _ | .tongsPieceLand _ _ | .tongsPieceAck _ | .tokenWrite _ | .barrierArrive _
  | .pendingCopyReplay _ | .budgetPeriod | .lockRequest _ | .taskAbort _ _ | .setGrant _ | .commitDrain _ _
  | .setRelease _ _ | .asetWaitLimit _ _ | .engineQueueHead _ _ | .ringWake _ _ | .ammaJoin _ | .ammaStepStart _
  | .gangTimeout _ | .ammaFetch _ | .ammaFetchEnd _ | .ammaComputeEnd _ | .ardRowLand _ | .repIteration _ _
  | .crucibleCommandArrival _ | .atqAccept _ | .atqTileFetch _ _ | .atqResult _ _ | .heldResultWrite _ _
  | .kvSpill _ _ | .kvFill _ _ | .headCopy _ | .genCommandStart _ | .bloomQueueArrival _ | .collectiveJoin _
  | .collectiveTimeout _ | .collectiveResult _ | .launchRecordCheck _ | .gridAdmission _ | .qtailWrite _ _
  | .hostRegisterWrite _ | .contextEntrySignal _ _ | .messageArrival _ | .overflowReturn _ _ | .readyEntryFill _ _
  | .taskStart _ _ | .depTableEntry _ | .spawnReady _ _ | .eventHomeArrival _ | .wdog _ _ | .gridTimeout _
  | .gridEnd _ | .preemptRequest _ | .contextSave _ | .contextRestore _ _ | .gangSliceInstant _ | .gangDecision _
  | .gateTimeout _ _ | .gateBatchForm _ _ | .gateBatchSend _ _ | .sjoinWaitComplete _ | .migreq _
  | .migrationReceipt _ | .migack _ _ _ | .migrationTimeout _ | .gang _ | .tsync _ _ | .tsyncPeriod | .host _ _
  | .link _ _ | .reservedPacketDrop _ _ | .linkFailure _ | .hwUe _ _ _ | .gridFaultEnd _ | .windowOpArrival _
  | .contextRemoval _ | .removalTimeout _ | .packageReset _ | .replayDivergence _ _ | .quench | .quenchAbortTimeout
  | .firmwareVerify _ _ _ | .attestationRequest _ | .timeUntilDeadline _ _ | .tidReplicaUpdate _ | .powerLimit _ => true
  | _ => false

end Sys2Proof.Spec

/-- R20, R30 to R41, R47 and R317: decoding the word of a well-formed instruction of a cell or of the mask unit gives
that instruction back with every operand, whatever its value; every instruction of a cell or of the mask unit has a word, and
a step of another agent has none; and what a word decodes to is well-formed. -/
def Obligations.DecodeOfEncode : Prop :=
  (∀ (i : Instr), i.wf = true → (∀ w, encode i = some (.cell w) → decodeCell w = .ok i) ∧
    (∀ w, encode i = some (.mask w) → decodeMask w = .ok i)) ∧
  (∀ i : Instr, encode i = none ↔ Sys2Proof.Spec.otherAgent i = true) ∧
  (∀ w i, decodeCell w = .ok i → i.wf = true ∧ ∃ x, encode i = some (.cell x)) ∧
  ∀ w i, decodeMask w = .ok i → i.wf = true ∧ ∃ x, encode i = some (.mask x)

/-- Every step of the machine keeps the memory's canonical form: addresses rising, no byte listed that reads as an
unlisted one does. The form is the model's own, and the statement is about the model (log 2). -/
def Obligations.StepsKeepTheMemoryForm : Prop :=
  ∀ (s t : State), s.Inv → step s = .next t → t.Inv

/-- R194, R357, R440 and R441: after reset the memory has its canonical form, no grid, task, flight or
launch is there, the queues and areas are unset, st and the loop registers read zero, and no loop is armed. That the
other scalar registers, the vectors and the memory read zero is the model's choice (log 1, log 2). -/
def Obligations.ResetState : Prop :=
  let s := State.reset
  s.Inv ∧ s.grids = [] ∧ s.fly = [] ∧ s.gt = 0 ∧ s.plat.msgArea = [] ∧ s.plat.evArea = [] ∧ s.plat.lockArea = [] ∧ s.plat.hearthArea = [] ∧
    s.plat.gangArea = none ∧ s.plat.coords = none ∧
    ∀ (c : Nat) (hi : Bool) (r : RegSpec) (q a : Nat),
      (s.bank c hi).task = none ∧ (s.cell c).qlo = [] ∧ (s.cell c).qhi = [] ∧
      readReg s.gt (s.bank c hi) 0x8A#8 = 0 ∧ (∀ r ∈ [0x90#8, 0x91#8, 0x92#8, 0x93#8, 0x94#8, 0x95#8], readReg s.gt (s.bank c hi) r = 0) ∧
      armed (s.bank c hi) false = false ∧ armed (s.bank c hi) true = false ∧
      (s.lq q).base = 0 ∧ (s.lq q).head = 0 ∧ (s.lq q).tail = 0 ∧
      (r.isS = true → readReg s.gt (s.bank c hi) r = 0) ∧ readVec (s.bank c hi) r = 0 ∧ memGet s.mem a = 0
end

