-- ==== Sys2Proof/Laws/State.lean ====
section
/-!
SUPPORT. Laws/State.lean: what each update of the state leaves and writes, field by field, and the laws of the
tables that the state is made of.
-/

namespace Sys2Proof.Machine

/-! ### Updates, field by field -/

@[simp] theorem State.setCell_gt (s : State) (c : Nat) (x : Cell) : (s.setCell c x).gt = s.gt := rfl
@[simp] theorem State.setCell_cur (s : State) (c : Nat) (x : Cell) : (s.setCell c x).cur = s.cur := rfl
@[simp] theorem State.setCell_sched (s : State) (c : Nat) (x : Cell) : (s.setCell c x).sched = s.sched := rfl
@[simp] theorem State.setCell_fresh (s : State) (c : Nat) (x : Cell) : (s.setCell c x).fresh = s.fresh := rfl
@[simp] theorem State.setCell_serial (s : State) (c : Nat) (x : Cell) : (s.setCell c x).serial = s.serial := rfl
@[simp] theorem State.setCell_mem (s : State) (c : Nat) (x : Cell) : (s.setCell c x).mem = s.mem := rfl
@[simp] theorem State.setCell_poison (s : State) (c : Nat) (x : Cell) : (s.setCell c x).poison = s.poison := rfl
@[simp] theorem State.setCell_weak (s : State) (c : Nat) (x : Cell) : (s.setCell c x).weak = s.weak := rfl
@[simp] theorem State.setCell_cells (s : State) (c : Nat) (x : Cell) : (s.setCell c x).cells = put s.cells c x := rfl
@[simp] theorem State.setCell_clusters (s : State) (c : Nat) (x : Cell) : (s.setCell c x).clusters = s.clusters := rfl
@[simp] theorem State.setCell_dies (s : State) (c : Nat) (x : Cell) : (s.setCell c x).dies = s.dies := rfl
@[simp] theorem State.setCell_crucs (s : State) (c : Nat) (x : Cell) : (s.setCell c x).crucs = s.crucs := rfl
@[simp] theorem State.setCell_grids (s : State) (c : Nat) (x : Cell) : (s.setCell c x).grids = s.grids := rfl
@[simp] theorem State.setCell_ctx (s : State) (c : Nat) (x : Cell) : (s.setCell c x).ctx = s.ctx := rfl
@[simp] theorem State.setCell_steps (s : State) (c : Nat) (x : Cell) : (s.setCell c x).steps = s.steps := rfl
@[simp] theorem State.setCell_colls (s : State) (c : Nat) (x : Cell) : (s.setCell c x).colls = s.colls := rfl
@[simp] theorem State.setCell_fly (s : State) (c : Nat) (x : Cell) : (s.setCell c x).fly = s.fly := rfl
@[simp] theorem State.setCell_plat (s : State) (c : Nat) (x : Cell) : (s.setCell c x).plat = s.plat := rfl

@[simp] theorem State.mapCell_gt (s : State) (c : Nat) (f : Cell → Cell) : (s.mapCell c f).gt = s.gt := rfl
@[simp] theorem State.mapCell_cur (s : State) (c : Nat) (f : Cell → Cell) : (s.mapCell c f).cur = s.cur := rfl
@[simp] theorem State.mapCell_sched (s : State) (c : Nat) (f : Cell → Cell) : (s.mapCell c f).sched = s.sched := rfl
@[simp] theorem State.mapCell_fresh (s : State) (c : Nat) (f : Cell → Cell) : (s.mapCell c f).fresh = s.fresh := rfl
@[simp] theorem State.mapCell_serial (s : State) (c : Nat) (f : Cell → Cell) : (s.mapCell c f).serial = s.serial := rfl
@[simp] theorem State.mapCell_mem (s : State) (c : Nat) (f : Cell → Cell) : (s.mapCell c f).mem = s.mem := rfl
@[simp] theorem State.mapCell_poison (s : State) (c : Nat) (f : Cell → Cell) : (s.mapCell c f).poison = s.poison := rfl
@[simp] theorem State.mapCell_weak (s : State) (c : Nat) (f : Cell → Cell) : (s.mapCell c f).weak = s.weak := rfl
@[simp] theorem State.mapCell_cells (s : State) (c : Nat) (f : Cell → Cell) : (s.mapCell c f).cells = put s.cells c (f (s.cell c)) := rfl
@[simp] theorem State.mapCell_clusters (s : State) (c : Nat) (f : Cell → Cell) : (s.mapCell c f).clusters = s.clusters := rfl
@[simp] theorem State.mapCell_dies (s : State) (c : Nat) (f : Cell → Cell) : (s.mapCell c f).dies = s.dies := rfl
@[simp] theorem State.mapCell_crucs (s : State) (c : Nat) (f : Cell → Cell) : (s.mapCell c f).crucs = s.crucs := rfl
@[simp] theorem State.mapCell_grids (s : State) (c : Nat) (f : Cell → Cell) : (s.mapCell c f).grids = s.grids := rfl
@[simp] theorem State.mapCell_ctx (s : State) (c : Nat) (f : Cell → Cell) : (s.mapCell c f).ctx = s.ctx := rfl
@[simp] theorem State.mapCell_steps (s : State) (c : Nat) (f : Cell → Cell) : (s.mapCell c f).steps = s.steps := rfl
@[simp] theorem State.mapCell_colls (s : State) (c : Nat) (f : Cell → Cell) : (s.mapCell c f).colls = s.colls := rfl
@[simp] theorem State.mapCell_fly (s : State) (c : Nat) (f : Cell → Cell) : (s.mapCell c f).fly = s.fly := rfl
@[simp] theorem State.mapCell_plat (s : State) (c : Nat) (f : Cell → Cell) : (s.mapCell c f).plat = s.plat := rfl

@[simp] theorem State.mapBank_gt (s : State) (c : Nat) (hi : Bool) (f : Bank → Bank) : (s.mapBank c hi f).gt = s.gt := rfl
@[simp] theorem State.mapBank_cur (s : State) (c : Nat) (hi : Bool) (f : Bank → Bank) : (s.mapBank c hi f).cur = s.cur := rfl
@[simp] theorem State.mapBank_sched (s : State) (c : Nat) (hi : Bool) (f : Bank → Bank) : (s.mapBank c hi f).sched = s.sched := rfl
@[simp] theorem State.mapBank_fresh (s : State) (c : Nat) (hi : Bool) (f : Bank → Bank) : (s.mapBank c hi f).fresh = s.fresh := rfl
@[simp] theorem State.mapBank_serial (s : State) (c : Nat) (hi : Bool) (f : Bank → Bank) : (s.mapBank c hi f).serial = s.serial := rfl
@[simp] theorem State.mapBank_mem (s : State) (c : Nat) (hi : Bool) (f : Bank → Bank) : (s.mapBank c hi f).mem = s.mem := rfl
@[simp] theorem State.mapBank_poison (s : State) (c : Nat) (hi : Bool) (f : Bank → Bank) : (s.mapBank c hi f).poison = s.poison := rfl
@[simp] theorem State.mapBank_weak (s : State) (c : Nat) (hi : Bool) (f : Bank → Bank) : (s.mapBank c hi f).weak = s.weak := rfl
@[simp] theorem State.mapBank_clusters (s : State) (c : Nat) (hi : Bool) (f : Bank → Bank) : (s.mapBank c hi f).clusters = s.clusters := rfl
@[simp] theorem State.mapBank_dies (s : State) (c : Nat) (hi : Bool) (f : Bank → Bank) : (s.mapBank c hi f).dies = s.dies := rfl
@[simp] theorem State.mapBank_crucs (s : State) (c : Nat) (hi : Bool) (f : Bank → Bank) : (s.mapBank c hi f).crucs = s.crucs := rfl
@[simp] theorem State.mapBank_grids (s : State) (c : Nat) (hi : Bool) (f : Bank → Bank) : (s.mapBank c hi f).grids = s.grids := rfl
@[simp] theorem State.mapBank_ctx (s : State) (c : Nat) (hi : Bool) (f : Bank → Bank) : (s.mapBank c hi f).ctx = s.ctx := rfl
@[simp] theorem State.mapBank_steps (s : State) (c : Nat) (hi : Bool) (f : Bank → Bank) : (s.mapBank c hi f).steps = s.steps := rfl
@[simp] theorem State.mapBank_colls (s : State) (c : Nat) (hi : Bool) (f : Bank → Bank) : (s.mapBank c hi f).colls = s.colls := rfl
@[simp] theorem State.mapBank_fly (s : State) (c : Nat) (hi : Bool) (f : Bank → Bank) : (s.mapBank c hi f).fly = s.fly := rfl
@[simp] theorem State.mapBank_plat (s : State) (c : Nat) (hi : Bool) (f : Bank → Bank) : (s.mapBank c hi f).plat = s.plat := rfl

@[simp] theorem State.mapB_gt (s : State) (f : Bank → Bank) : (s.mapB f).gt = s.gt := rfl
@[simp] theorem State.mapB_cur (s : State) (f : Bank → Bank) : (s.mapB f).cur = s.cur := rfl
@[simp] theorem State.mapB_sched (s : State) (f : Bank → Bank) : (s.mapB f).sched = s.sched := rfl
@[simp] theorem State.mapB_fresh (s : State) (f : Bank → Bank) : (s.mapB f).fresh = s.fresh := rfl
@[simp] theorem State.mapB_serial (s : State) (f : Bank → Bank) : (s.mapB f).serial = s.serial := rfl
@[simp] theorem State.mapB_mem (s : State) (f : Bank → Bank) : (s.mapB f).mem = s.mem := rfl
@[simp] theorem State.mapB_poison (s : State) (f : Bank → Bank) : (s.mapB f).poison = s.poison := rfl
@[simp] theorem State.mapB_weak (s : State) (f : Bank → Bank) : (s.mapB f).weak = s.weak := rfl
@[simp] theorem State.mapB_clusters (s : State) (f : Bank → Bank) : (s.mapB f).clusters = s.clusters := rfl
@[simp] theorem State.mapB_dies (s : State) (f : Bank → Bank) : (s.mapB f).dies = s.dies := rfl
@[simp] theorem State.mapB_crucs (s : State) (f : Bank → Bank) : (s.mapB f).crucs = s.crucs := rfl
@[simp] theorem State.mapB_grids (s : State) (f : Bank → Bank) : (s.mapB f).grids = s.grids := rfl
@[simp] theorem State.mapB_ctx (s : State) (f : Bank → Bank) : (s.mapB f).ctx = s.ctx := rfl
@[simp] theorem State.mapB_steps (s : State) (f : Bank → Bank) : (s.mapB f).steps = s.steps := rfl
@[simp] theorem State.mapB_colls (s : State) (f : Bank → Bank) : (s.mapB f).colls = s.colls := rfl
@[simp] theorem State.mapB_fly (s : State) (f : Bank → Bank) : (s.mapB f).fly = s.fly := rfl
@[simp] theorem State.mapB_plat (s : State) (f : Bank → Bank) : (s.mapB f).plat = s.plat := rfl

@[simp] theorem State.mapT_gt (s : State) (f : Task → Task) : (s.mapT f).gt = s.gt := rfl
@[simp] theorem State.mapT_cur (s : State) (f : Task → Task) : (s.mapT f).cur = s.cur := rfl
@[simp] theorem State.mapT_sched (s : State) (f : Task → Task) : (s.mapT f).sched = s.sched := rfl
@[simp] theorem State.mapT_fresh (s : State) (f : Task → Task) : (s.mapT f).fresh = s.fresh := rfl
@[simp] theorem State.mapT_serial (s : State) (f : Task → Task) : (s.mapT f).serial = s.serial := rfl
@[simp] theorem State.mapT_mem (s : State) (f : Task → Task) : (s.mapT f).mem = s.mem := rfl
@[simp] theorem State.mapT_poison (s : State) (f : Task → Task) : (s.mapT f).poison = s.poison := rfl
@[simp] theorem State.mapT_weak (s : State) (f : Task → Task) : (s.mapT f).weak = s.weak := rfl
@[simp] theorem State.mapT_clusters (s : State) (f : Task → Task) : (s.mapT f).clusters = s.clusters := rfl
@[simp] theorem State.mapT_dies (s : State) (f : Task → Task) : (s.mapT f).dies = s.dies := rfl
@[simp] theorem State.mapT_crucs (s : State) (f : Task → Task) : (s.mapT f).crucs = s.crucs := rfl
@[simp] theorem State.mapT_grids (s : State) (f : Task → Task) : (s.mapT f).grids = s.grids := rfl
@[simp] theorem State.mapT_ctx (s : State) (f : Task → Task) : (s.mapT f).ctx = s.ctx := rfl
@[simp] theorem State.mapT_steps (s : State) (f : Task → Task) : (s.mapT f).steps = s.steps := rfl
@[simp] theorem State.mapT_colls (s : State) (f : Task → Task) : (s.mapT f).colls = s.colls := rfl
@[simp] theorem State.mapT_fly (s : State) (f : Task → Task) : (s.mapT f).fly = s.fly := rfl
@[simp] theorem State.mapT_plat (s : State) (f : Task → Task) : (s.mapT f).plat = s.plat := rfl

@[simp] theorem State.wr_gt (s : State) (r : RegSpec) (v : Word) : (s.wr r v).gt = s.gt := rfl
@[simp] theorem State.wr_cur (s : State) (r : RegSpec) (v : Word) : (s.wr r v).cur = s.cur := rfl
@[simp] theorem State.wr_sched (s : State) (r : RegSpec) (v : Word) : (s.wr r v).sched = s.sched := rfl
@[simp] theorem State.wr_fresh (s : State) (r : RegSpec) (v : Word) : (s.wr r v).fresh = s.fresh := rfl
@[simp] theorem State.wr_serial (s : State) (r : RegSpec) (v : Word) : (s.wr r v).serial = s.serial := rfl
@[simp] theorem State.wr_mem (s : State) (r : RegSpec) (v : Word) : (s.wr r v).mem = s.mem := rfl
@[simp] theorem State.wr_poison (s : State) (r : RegSpec) (v : Word) : (s.wr r v).poison = s.poison := rfl
@[simp] theorem State.wr_weak (s : State) (r : RegSpec) (v : Word) : (s.wr r v).weak = s.weak := rfl
@[simp] theorem State.wr_clusters (s : State) (r : RegSpec) (v : Word) : (s.wr r v).clusters = s.clusters := rfl
@[simp] theorem State.wr_dies (s : State) (r : RegSpec) (v : Word) : (s.wr r v).dies = s.dies := rfl
@[simp] theorem State.wr_crucs (s : State) (r : RegSpec) (v : Word) : (s.wr r v).crucs = s.crucs := rfl
@[simp] theorem State.wr_grids (s : State) (r : RegSpec) (v : Word) : (s.wr r v).grids = s.grids := rfl
@[simp] theorem State.wr_ctx (s : State) (r : RegSpec) (v : Word) : (s.wr r v).ctx = s.ctx := rfl
@[simp] theorem State.wr_steps (s : State) (r : RegSpec) (v : Word) : (s.wr r v).steps = s.steps := rfl
@[simp] theorem State.wr_colls (s : State) (r : RegSpec) (v : Word) : (s.wr r v).colls = s.colls := rfl
@[simp] theorem State.wr_fly (s : State) (r : RegSpec) (v : Word) : (s.wr r v).fly = s.fly := rfl
@[simp] theorem State.wr_plat (s : State) (r : RegSpec) (v : Word) : (s.wr r v).plat = s.plat := rfl

@[simp] theorem State.wrV_gt (s : State) (r : RegSpec) (v : Vec) : (s.wrV r v).gt = s.gt := rfl
@[simp] theorem State.wrV_cur (s : State) (r : RegSpec) (v : Vec) : (s.wrV r v).cur = s.cur := rfl
@[simp] theorem State.wrV_sched (s : State) (r : RegSpec) (v : Vec) : (s.wrV r v).sched = s.sched := rfl
@[simp] theorem State.wrV_fresh (s : State) (r : RegSpec) (v : Vec) : (s.wrV r v).fresh = s.fresh := rfl
@[simp] theorem State.wrV_serial (s : State) (r : RegSpec) (v : Vec) : (s.wrV r v).serial = s.serial := rfl
@[simp] theorem State.wrV_mem (s : State) (r : RegSpec) (v : Vec) : (s.wrV r v).mem = s.mem := rfl
@[simp] theorem State.wrV_poison (s : State) (r : RegSpec) (v : Vec) : (s.wrV r v).poison = s.poison := rfl
@[simp] theorem State.wrV_weak (s : State) (r : RegSpec) (v : Vec) : (s.wrV r v).weak = s.weak := rfl
@[simp] theorem State.wrV_clusters (s : State) (r : RegSpec) (v : Vec) : (s.wrV r v).clusters = s.clusters := rfl
@[simp] theorem State.wrV_dies (s : State) (r : RegSpec) (v : Vec) : (s.wrV r v).dies = s.dies := rfl
@[simp] theorem State.wrV_crucs (s : State) (r : RegSpec) (v : Vec) : (s.wrV r v).crucs = s.crucs := rfl
@[simp] theorem State.wrV_grids (s : State) (r : RegSpec) (v : Vec) : (s.wrV r v).grids = s.grids := rfl
@[simp] theorem State.wrV_ctx (s : State) (r : RegSpec) (v : Vec) : (s.wrV r v).ctx = s.ctx := rfl
@[simp] theorem State.wrV_steps (s : State) (r : RegSpec) (v : Vec) : (s.wrV r v).steps = s.steps := rfl
@[simp] theorem State.wrV_colls (s : State) (r : RegSpec) (v : Vec) : (s.wrV r v).colls = s.colls := rfl
@[simp] theorem State.wrV_fly (s : State) (r : RegSpec) (v : Vec) : (s.wrV r v).fly = s.fly := rfl
@[simp] theorem State.wrV_plat (s : State) (r : RegSpec) (v : Vec) : (s.wrV r v).plat = s.plat := rfl

@[simp] theorem State.countCell_gt (s : State) (c n : Nat) : (s.countCell c n).gt = s.gt := rfl
@[simp] theorem State.countCell_cur (s : State) (c n : Nat) : (s.countCell c n).cur = s.cur := rfl
@[simp] theorem State.countCell_sched (s : State) (c n : Nat) : (s.countCell c n).sched = s.sched := rfl
@[simp] theorem State.countCell_fresh (s : State) (c n : Nat) : (s.countCell c n).fresh = s.fresh := rfl
@[simp] theorem State.countCell_serial (s : State) (c n : Nat) : (s.countCell c n).serial = s.serial := rfl
@[simp] theorem State.countCell_mem (s : State) (c n : Nat) : (s.countCell c n).mem = s.mem := rfl
@[simp] theorem State.countCell_poison (s : State) (c n : Nat) : (s.countCell c n).poison = s.poison := rfl
@[simp] theorem State.countCell_weak (s : State) (c n : Nat) : (s.countCell c n).weak = s.weak := rfl
@[simp] theorem State.countCell_clusters (s : State) (c n : Nat) : (s.countCell c n).clusters = s.clusters := rfl
@[simp] theorem State.countCell_dies (s : State) (c n : Nat) : (s.countCell c n).dies = s.dies := rfl
@[simp] theorem State.countCell_crucs (s : State) (c n : Nat) : (s.countCell c n).crucs = s.crucs := rfl
@[simp] theorem State.countCell_grids (s : State) (c n : Nat) : (s.countCell c n).grids = s.grids := rfl
@[simp] theorem State.countCell_ctx (s : State) (c n : Nat) : (s.countCell c n).ctx = s.ctx := rfl
@[simp] theorem State.countCell_steps (s : State) (c n : Nat) : (s.countCell c n).steps = s.steps := rfl
@[simp] theorem State.countCell_colls (s : State) (c n : Nat) : (s.countCell c n).colls = s.colls := rfl
@[simp] theorem State.countCell_fly (s : State) (c n : Nat) : (s.countCell c n).fly = s.fly := rfl
@[simp] theorem State.countCell_plat (s : State) (c n : Nat) : (s.countCell c n).plat = s.plat := rfl

@[simp] theorem State.mapCluster_gt (s : State) (c : Nat) (f : Cluster → Cluster) : (s.mapCluster c f).gt = s.gt := rfl
@[simp] theorem State.mapCluster_cur (s : State) (c : Nat) (f : Cluster → Cluster) : (s.mapCluster c f).cur = s.cur := rfl
@[simp] theorem State.mapCluster_sched (s : State) (c : Nat) (f : Cluster → Cluster) : (s.mapCluster c f).sched = s.sched := rfl
@[simp] theorem State.mapCluster_fresh (s : State) (c : Nat) (f : Cluster → Cluster) : (s.mapCluster c f).fresh = s.fresh := rfl
@[simp] theorem State.mapCluster_serial (s : State) (c : Nat) (f : Cluster → Cluster) : (s.mapCluster c f).serial = s.serial := rfl
@[simp] theorem State.mapCluster_mem (s : State) (c : Nat) (f : Cluster → Cluster) : (s.mapCluster c f).mem = s.mem := rfl
@[simp] theorem State.mapCluster_poison (s : State) (c : Nat) (f : Cluster → Cluster) : (s.mapCluster c f).poison = s.poison := rfl
@[simp] theorem State.mapCluster_weak (s : State) (c : Nat) (f : Cluster → Cluster) : (s.mapCluster c f).weak = s.weak := rfl
@[simp] theorem State.mapCluster_cells (s : State) (c : Nat) (f : Cluster → Cluster) : (s.mapCluster c f).cells = s.cells := rfl
@[simp] theorem State.mapCluster_clusters (s : State) (c : Nat) (f : Cluster → Cluster) : (s.mapCluster c f).clusters = put s.clusters c (f (s.cluster c)) := rfl
@[simp] theorem State.mapCluster_dies (s : State) (c : Nat) (f : Cluster → Cluster) : (s.mapCluster c f).dies = s.dies := rfl
@[simp] theorem State.mapCluster_crucs (s : State) (c : Nat) (f : Cluster → Cluster) : (s.mapCluster c f).crucs = s.crucs := rfl
@[simp] theorem State.mapCluster_grids (s : State) (c : Nat) (f : Cluster → Cluster) : (s.mapCluster c f).grids = s.grids := rfl
@[simp] theorem State.mapCluster_ctx (s : State) (c : Nat) (f : Cluster → Cluster) : (s.mapCluster c f).ctx = s.ctx := rfl
@[simp] theorem State.mapCluster_steps (s : State) (c : Nat) (f : Cluster → Cluster) : (s.mapCluster c f).steps = s.steps := rfl
@[simp] theorem State.mapCluster_colls (s : State) (c : Nat) (f : Cluster → Cluster) : (s.mapCluster c f).colls = s.colls := rfl
@[simp] theorem State.mapCluster_fly (s : State) (c : Nat) (f : Cluster → Cluster) : (s.mapCluster c f).fly = s.fly := rfl
@[simp] theorem State.mapCluster_plat (s : State) (c : Nat) (f : Cluster → Cluster) : (s.mapCluster c f).plat = s.plat := rfl

@[simp] theorem State.mapDie_gt (s : State) (d : Nat) (f : Die → Die) : (s.mapDie d f).gt = s.gt := rfl
@[simp] theorem State.mapDie_cur (s : State) (d : Nat) (f : Die → Die) : (s.mapDie d f).cur = s.cur := rfl
@[simp] theorem State.mapDie_sched (s : State) (d : Nat) (f : Die → Die) : (s.mapDie d f).sched = s.sched := rfl
@[simp] theorem State.mapDie_fresh (s : State) (d : Nat) (f : Die → Die) : (s.mapDie d f).fresh = s.fresh := rfl
@[simp] theorem State.mapDie_serial (s : State) (d : Nat) (f : Die → Die) : (s.mapDie d f).serial = s.serial := rfl
@[simp] theorem State.mapDie_mem (s : State) (d : Nat) (f : Die → Die) : (s.mapDie d f).mem = s.mem := rfl
@[simp] theorem State.mapDie_poison (s : State) (d : Nat) (f : Die → Die) : (s.mapDie d f).poison = s.poison := rfl
@[simp] theorem State.mapDie_weak (s : State) (d : Nat) (f : Die → Die) : (s.mapDie d f).weak = s.weak := rfl
@[simp] theorem State.mapDie_cells (s : State) (d : Nat) (f : Die → Die) : (s.mapDie d f).cells = s.cells := rfl
@[simp] theorem State.mapDie_clusters (s : State) (d : Nat) (f : Die → Die) : (s.mapDie d f).clusters = s.clusters := rfl
@[simp] theorem State.mapDie_dies (s : State) (d : Nat) (f : Die → Die) : (s.mapDie d f).dies = put s.dies d (f (s.die d)) := rfl
@[simp] theorem State.mapDie_crucs (s : State) (d : Nat) (f : Die → Die) : (s.mapDie d f).crucs = s.crucs := rfl
@[simp] theorem State.mapDie_grids (s : State) (d : Nat) (f : Die → Die) : (s.mapDie d f).grids = s.grids := rfl
@[simp] theorem State.mapDie_ctx (s : State) (d : Nat) (f : Die → Die) : (s.mapDie d f).ctx = s.ctx := rfl
@[simp] theorem State.mapDie_steps (s : State) (d : Nat) (f : Die → Die) : (s.mapDie d f).steps = s.steps := rfl
@[simp] theorem State.mapDie_colls (s : State) (d : Nat) (f : Die → Die) : (s.mapDie d f).colls = s.colls := rfl
@[simp] theorem State.mapDie_fly (s : State) (d : Nat) (f : Die → Die) : (s.mapDie d f).fly = s.fly := rfl
@[simp] theorem State.mapDie_plat (s : State) (d : Nat) (f : Die → Die) : (s.mapDie d f).plat = s.plat := rfl

@[simp] theorem State.countDie_gt (s : State) (d g n : Nat) : (s.countDie d g n).gt = s.gt := rfl
@[simp] theorem State.countDie_cur (s : State) (d g n : Nat) : (s.countDie d g n).cur = s.cur := rfl
@[simp] theorem State.countDie_sched (s : State) (d g n : Nat) : (s.countDie d g n).sched = s.sched := rfl
@[simp] theorem State.countDie_fresh (s : State) (d g n : Nat) : (s.countDie d g n).fresh = s.fresh := rfl
@[simp] theorem State.countDie_serial (s : State) (d g n : Nat) : (s.countDie d g n).serial = s.serial := rfl
@[simp] theorem State.countDie_mem (s : State) (d g n : Nat) : (s.countDie d g n).mem = s.mem := rfl
@[simp] theorem State.countDie_poison (s : State) (d g n : Nat) : (s.countDie d g n).poison = s.poison := rfl
@[simp] theorem State.countDie_weak (s : State) (d g n : Nat) : (s.countDie d g n).weak = s.weak := rfl
@[simp] theorem State.countDie_cells (s : State) (d g n : Nat) : (s.countDie d g n).cells = s.cells := rfl
@[simp] theorem State.countDie_clusters (s : State) (d g n : Nat) : (s.countDie d g n).clusters = s.clusters := rfl
@[simp] theorem State.countDie_crucs (s : State) (d g n : Nat) : (s.countDie d g n).crucs = s.crucs := rfl
@[simp] theorem State.countDie_grids (s : State) (d g n : Nat) : (s.countDie d g n).grids = s.grids := rfl
@[simp] theorem State.countDie_ctx (s : State) (d g n : Nat) : (s.countDie d g n).ctx = s.ctx := rfl
@[simp] theorem State.countDie_steps (s : State) (d g n : Nat) : (s.countDie d g n).steps = s.steps := rfl
@[simp] theorem State.countDie_colls (s : State) (d g n : Nat) : (s.countDie d g n).colls = s.colls := rfl
@[simp] theorem State.countDie_fly (s : State) (d g n : Nat) : (s.countDie d g n).fly = s.fly := rfl
@[simp] theorem State.countDie_plat (s : State) (d g n : Nat) : (s.countDie d g n).plat = s.plat := rfl

@[simp] theorem State.mapCruc_gt (s : State) (k : Nat) (f : Crucible → Crucible) : (s.mapCruc k f).gt = s.gt := rfl
@[simp] theorem State.mapCruc_cur (s : State) (k : Nat) (f : Crucible → Crucible) : (s.mapCruc k f).cur = s.cur := rfl
@[simp] theorem State.mapCruc_sched (s : State) (k : Nat) (f : Crucible → Crucible) : (s.mapCruc k f).sched = s.sched := rfl
@[simp] theorem State.mapCruc_fresh (s : State) (k : Nat) (f : Crucible → Crucible) : (s.mapCruc k f).fresh = s.fresh := rfl
@[simp] theorem State.mapCruc_serial (s : State) (k : Nat) (f : Crucible → Crucible) : (s.mapCruc k f).serial = s.serial := rfl
@[simp] theorem State.mapCruc_mem (s : State) (k : Nat) (f : Crucible → Crucible) : (s.mapCruc k f).mem = s.mem := rfl
@[simp] theorem State.mapCruc_poison (s : State) (k : Nat) (f : Crucible → Crucible) : (s.mapCruc k f).poison = s.poison := rfl
@[simp] theorem State.mapCruc_weak (s : State) (k : Nat) (f : Crucible → Crucible) : (s.mapCruc k f).weak = s.weak := rfl
@[simp] theorem State.mapCruc_cells (s : State) (k : Nat) (f : Crucible → Crucible) : (s.mapCruc k f).cells = s.cells := rfl
@[simp] theorem State.mapCruc_clusters (s : State) (k : Nat) (f : Crucible → Crucible) : (s.mapCruc k f).clusters = s.clusters := rfl
@[simp] theorem State.mapCruc_dies (s : State) (k : Nat) (f : Crucible → Crucible) : (s.mapCruc k f).dies = s.dies := rfl
@[simp] theorem State.mapCruc_crucs (s : State) (k : Nat) (f : Crucible → Crucible) : (s.mapCruc k f).crucs = put s.crucs k (f (s.cruc k)) := rfl
@[simp] theorem State.mapCruc_grids (s : State) (k : Nat) (f : Crucible → Crucible) : (s.mapCruc k f).grids = s.grids := rfl
@[simp] theorem State.mapCruc_ctx (s : State) (k : Nat) (f : Crucible → Crucible) : (s.mapCruc k f).ctx = s.ctx := rfl
@[simp] theorem State.mapCruc_steps (s : State) (k : Nat) (f : Crucible → Crucible) : (s.mapCruc k f).steps = s.steps := rfl
@[simp] theorem State.mapCruc_colls (s : State) (k : Nat) (f : Crucible → Crucible) : (s.mapCruc k f).colls = s.colls := rfl
@[simp] theorem State.mapCruc_fly (s : State) (k : Nat) (f : Crucible → Crucible) : (s.mapCruc k f).fly = s.fly := rfl
@[simp] theorem State.mapCruc_plat (s : State) (k : Nat) (f : Crucible → Crucible) : (s.mapCruc k f).plat = s.plat := rfl

@[simp] theorem State.mapPlat_gt (s : State) (f : Plat → Plat) : (s.mapPlat f).gt = s.gt := rfl
@[simp] theorem State.mapPlat_cur (s : State) (f : Plat → Plat) : (s.mapPlat f).cur = s.cur := rfl
@[simp] theorem State.mapPlat_sched (s : State) (f : Plat → Plat) : (s.mapPlat f).sched = s.sched := rfl
@[simp] theorem State.mapPlat_fresh (s : State) (f : Plat → Plat) : (s.mapPlat f).fresh = s.fresh := rfl
@[simp] theorem State.mapPlat_serial (s : State) (f : Plat → Plat) : (s.mapPlat f).serial = s.serial := rfl
@[simp] theorem State.mapPlat_mem (s : State) (f : Plat → Plat) : (s.mapPlat f).mem = s.mem := rfl
@[simp] theorem State.mapPlat_poison (s : State) (f : Plat → Plat) : (s.mapPlat f).poison = s.poison := rfl
@[simp] theorem State.mapPlat_weak (s : State) (f : Plat → Plat) : (s.mapPlat f).weak = s.weak := rfl
@[simp] theorem State.mapPlat_cells (s : State) (f : Plat → Plat) : (s.mapPlat f).cells = s.cells := rfl
@[simp] theorem State.mapPlat_clusters (s : State) (f : Plat → Plat) : (s.mapPlat f).clusters = s.clusters := rfl
@[simp] theorem State.mapPlat_dies (s : State) (f : Plat → Plat) : (s.mapPlat f).dies = s.dies := rfl
@[simp] theorem State.mapPlat_crucs (s : State) (f : Plat → Plat) : (s.mapPlat f).crucs = s.crucs := rfl
@[simp] theorem State.mapPlat_grids (s : State) (f : Plat → Plat) : (s.mapPlat f).grids = s.grids := rfl
@[simp] theorem State.mapPlat_ctx (s : State) (f : Plat → Plat) : (s.mapPlat f).ctx = s.ctx := rfl
@[simp] theorem State.mapPlat_steps (s : State) (f : Plat → Plat) : (s.mapPlat f).steps = s.steps := rfl
@[simp] theorem State.mapPlat_colls (s : State) (f : Plat → Plat) : (s.mapPlat f).colls = s.colls := rfl
@[simp] theorem State.mapPlat_fly (s : State) (f : Plat → Plat) : (s.mapPlat f).fly = s.fly := rfl
@[simp] theorem State.mapPlat_plat (s : State) (f : Plat → Plat) : (s.mapPlat f).plat = f s.plat := rfl

@[simp] theorem State.mapMem_gt (s : State) (f : List Host.Cell → List Host.Cell) : (s.mapMem f).gt = s.gt := rfl
@[simp] theorem State.mapMem_cur (s : State) (f : List Host.Cell → List Host.Cell) : (s.mapMem f).cur = s.cur := rfl
@[simp] theorem State.mapMem_sched (s : State) (f : List Host.Cell → List Host.Cell) : (s.mapMem f).sched = s.sched := rfl
@[simp] theorem State.mapMem_fresh (s : State) (f : List Host.Cell → List Host.Cell) : (s.mapMem f).fresh = s.fresh := rfl
@[simp] theorem State.mapMem_serial (s : State) (f : List Host.Cell → List Host.Cell) : (s.mapMem f).serial = s.serial := rfl
@[simp] theorem State.mapMem_mem (s : State) (f : List Host.Cell → List Host.Cell) : (s.mapMem f).mem = f s.mem := rfl
@[simp] theorem State.mapMem_poison (s : State) (f : List Host.Cell → List Host.Cell) : (s.mapMem f).poison = s.poison := rfl
@[simp] theorem State.mapMem_weak (s : State) (f : List Host.Cell → List Host.Cell) : (s.mapMem f).weak = s.weak := rfl
@[simp] theorem State.mapMem_cells (s : State) (f : List Host.Cell → List Host.Cell) : (s.mapMem f).cells = s.cells := rfl
@[simp] theorem State.mapMem_clusters (s : State) (f : List Host.Cell → List Host.Cell) : (s.mapMem f).clusters = s.clusters := rfl
@[simp] theorem State.mapMem_dies (s : State) (f : List Host.Cell → List Host.Cell) : (s.mapMem f).dies = s.dies := rfl
@[simp] theorem State.mapMem_crucs (s : State) (f : List Host.Cell → List Host.Cell) : (s.mapMem f).crucs = s.crucs := rfl
@[simp] theorem State.mapMem_grids (s : State) (f : List Host.Cell → List Host.Cell) : (s.mapMem f).grids = s.grids := rfl
@[simp] theorem State.mapMem_ctx (s : State) (f : List Host.Cell → List Host.Cell) : (s.mapMem f).ctx = s.ctx := rfl
@[simp] theorem State.mapMem_steps (s : State) (f : List Host.Cell → List Host.Cell) : (s.mapMem f).steps = s.steps := rfl
@[simp] theorem State.mapMem_colls (s : State) (f : List Host.Cell → List Host.Cell) : (s.mapMem f).colls = s.colls := rfl
@[simp] theorem State.mapMem_fly (s : State) (f : List Host.Cell → List Host.Cell) : (s.mapMem f).fly = s.fly := rfl
@[simp] theorem State.mapMem_plat (s : State) (f : List Host.Cell → List Host.Cell) : (s.mapMem f).plat = s.plat := rfl

@[simp] theorem State.send_gt (s : State) (c : Nat) (f : Flight) : (s.send c f).gt = s.gt := rfl
@[simp] theorem State.send_cur (s : State) (c : Nat) (f : Flight) : (s.send c f).cur = s.cur := rfl
@[simp] theorem State.send_sched (s : State) (c : Nat) (f : Flight) : (s.send c f).sched = s.sched := rfl
@[simp] theorem State.send_fresh (s : State) (c : Nat) (f : Flight) : (s.send c f).fresh = s.fresh := rfl
@[simp] theorem State.send_serial (s : State) (c : Nat) (f : Flight) : (s.send c f).serial = s.serial + 1 := rfl
@[simp] theorem State.send_mem (s : State) (c : Nat) (f : Flight) : (s.send c f).mem = s.mem := rfl
@[simp] theorem State.send_poison (s : State) (c : Nat) (f : Flight) : (s.send c f).poison = s.poison := rfl
@[simp] theorem State.send_weak (s : State) (c : Nat) (f : Flight) : (s.send c f).weak = s.weak := rfl
@[simp] theorem State.send_cells (s : State) (c : Nat) (f : Flight) : (s.send c f).cells = s.cells := rfl
@[simp] theorem State.send_clusters (s : State) (c : Nat) (f : Flight) : (s.send c f).clusters = s.clusters := rfl
@[simp] theorem State.send_dies (s : State) (c : Nat) (f : Flight) : (s.send c f).dies = s.dies := rfl
@[simp] theorem State.send_crucs (s : State) (c : Nat) (f : Flight) : (s.send c f).crucs = s.crucs := rfl
@[simp] theorem State.send_grids (s : State) (c : Nat) (f : Flight) : (s.send c f).grids = s.grids := rfl
@[simp] theorem State.send_ctx (s : State) (c : Nat) (f : Flight) : (s.send c f).ctx = s.ctx := rfl
@[simp] theorem State.send_steps (s : State) (c : Nat) (f : Flight) : (s.send c f).steps = s.steps := rfl
@[simp] theorem State.send_colls (s : State) (c : Nat) (f : Flight) : (s.send c f).colls = s.colls := rfl
@[simp] theorem State.send_fly (s : State) (c : Nat) (f : Flight) : (s.send c f).fly = s.fly ++ [{ n := s.serial, cell := c, f := f }] := rfl
@[simp] theorem State.send_plat (s : State) (c : Nat) (f : Flight) : (s.send c f).plat = s.plat := rfl

@[simp] theorem State.resend_gt (s : State) (n c : Nat) (f : Flight) : (s.resend n c f).gt = s.gt := rfl
@[simp] theorem State.resend_cur (s : State) (n c : Nat) (f : Flight) : (s.resend n c f).cur = s.cur := rfl
@[simp] theorem State.resend_sched (s : State) (n c : Nat) (f : Flight) : (s.resend n c f).sched = s.sched := rfl
@[simp] theorem State.resend_fresh (s : State) (n c : Nat) (f : Flight) : (s.resend n c f).fresh = s.fresh := rfl
@[simp] theorem State.resend_serial (s : State) (n c : Nat) (f : Flight) : (s.resend n c f).serial = s.serial := rfl
@[simp] theorem State.resend_mem (s : State) (n c : Nat) (f : Flight) : (s.resend n c f).mem = s.mem := rfl
@[simp] theorem State.resend_poison (s : State) (n c : Nat) (f : Flight) : (s.resend n c f).poison = s.poison := rfl
@[simp] theorem State.resend_weak (s : State) (n c : Nat) (f : Flight) : (s.resend n c f).weak = s.weak := rfl
@[simp] theorem State.resend_cells (s : State) (n c : Nat) (f : Flight) : (s.resend n c f).cells = s.cells := rfl
@[simp] theorem State.resend_clusters (s : State) (n c : Nat) (f : Flight) : (s.resend n c f).clusters = s.clusters := rfl
@[simp] theorem State.resend_dies (s : State) (n c : Nat) (f : Flight) : (s.resend n c f).dies = s.dies := rfl
@[simp] theorem State.resend_crucs (s : State) (n c : Nat) (f : Flight) : (s.resend n c f).crucs = s.crucs := rfl
@[simp] theorem State.resend_grids (s : State) (n c : Nat) (f : Flight) : (s.resend n c f).grids = s.grids := rfl
@[simp] theorem State.resend_ctx (s : State) (n c : Nat) (f : Flight) : (s.resend n c f).ctx = s.ctx := rfl
@[simp] theorem State.resend_steps (s : State) (n c : Nat) (f : Flight) : (s.resend n c f).steps = s.steps := rfl
@[simp] theorem State.resend_colls (s : State) (n c : Nat) (f : Flight) : (s.resend n c f).colls = s.colls := rfl
@[simp] theorem State.resend_fly (s : State) (n c : Nat) (f : Flight) : (s.resend n c f).fly = s.fly ++ [{ n := n, cell := c, f := f }] := rfl
@[simp] theorem State.resend_plat (s : State) (n c : Nat) (f : Flight) : (s.resend n c f).plat = s.plat := rfl

@[simp] theorem State.land_gt (s : State) (k : Nat) : (s.land k).gt = s.gt := rfl
@[simp] theorem State.land_cur (s : State) (k : Nat) : (s.land k).cur = s.cur := rfl
@[simp] theorem State.land_sched (s : State) (k : Nat) : (s.land k).sched = s.sched := rfl
@[simp] theorem State.land_fresh (s : State) (k : Nat) : (s.land k).fresh = s.fresh := rfl
@[simp] theorem State.land_serial (s : State) (k : Nat) : (s.land k).serial = s.serial := rfl
@[simp] theorem State.land_mem (s : State) (k : Nat) : (s.land k).mem = s.mem := rfl
@[simp] theorem State.land_poison (s : State) (k : Nat) : (s.land k).poison = s.poison := rfl
@[simp] theorem State.land_weak (s : State) (k : Nat) : (s.land k).weak = s.weak := rfl
@[simp] theorem State.land_cells (s : State) (k : Nat) : (s.land k).cells = s.cells := rfl
@[simp] theorem State.land_clusters (s : State) (k : Nat) : (s.land k).clusters = s.clusters := rfl
@[simp] theorem State.land_dies (s : State) (k : Nat) : (s.land k).dies = s.dies := rfl
@[simp] theorem State.land_crucs (s : State) (k : Nat) : (s.land k).crucs = s.crucs := rfl
@[simp] theorem State.land_grids (s : State) (k : Nat) : (s.land k).grids = s.grids := rfl
@[simp] theorem State.land_ctx (s : State) (k : Nat) : (s.land k).ctx = s.ctx := rfl
@[simp] theorem State.land_steps (s : State) (k : Nat) : (s.land k).steps = s.steps := rfl
@[simp] theorem State.land_colls (s : State) (k : Nat) : (s.land k).colls = s.colls := rfl
@[simp] theorem State.land_fly (s : State) (k : Nat) : (s.land k).fly = s.fly.eraseIdx k := rfl
@[simp] theorem State.land_plat (s : State) (k : Nat) : (s.land k).plat = s.plat := rfl

@[simp] theorem State.tick_gt (s : State) : (s.tick).gt = s.gt := rfl
@[simp] theorem State.tick_cur (s : State) : (s.tick).cur = s.cur := rfl
@[simp] theorem State.tick_sched (s : State) : (s.tick).sched = s.sched := rfl
@[simp] theorem State.tick_fresh (s : State) : (s.tick).fresh = s.fresh := rfl
@[simp] theorem State.tick_serial (s : State) : (s.tick).serial = s.serial + 1 := rfl
@[simp] theorem State.tick_mem (s : State) : (s.tick).mem = s.mem := rfl
@[simp] theorem State.tick_poison (s : State) : (s.tick).poison = s.poison := rfl
@[simp] theorem State.tick_weak (s : State) : (s.tick).weak = s.weak := rfl
@[simp] theorem State.tick_cells (s : State) : (s.tick).cells = s.cells := rfl
@[simp] theorem State.tick_clusters (s : State) : (s.tick).clusters = s.clusters := rfl
@[simp] theorem State.tick_dies (s : State) : (s.tick).dies = s.dies := rfl
@[simp] theorem State.tick_crucs (s : State) : (s.tick).crucs = s.crucs := rfl
@[simp] theorem State.tick_grids (s : State) : (s.tick).grids = s.grids := rfl
@[simp] theorem State.tick_ctx (s : State) : (s.tick).ctx = s.ctx := rfl
@[simp] theorem State.tick_steps (s : State) : (s.tick).steps = s.steps := rfl
@[simp] theorem State.tick_colls (s : State) : (s.tick).colls = s.colls := rfl
@[simp] theorem State.tick_fly (s : State) : (s.tick).fly = s.fly := rfl
@[simp] theorem State.tick_plat (s : State) : (s.tick).plat = s.plat := rfl

@[simp] theorem State.mapGrid_gt (s : State) (g : Nat) (f : Grid → Grid) : (s.mapGrid g f).gt = s.gt := by
  unfold State.mapGrid; split <;> rfl
@[simp] theorem State.mapGrid_cur (s : State) (g : Nat) (f : Grid → Grid) : (s.mapGrid g f).cur = s.cur := by
  unfold State.mapGrid; split <;> rfl
@[simp] theorem State.mapGrid_sched (s : State) (g : Nat) (f : Grid → Grid) : (s.mapGrid g f).sched = s.sched := by
  unfold State.mapGrid; split <;> rfl
@[simp] theorem State.mapGrid_fresh (s : State) (g : Nat) (f : Grid → Grid) : (s.mapGrid g f).fresh = s.fresh := by
  unfold State.mapGrid; split <;> rfl
@[simp] theorem State.mapGrid_serial (s : State) (g : Nat) (f : Grid → Grid) : (s.mapGrid g f).serial = s.serial := by
  unfold State.mapGrid; split <;> rfl
@[simp] theorem State.mapGrid_mem (s : State) (g : Nat) (f : Grid → Grid) : (s.mapGrid g f).mem = s.mem := by
  unfold State.mapGrid; split <;> rfl
@[simp] theorem State.mapGrid_poison (s : State) (g : Nat) (f : Grid → Grid) : (s.mapGrid g f).poison = s.poison := by
  unfold State.mapGrid; split <;> rfl
@[simp] theorem State.mapGrid_weak (s : State) (g : Nat) (f : Grid → Grid) : (s.mapGrid g f).weak = s.weak := by
  unfold State.mapGrid; split <;> rfl
@[simp] theorem State.mapGrid_cells (s : State) (g : Nat) (f : Grid → Grid) : (s.mapGrid g f).cells = s.cells := by
  unfold State.mapGrid; split <;> rfl
@[simp] theorem State.mapGrid_clusters (s : State) (g : Nat) (f : Grid → Grid) : (s.mapGrid g f).clusters = s.clusters := by
  unfold State.mapGrid; split <;> rfl
@[simp] theorem State.mapGrid_dies (s : State) (g : Nat) (f : Grid → Grid) : (s.mapGrid g f).dies = s.dies := by
  unfold State.mapGrid; split <;> rfl
@[simp] theorem State.mapGrid_crucs (s : State) (g : Nat) (f : Grid → Grid) : (s.mapGrid g f).crucs = s.crucs := by
  unfold State.mapGrid; split <;> rfl
@[simp] theorem State.mapGrid_ctx (s : State) (g : Nat) (f : Grid → Grid) : (s.mapGrid g f).ctx = s.ctx := by
  unfold State.mapGrid; split <;> rfl
@[simp] theorem State.mapGrid_steps (s : State) (g : Nat) (f : Grid → Grid) : (s.mapGrid g f).steps = s.steps := by
  unfold State.mapGrid; split <;> rfl
@[simp] theorem State.mapGrid_colls (s : State) (g : Nat) (f : Grid → Grid) : (s.mapGrid g f).colls = s.colls := by
  unfold State.mapGrid; split <;> rfl
@[simp] theorem State.mapGrid_fly (s : State) (g : Nat) (f : Grid → Grid) : (s.mapGrid g f).fly = s.fly := by
  unfold State.mapGrid; split <;> rfl
@[simp] theorem State.mapGrid_plat (s : State) (g : Nat) (f : Grid → Grid) : (s.mapGrid g f).plat = s.plat := by
  unfold State.mapGrid; split <;> rfl
/-! ### Tables -/

@[simp] theorem look_nil {α : Type} (k : Nat) : look ([] : Map α) k = none := rfl

theorem look_put_self {α : Type} (m : Map α) (k : Nat) (x : α) : look (put m k x) k = some x := by
  induction m with
  | nil => simp [put, look]
  | cons p r ih =>
    obtain ⟨j, y⟩ := p
    simp only [put]
    split
    · simp [look]
    · split
      · simp [look]
      · simp only [look]; rw [if_neg ‹_›]; exact ih

theorem look_put_ne {α : Type} (m : Map α) (k : Nat) (x : α) (j : Nat) (h : j ≠ k) : look (put m k x) j = look m j := by
  induction m with
  | nil => simp [put, look, h.symm]
  | cons p r ih =>
    obtain ⟨i, y⟩ := p
    simp only [put]
    split
    · subst_vars; simp [look, h.symm]
    · split
      · simp [look, h.symm]
      · simp only [look, ih]

/-- What a table holds after one of its keys is written. -/
@[simp] theorem look_put {α : Type} (m : Map α) (k : Nat) (x : α) (j : Nat) :
    look (put m k x) j = if j = k then some x else look m j := by
  split
  · subst_vars; exact look_put_self ..
  · exact look_put_ne _ _ _ _ ‹_›

@[simp] theorem lookD_put {α : Type} (m : Map α) (k : Nat) (x d : α) (j : Nat) :
    lookD (put m k x) j d = if j = k then x else lookD m j d := by
  simp only [lookD, look_put]; split <;> rfl

/-! ### Cells and banks -/

@[simp] theorem State.setCell_cell (s : State) (c d : Nat) (x : Cell) :
    (s.setCell c x).cell d = if d = c then x else s.cell d := by simp [State.cell]

@[simp] theorem State.mapCell_cell (s : State) (c d : Nat) (f : Cell → Cell) :
    (s.mapCell c f).cell d = if d = c then f (s.cell c) else s.cell d := by simp [State.mapCell]

@[simp] theorem Cell.setBank_bank (x : Cell) (h k : Bool) (b : Bank) :
    (x.setBank h b).bank k = if k = h then b else x.bank k := by
  cases h <;> cases k <;> rfl

/-- A bank after one is changed. -/
@[simp] theorem State.mapBank_bank (s : State) (c d : Nat) (h k : Bool) (f : Bank → Bank) :
    (s.mapBank c h f).bank d k = if d = c ∧ k = h then f (s.bank c h) else s.bank d k := by
  simp only [State.bank, State.mapBank, State.mapCell_cell]
  by_cases hd : d = c
  · subst hd; by_cases hk : k = h <;> simp [hk]
  · simp [hd]

@[simp] theorem State.mapB_bank (s : State) (d : Nat) (k : Bool) (f : Bank → Bank) :
    (s.mapB f).bank d k = if d = s.cur.cell ∧ k = s.cur.hi then f s.b else s.bank d k := by
  simp [State.mapB, State.b]

@[simp] theorem State.mapB_b (s : State) (f : Bank → Bank) : (s.mapB f).b = f s.b := by
  show (s.mapB f).bank s.cur.cell s.cur.hi = _
  simp

@[simp] theorem State.mapBank_cell (s : State) (c d : Nat) (h : Bool) (f : Bank → Bank) :
    (s.mapBank c h f).cell d = if d = c then (s.cell c).setBank h (f ((s.cell c).bank h)) else s.cell d := by
  simp [State.mapBank]

/-- The banks do not change when a counter of a cell advances. -/
@[simp] theorem State.countCell_bank (s : State) (c n d : Nat) (k : Bool) : (s.countCell c n).bank d k = s.bank d k := by
  simp only [State.bank, State.countCell, State.mapCell_cell]
  split
  · subst_vars; cases k <;> rfl
  · rfl

@[simp] theorem State.countCell_b (s : State) (c n : Nat) : (s.countCell c n).b = s.b := State.countCell_bank ..

end Sys2Proof.Machine
end

