-- ==== Sys2Proof/Laws/Budget.lean ====
section
/-!
SUPPORT. Laws/Budget.lean: what taking the slots of a budget, and a read at a home slice under it, can change.
-/

namespace Sys2Proof.Machine

/-- A slot taken changes the dies alone (R383). -/
theorem State.slot_frame {s t : State} {g d : Nat} {k : Slot} (h : s.slot g d k = some t) : t = { s with dies := t.dies } := by
  unfold State.slot at h
  split at h
  · cases h; rfl
  · simp only [Option.ite_none_right_eq_some, Option.some.injEq] at h
    rw [← h.2]; rfl

/-- Flits taken change the dies alone (R383). -/
theorem State.flits_frame {g a b : Nat} : ∀ {n : Nat} {s t : State}, s.flits g a b n = some t → t = { s with dies := t.dies }
  | 0, s, t, h => by cases h; rfl
  | n + 1, s, t, h => by
    unfold State.flits at h
    split at h
    · cases h; rfl
    · obtain ⟨u, hu, ht⟩ := Option.bind_eq_some_iff.mp h
      rw [State.flits_frame ht, State.slot_frame hu]

/-- Flits within a die are none (R383). -/
@[simp] theorem State.flits_same (s : State) (g d n : Nat) : s.flits g d d n = some s := by
  cases n <;> simp [State.flits]

/-- A request and its answer change the dies alone (R383, log 92). -/
theorem State.roundTrip_frame {s t : State} {g a b : Nat} (h : s.roundTrip g a b = some t) : t = { s with dies := t.dies } := by
  obtain ⟨u, hu, ht⟩ := Option.bind_eq_some_iff.mp h
  rw [State.flits_frame ht, State.flits_frame hu]

/-- A request within a die takes no flit (R383). -/
@[simp] theorem State.roundTrip_same (s : State) (g d : Nat) : s.roundTrip g d d = some s := by
  simp [State.roundTrip]

/-- A correction changes the dies and the lines that hold an error alone (R58). -/
theorem State.correct_frame (s : State) (g pa : Nat) : s.correct g pa = { s with dies := (s.correct g pa).dies, weak := (s.correct g pa).weak } := by
  unfold State.correct; split <;> rfl

/-- A read at a home slice changes the dies and the lines that hold an error alone (R58, R85, R383). -/
theorem State.hsRead_frame {s t : State} {g d pa : Nat} (h : s.hsRead g d pa = some t) : t = { s with dies := t.dies, weak := t.weak } := by
  obtain ⟨u, hu, h⟩ := Option.bind_eq_some_iff.mp h
  obtain ⟨v, hv, h⟩ := Option.bind_eq_some_iff.mp h
  have e : v = { s with dies := v.dies } := by rw [State.roundTrip_frame hv, State.slot_frame hu]
  split at h
  · cases h; rw [e]; rfl
  · obtain ⟨w, hw, rfl⟩ := Option.map_eq_some_iff.mp h
    have f : w = { s with dies := w.dies } := by rw [State.slot_frame hw, e]
    unfold State.hsTouch
    rw [State.correct_frame, f]; rfl

/-- The reads of a range at its home slices change no more (R86). -/
theorem State.hsReads_mem {s t : State} {g d pa n : Nat} (h : s.hsReads g d pa n = some t) : t.mem = s.mem ∧ t.cells = s.cells ∧ t.fly = s.fly := by
  unfold State.hsReads at h
  generalize List.range _ = l at h
  induction l generalizing s with
  | nil => cases h; exact ⟨rfl, rfl, rfl⟩
  | cons i l ih =>
    simp only [List.foldl_cons, Option.bind_some] at h
    cases hr : s.hsRead g d ((pa / 64 + i) * 64) with
    | none =>
      rw [hr] at h
      have stuck : ∀ m : List Nat, m.foldl (fun (s : Option State) i => s.bind (fun s => s.hsRead g d ((pa / 64 + i) * 64))) none = none := by
        intro m; induction m with
        | nil => rfl
        | cons _ _ ih => exact ih
      rw [stuck] at h; cases h
    | some u =>
      rw [hr] at h
      have := ih h
      have e := State.hsRead_frame hr
      rw [e] at this
      exact this

end Sys2Proof.Machine
end

