-- ==== Sys2Proof/Laws/Completion.lean ====
section
/-!
SUPPORT. Laws/Completion.lean: what the completion of an instruction changes: the write of a register, the
sequential flow with its loop tests, and a result that is written later.
-/

namespace Sys2Proof.Machine

/-! ### Specifiers -/

theorem rbank_eq (r : RegSpec) : rbank r = (r.extractLsb' 6 2).toNat := by
  simp [rbank, BitVec.extractLsb'_toNat, Nat.shiftRight_eq_div_pow]
  omega

theorem regSpec_ext (r q : RegSpec) (hb : rbank r = rbank q) (hi : ridx r = ridx q) : r = q := by
  apply BitVec.eq_of_toNat_eq
  simp only [rbank, ridx] at *
  omega

theorem isS_bank {r : RegSpec} (h : r.isS = true) : rbank r = 0 := by
  simp [RegSpec.isS] at h
  simp [rbank_eq, h]

theorem isV_bank {r : RegSpec} (h : r.isV = true) : rbank r = 1 := by
  simp [RegSpec.isV] at h
  simp [rbank_eq, h]

theorem ridx_lt (r : RegSpec) : ridx r < 64 := Nat.mod_lt _ (by decide)

/-! ### Reads after writes -/

/-- A write of a scalar register as one update of the bank. -/
theorem writeReg_scalar (b : Bank) (a : RegSpec) (v : Word) (ha : rbank a = 0) :
    writeReg b a v = { b with poison := b.poison.filter (· != a), tokens := del b.tokens a.toNat, s := if ridx a = 0 then b.s else put b.s (ridx a) v } := by
  unfold writeReg
  simp only [ha, if_true]
  split <;> rfl

/-- A scalar register after a write of a scalar register; s0 keeps reading zero. -/
theorem readReg_writeReg_s (gt : Word) (b : Bank) (a r : RegSpec) (v : Word) (ha : rbank a = 0) (hr : rbank r = 0) :
    readReg gt (writeReg b a v) r = if r = a ∧ a ≠ 0#8 then v else readReg gt b r := by
  have h0 : ridx a = 0 ↔ a = 0#8 :=
    ⟨fun h => regSpec_ext _ _ (by rw [ha]; rfl) (by rw [h]; rfl), by rintro rfl; rfl⟩
  rw [writeReg_scalar _ _ _ ha]
  simp only [readReg, hr, if_true]
  by_cases hz : a = 0#8
  · rw [if_neg (fun h : r = a ∧ a ≠ 0#8 => h.2 hz), if_pos (h0.mpr hz)]
  · rw [if_neg (fun h => hz (h0.mp h)), lookD_put]
    by_cases hra : r = a
    · subst hra; rw [if_neg (fun h => hz (h0.mp h)), if_pos rfl, if_pos ⟨rfl, hz⟩]
    · rw [if_neg (fun h : r = a ∧ _ => hra h.1), if_neg (fun h => hra (regSpec_ext _ _ (by rw [hr, ha]) h))]

/-- A register of another bank than 00 after a write of a scalar register. -/
theorem readReg_writeReg_other (gt : Word) (b : Bank) (a r : RegSpec) (v : Word) (ha : rbank a = 0) (hr : rbank r ≠ 0) :
    readReg gt (writeReg b a v) r = readReg gt b r := by
  rw [writeReg_scalar _ _ _ ha]
  simp only [readReg, hr, if_false]
  split <;> rfl

theorem readVec_writeReg (b : Bank) (a r : RegSpec) (v : Word) (ha : rbank a = 0) : readVec (writeReg b a v) r = readVec b r := by
  rw [writeReg_scalar _ _ _ ha]; rfl

/-! ### The flow registers -/

theorem setLc_form (c : Bank) (k on : Bool) (n : Nat) : ∃ x y, setLc c k on n = { c with lc0 := x, lc1 := y } := by
  unfold setLc
  generalize BitVec.ofNat 64 ((if on then 2 ^ 63 else 0) + n % 2 ^ 32) = v
  cases k
  · exact ⟨v, c.lc1, rfl⟩
  · exact ⟨c.lc0, v, rfl⟩

theorem loopTest_form (c : Bank) (k : Bool) : ∃ x y, (loopTest c k).1 = { c with lc0 := x, lc1 := y } := by
  have h : ∀ n : Nat, ∃ x y, (if n = 0 then (setLc c k false 0, none) else (setLc c k true n, some (loopStart c k).toNat)).1 =
      { c with lc0 := x, lc1 := y } := by
    intro n
    split
    · exact setLc_form c k false 0
    · exact setLc_form c k true n
  unfold loopTest
  exact h _

/-- The loop tests change the loop counters alone (R360). -/
theorem loopTests_form (b : Bank) (a : Word) : ∃ x y, (loopTests b a).1 = { b with lc0 := x, lc1 := y } := by
  have h1 : ∃ x y, (if armed b true && a == loopEnd b true then loopTest b true else (b, none)).1 = { b with lc0 := x, lc1 := y } := by
    split
    · exact loopTest_form b true
    · exact ⟨_, _, rfl⟩
  unfold loopTests
  generalize (if armed b true && a == loopEnd b true then loopTest b true else (b, none)) = r at *
  obtain ⟨x, y, h⟩ := h1
  obtain ⟨c, o⟩ := r
  dsimp only at h
  subst h
  cases o with
  | some t => exact ⟨_, _, rfl⟩
  | none =>
    dsimp only
    split
    · exact loopTest_form { b with lc0 := x, lc1 := y } false
    · exact ⟨_, _, rfl⟩

/-- The completion of an instruction changes of its bank pc, the loop counters, the held line, and the marks of fetch, pairs
and the executing instruction. -/
theorem retireB_form (b : Bank) (p : Nat) : ∃ pc x y l e f q s2 jo k,
    retireB b p = { b with pc := pc, lc0 := x, lc1 := y, line := l, entered := e, fell := f, past := q, second := s2, joint := jo, task := k } := by
  unfold retireB
  obtain ⟨x, y, h⟩ := loopTests_form b b.pc
  dsimp only
  split
  · rw [h]; exact ⟨_, _, _, _, _, _, _, _, _, _, rfl⟩
  · rw [h]; exact ⟨_, _, _, _, _, _, _, _, _, _, rfl⟩

/-- Every register but the flow registers reads as before. -/
theorem retireB_keeps (b : Bank) (p : Nat) (gt : Word) (r : RegSpec) (hr : r ∉ flowRegs) :
    readReg gt (retireB b p) r = readReg gt b r ∧ readVec (retireB b p) r = readVec b r := by
  have hne : ∀ q ∈ flowRegs, ¬ (rbank r = rbank q ∧ ridx r = ridx q) := fun q hq h => hr (regSpec_ext r q h.1 h.2 ▸ hq)
  obtain ⟨pc, x, y, l, e, f, q, s2, jo, k, h⟩ := retireB_form b p
  rw [h]
  refine ⟨?_, rfl⟩
  by_cases h2 : rbank r = 2
  · have i9 : ridx r ≠ 9 := fun h => hne 0x89#8 (by simp [flowRegs]) ⟨h2, h⟩
    have i16 : ridx r ≠ 16 := fun h => hne 0x90#8 (by simp [flowRegs]) ⟨h2, h⟩
    have i17 : ridx r ≠ 17 := fun h => hne 0x91#8 (by simp [flowRegs]) ⟨h2, h⟩
    unfold readReg
    have h0 : rbank r ≠ 0 := by omega
    rw [if_neg h0, if_neg h0, if_pos h2, if_pos h2]
    unfold specialVal
    simp only [i9, i16, i17, if_false]
    rfl
  · unfold readReg
    simp only [h2, if_false]

/-- The count after a pass is zero on the last pass alone. -/
theorem lessOne_zero (n : Nat) (h : n < 2 ^ 32) : lessOne n = 0 ↔ n = 1 := by
  unfold lessOne
  by_cases h0 : n = 0
  · subst h0; decide
  · have e : n + 2 ^ 32 - 1 = (n - 1) + 2 ^ 32 := by omega
    rw [e, Nat.add_mod_right, Nat.mod_eq_of_lt (by omega)]
    omega

theorem loopCount_lt (b : Bank) (k : Bool) : loopCount b k < 2 ^ 32 := by
  unfold loopCount fld
  exact Nat.mod_lt _ (by decide)

/-- The loop test of R360 in one equation. -/
theorem loopTest_eq (b : Bank) (k : Bool) :
    loopTest b k = if loopCount b k = 1 then (setLc b k false 0, none)
      else (setLc b k true (lessOne (loopCount b k)), some (loopStart b k).toNat) := by
  have h := lessOne_zero _ (loopCount_lt b k)
  unfold loopTest
  have e : (loopCount b k + (2 ^ 32 - 1)) % 2 ^ 32 = lessOne (loopCount b k) := by
    unfold lessOne; rw [Nat.add_sub_assoc (by decide)]
  simp only [e, h]

theorem lessOne_lt (n : Nat) : lessOne n < 2 ^ 32 := Nat.mod_lt _ (by decide)

/-- The test of the outer loop, in a bank that shows it as `b` does (R360). -/
theorem outer_flow (b c : Bank) (p : Nat) (ha : armed c false = armed b false) (he : loopEnd c false = loopEnd b false)
    (hc : loopCount c false = loopCount b false) (hs : loopStart c false = loopStart b false) (h0 : c.lc0 = b.lc0) :
    let r := if armed c false && b.pc == loopEnd c false then loopTest c false else (c, none)
    let t := (match r.2 with | some t => enter r.1 t b.pc.toNat | none => stepSeq r.1 b.pc.toNat p).mapTask clearMarks
    OuterFlow b t ∧ t.lc1 = c.lc1 := by
  unfold OuterFlow
  have hm : lessOne (loopCount b false) % 4294967296 = lessOne (loopCount b false) := Nat.mod_eq_of_lt (lessOne_lt _)
  by_cases q : armed b false = true ∧ b.pc = loopEnd b false
  · have e : (armed c false && b.pc == loopEnd c false) = true := by simp [ha, he, q.1, ← q.2]
    have q2 := eq_true q.2
    by_cases k : loopCount b false = 1
    · simp [e, loopTest_eq, hc, k, q.1, q2, stepSeq, setLc, Bank.mapTask]
    · simp [e, loopTest_eq, hc, k, q.1, q2, hs, enter, setLc, Bank.mapTask, hm]
  · have e : (armed c false && b.pc == loopEnd c false) = false := by
      cases hb : armed b false <;> simp [ha, he, hb]
      intro hp; exact q ⟨hb, hp⟩
    have n : ¬ (armed b false = true ∧ b.pc = loopEnd b false ∧ loopCount b false ≠ 1) := fun h => q ⟨h.1, h.2.1⟩
    simp only [e, n, q, if_false, Bool.false_eq_true]
    simp [stepSeq, Bank.mapTask, h0]

/-- Where flow goes on completion: in sequence, or back to the start of a loop that ends at pc (R23, R360). -/
theorem retireB_flow (b : Bank) (p : Nat) : Flow b (retireB b p) := by
  have hm : lessOne (loopCount b true) % 4294967296 = lessOne (loopCount b true) := Nat.mod_eq_of_lt (lessOne_lt _)
  unfold Flow retireB loopTests
  by_cases q : armed b true = true ∧ b.pc = loopEnd b true
  · have e : (armed b true && b.pc == loopEnd b true) = true := by simp [q.1, ← q.2]
    have q2 := eq_true q.2
    by_cases k : loopCount b true = 1
    · have h := outer_flow b (setLc b true false 0) p rfl rfl rfl rfl rfl
      simp only [e, if_true, loopTest_eq b true, k]
      simp only [q.1, q2, true_and, ne_eq, not_true_eq_false, if_false]
      exact ⟨h.2, h.1⟩
    · simp [e, loopTest_eq, k, q.1, q2, enter, setLc, Bank.mapTask, hm]
  · have e : (armed b true && b.pc == loopEnd b true) = false := by
      cases hb : armed b true <;> simp
      intro hp; exact q ⟨hb, hp⟩
    have n : ¬ (armed b true = true ∧ b.pc = loopEnd b true ∧ loopCount b true ≠ 1) := fun h => q ⟨h.1, h.2.1⟩
    have h := outer_flow b b p rfl rfl rfl rfl rfl
    simp only [e, n, q, if_false, Bool.false_eq_true]
    exact ⟨h.2, h.1⟩

/-- A change of a bank that no loop sees leaves the flow as it was. -/
theorem Flow.congr {a b t : Bank} (h : ∀ k, armed b k = armed a k ∧ loopEnd b k = loopEnd a k ∧ loopStart b k = loopStart a k)
    (hp : b.pc = a.pc ∧ b.lc0 = a.lc0 ∧ b.lc1 = a.lc1) (hf : Flow b t) : Flow a t := by
  have hc : ∀ k, loopCount b k = loopCount a k := by
    intro k; unfold loopCount; rw [hp.2.1, hp.2.2]
  unfold Flow OuterFlow at *
  simp only [(h true).1, (h true).2.1, (h true).2.2, (h false).1, (h false).2.1, (h false).2.2, hc, hp.1, hp.2.1, hp.2.2] at hf
  exact hf

/-! ### The completion of an instruction -/

theorem State.retire_b (s : State) : s.retire.b = retireB s.b s.cur.pair := by
  unfold State.retire
  split
  · rw [State.mapB_b]; simp
  · rw [State.mapB_b]

theorem OthersKept.refl (s : State) : OthersKept s s := rfl
theorem MemKept.refl (s : State) : MemKept s s := fun _ => rfl

/-- A change of the executing bank, then its completion, leaves the rest of the package. -/
theorem retire_mapB_others (s : State) (f : Bank → Bank) :
    OthersKept s (s.mapB f).retire ∧ MemKept s (s.mapB f).retire ∧ (s.mapB f).retire.fly = s.fly ∧ (s.mapB f).retire.gt = s.gt := by
  unfold State.retire
  split <;> exact ⟨rfl, fun _ => rfl, rfl, rfl⟩

/-- A change of a cell that keeps all but its banks and its counter UNPAIRED. -/
def CellKept (x y : Cell) : Prop :=
  { y with lo := x.lo, hi := x.hi, csr := x.csr } = x ∧ ∀ n, n ≠ 1 → lookD y.csr n 0 = lookD x.csr n 0

theorem CellKept.setBank (x : Cell) (h : Bool) (b : Bank) : CellKept x (x.setBank h b) := by
  cases h <;> exact ⟨rfl, fun _ _ => rfl⟩

theorem CellKept.count (x : Cell) : CellKept x { x with csr := bump x.csr 1 1 } :=
  ⟨rfl, fun n hn => by simp [bump, hn]⟩

theorem CellKept.trans {x y z : Cell} (h : CellKept x y) (k : CellKept y z) : CellKept x z := by
  refine ⟨?_, fun n hn => (k.2 n hn).trans (h.2 n hn)⟩
  rw [← h.1, ← k.1]

theorem retire_mapB_cells (s : State) (f : Bank → Bank) : CellsKept s (s.mapB f).retire := by
  have hk : ∀ (t : State) (g : Bank → Bank) (c : Nat), t.cur = s.cur → CellKept (s.cell c) (t.cell c) →
      CellKept (s.cell c) ((t.mapB g).cell c) := by
    intro t g c _ h
    unfold State.mapB
    rw [State.mapBank_cell]
    split
    · subst_vars; exact h.trans (CellKept.setBank ..)
    · exact h
  have h1 : ∀ c, CellKept (s.cell c) ((s.mapB f).cell c) := fun c => hk s f c rfl ⟨rfl, fun _ _ => rfl⟩
  have h2 : ∀ c n, n = 1 → CellKept (s.cell c) (((s.mapB f).countCell s.cur.cell n).cell c) := by
    rintro c n rfl
    unfold State.countCell
    rw [State.mapCell_cell]
    split
    · subst_vars; exact (h1 _).trans (CellKept.count _)
    · exact h1 c
  intro c
  have hall : CellKept (s.cell c) ((s.mapB f).retire.cell c) := by
    unfold State.retire
    split
    · exact hk _ _ c rfl (h2 c 1 rfl)
    · exact hk _ _ c rfl (h1 c)
  refine ⟨hall.1, hall.2, ?_⟩
  intro hi hne
  have hne' : ¬ (c = s.cur.cell ∧ hi = s.cur.hi) := by
    rintro ⟨rfl, rfl⟩
    simp at hne
  unfold State.retire
  split <;> simp [hne']

/-- The one-cycle completion: a register written, and nothing else but flow (R23, R189, R360). -/
theorem finish_done (s : State) (a : RegSpec) (v : Word) (ha : rbank a = 0) :
    Done s (s.finish a v) [a] ∧ Holds (s.finish a v) a v := by
  have hb : (s.finish a v).b = retireB (writeReg s.b a v) s.cur.pair := by
    unfold State.finish State.wr; rw [State.retire_b]; simp
  have hg : (s.finish a v).gt = s.gt := (retire_mapB_others _ _).2.2.2
  have hflow : a ∉ flowRegs := by
    intro h; simp [flowRegs] at h; rcases h with rfl | rfl | rfl <;> simp [rbank] at ha
  refine ⟨⟨(retire_mapB_others _ _).1, retire_mapB_cells _ _, (retire_mapB_others _ _).2.1, ?_, ?_, (retire_mapB_others _ _).2.2.1⟩, ?_⟩
  · intro r hr
    have hra : r ≠ a := fun h => hr (by simp [h])
    have hrf : r ∉ flowRegs := fun h => hr (by simp [h])
    rw [hb, hg, (retireB_keeps _ _ _ _ hrf).1, (retireB_keeps _ _ s.gt _ hrf).2, readVec_writeReg _ _ _ _ ha]
    refine ⟨?_, fun _ => rfl⟩
    by_cases h0 : rbank r = 0
    · rw [readReg_writeReg_s _ _ _ _ _ ha h0, if_neg (fun h => hra h.1)]
    · exact readReg_writeReg_other _ _ _ _ _ ha h0
  · have hf := retireB_flow (writeReg s.b a v) s.cur.pair
    rw [← hb] at hf
    refine Flow.congr ?_ ?_ hf
    · intro k; rw [writeReg_scalar _ _ _ ha]; exact ⟨rfl, rfl, rfl⟩
    · rw [writeReg_scalar _ _ _ ha]; exact ⟨rfl, rfl, rfl⟩
  · unfold Holds
    rw [hb, (retireB_keeps _ _ _ _ hflow).1, readReg_writeReg_s _ _ _ _ _ ha ha]
    by_cases h0 : a = 0#8
    · subst h0; simp [readReg, rbank, ridx]
    · simp [h0]

/-- Something sent and the executing bank changed in what no register shows, then completed: a result, an
access or a request is on its way (R189). -/
theorem sent_retire (s : State) (dst : RegSpec) (f : Flight) (g : Bank → Bank)
    (hreg : ∀ b gt r, readReg gt (g b) r = readReg gt b r ∧ readVec (g b) r = readVec b r)
    (hloop : ∀ b k, armed (g b) k = armed b k ∧ loopEnd (g b) k = loopEnd b k ∧ loopStart (g b) k = loopStart b k)
    (hpc : ∀ b, (g b).pc = b.pc ∧ (g b).lc0 = b.lc0 ∧ (g b).lc1 = b.lc1)
    (hpend : ∀ b, dst ≠ 0#8 → dst ∈ (g b).pend) :
    Sent s ((s.send s.cur.cell f).mapB g).retire dst f := by
  have ho := retire_mapB_others (s.send s.cur.cell f) g
  have hc := retire_mapB_cells (s.send s.cur.cell f) g
  have hb : ((s.send s.cur.cell f).mapB g).retire.b = retireB (g s.b) s.cur.pair := by
    rw [State.retire_b, State.mapB_b]; rfl
  have hg : ((s.send s.cur.cell f).mapB g).retire.gt = s.gt := ho.2.2.2
  refine ⟨?_, fun c => hc c, fun a => ho.2.1 a, ?_, ?_, ?_, ?_⟩
  · unfold State.retire
    split <;> rfl
  · intro r hr
    rw [hb, hg, (retireB_keeps _ _ _ _ hr).1, (retireB_keeps _ _ s.gt _ hr).2, (hreg _ _ _).1, (hreg _ s.gt _).2]
    exact ⟨rfl, fun _ => rfl⟩
  · have hf := retireB_flow (g s.b) s.cur.pair
    rw [← hb] at hf
    exact Flow.congr (hloop s.b) (hpc s.b) hf
  · rw [ho.2.2.1]; rfl
  · intro hd
    obtain ⟨pc, x, y, l, e, fe, q, s2, jo, k, h⟩ := retireB_form (g s.b) s.cur.pair
    rw [hb, h]
    exact hpend _ hd

/-- A result that is written later (R189, R190). -/
theorem later_sent (s : State) (dst : RegSpec) (val flags : Nat) (float : Bool) :
    Sent s (s.later dst val flags float) dst (.result (s.resultOf dst val flags float)) := by
  refine sent_retire s dst _ (fun b => addPend b dst) ?_ ?_ ?_ ?_
  · intro b gt r
    unfold addPend
    split <;> exact ⟨rfl, rfl⟩
  · intro b k
    unfold addPend
    split <;> exact ⟨rfl, rfl, rfl⟩
  · intro b
    unfold addPend
    split <;> exact ⟨rfl, rfl, rfl⟩
  · intro b h
    unfold addPend
    rw [if_neg h]
    simp

end Sys2Proof.Machine
end

