-- ==== Sys2Proof/Laws/Memory.lean ====
section
/-!
SUPPORT. Laws/Memory.lean: the canonical form of the byte store, kept by every memory operation, and what a
read gives after a write.
-/

namespace Sys2Proof.Machine

/-! ### The canonical form as a sorted list -/

/-- The canonical form without its first entry. -/
theorem Memory.wf_tail {p : Host.Cell} {r : List Host.Cell} (h : Memory.wf (p :: r) = true) : Memory.wf r = true := by
  cases r with
  | nil => rfl
  | cons q r => simp [Memory.wf] at h; exact h.2

/-- The canonical form: every entry differs from zero, and the addresses rise. -/
theorem Memory.wf_iff (m : List Host.Cell) :
    Memory.wf m = true ↔ (∀ p ∈ m, p.2 ≠ 0#8) ∧ m.Pairwise (fun p q => p.1 < q.1) := by
  induction m with
  | nil => simp [Memory.wf]
  | cons p r ih =>
    cases r with
    | nil => simp [Memory.wf]
    | cons q r =>
      have h1 : Memory.wf (p :: q :: r) = true ↔ p.2 ≠ 0#8 ∧ p.1 < q.1 ∧ Memory.wf (q :: r) = true := by
        simp [Memory.wf, and_assoc]
      rw [h1, ih]
      constructor
      · rintro ⟨hp, hpq, hz, hs⟩
        refine ⟨?_, List.pairwise_cons.mpr ⟨?_, hs⟩⟩
        · intro a ha
          rcases List.mem_cons.mp ha with rfl | ha
          · exact hp
          · exact hz a ha
        · intro a ha
          rcases List.mem_cons.mp ha with rfl | ha
          · exact hpq
          · exact Nat.lt_trans hpq ((List.pairwise_cons.mp hs).1 a ha)
      · rintro ⟨hz, hs⟩
        have hs' := List.pairwise_cons.mp hs
        exact ⟨hz p (by simp), hs'.1 q (by simp), fun a ha => hz a (List.mem_cons_of_mem _ ha), hs'.2⟩

/-- A canonical list stays canonical when entries are taken out. -/
theorem Memory.wf_filter (m : List Host.Cell) (f : Host.Cell → Bool) (h : Memory.wf m = true) :
    Memory.wf (m.filter f) = true := by
  rw [Memory.wf_iff] at *
  exact ⟨fun p hp => h.1 p (List.mem_filter.mp hp).1, h.2.filter f⟩

/-- An entry below every other may be put in front. -/
theorem memCons_wf (a : Nat) (x : Byte) (m : List Host.Cell) (h : Memory.wf m = true) (hl : ∀ p ∈ m, a < p.1) :
    Memory.wf (memCons a x m) = true := by
  unfold memCons
  split
  · exact h
  · rw [Memory.wf_iff] at *
    refine ⟨?_, List.pairwise_cons.mpr ⟨hl, h.2⟩⟩
    intro p hp
    rcases List.mem_cons.mp hp with rfl | hp
    · assumption
    · exact h.1 p hp

/-- The addresses of a list after a write. -/
theorem memSet_mem (m : List Host.Cell) (a : Nat) (x : Byte) (p : Host.Cell) (hp : p ∈ memSet m a x) :
    p.1 = a ∨ p ∈ m := by
  induction m with
  | nil =>
    simp only [memSet, memCons] at hp
    split at hp <;> simp_all
  | cons q r ih =>
    obtain ⟨j, y⟩ := q
    simp only [memSet] at hp
    split at hp
    · simp only [memCons] at hp; split at hp <;> simp_all; rcases hp with rfl | hp <;> simp_all
    · split at hp
      · simp only [memCons] at hp; split at hp <;> simp_all; rcases hp with rfl | hp | hp <;> simp_all
      · rcases List.mem_cons.mp hp with rfl | hp
        · simp
        · rcases ih hp with h | h
          · exact .inl h
          · exact .inr (List.mem_cons_of_mem _ h)

/-- A write of one byte keeps the canonical form. -/
theorem memSet_wf (m : List Host.Cell) (a : Nat) (x : Byte) (h : Memory.wf m = true) : Memory.wf (memSet m a x) = true := by
  induction m with
  | nil => exact memCons_wf a x [] rfl (by simp)
  | cons q r ih =>
    obtain ⟨j, y⟩ := q
    have hr := Memory.wf_tail h
    have hs := (Memory.wf_iff _).mp h
    have hp := List.pairwise_cons.mp hs.2
    simp only [memSet]
    split
    · subst_vars; exact memCons_wf _ _ _ hr hp.1
    · split
      · refine memCons_wf _ _ _ h ?_
        intro p hp'
        rcases List.mem_cons.mp hp' with rfl | hp'
        · assumption
        · exact Nat.lt_trans ‹a < j› (hp.1 p hp')
      · have hlt : j < a := by omega
        have hi := (Memory.wf_iff _).mp (ih hr)
        rw [Memory.wf_iff]
        refine ⟨?_, List.pairwise_cons.mpr ⟨?_, hi.2⟩⟩
        · intro p hp'
          rcases List.mem_cons.mp hp' with rfl | hp'
          · exact hs.1 _ (by simp)
          · exact hi.1 p hp'
        · intro p hp'
          rcases memSet_mem _ _ _ _ hp' with h | h
          · simpa [h] using hlt
          · exact hp.1 p h

theorem memPut_wf (bs : List Byte) (m : List Host.Cell) (a : Nat) (h : Memory.wf m = true) :
    Memory.wf (memPut m a bs) = true := by
  induction bs generalizing m a with
  | nil => exact h
  | cons b r ih => exact ih _ _ (memSet_wf _ _ _ h)

theorem memMask_wf (n : Nat) (m : List Host.Cell) (a data mask : Nat) (h : Memory.wf m = true) :
    Memory.wf (memMask m a n data mask) = true := by
  induction n generalizing m a data mask with
  | zero => exact h
  | succ n ih =>
    refine ih _ _ _ _ ?_
    split
    · exact memSet_wf _ _ _ h
    · exact h

theorem memClear_wf (m : List Host.Cell) (a n : Nat) (h : Memory.wf m = true) : Memory.wf (memClear m a n) = true :=
  Memory.wf_filter _ _ h

/-- Bytes written one after another keep the canonical form. -/
theorem memSets_wf {α : Type} (l : List α) (f : α → Nat) (g : α → Byte) (m : List Host.Cell) (h : Memory.wf m = true) :
    Memory.wf (l.foldl (fun a c => memSet a (f c) (g c)) m) = true := by
  induction l generalizing m with
  | nil => exact h
  | cons c r ih => exact ih _ (memSet_wf _ _ _ h)

theorem memCopy_wf (m : List Host.Cell) (dst src n : Nat) (h : Memory.wf m = true) :
    Memory.wf (memCopy m dst src n) = true := memSets_wf _ _ _ _ (memClear_wf _ _ _ h)

theorem accDirty_wf (m : List Host.Cell) (addr e kind : Nat) (h : Memory.wf m = true) :
    Memory.wf (accDirty m addr e kind) = true := memPut_wf _ _ _ h

theorem poke_wf (s : State) (glob : Bool) (a n data mask : Nat) (h : Memory.wf s.mem = true) :
    Memory.wf (s.poke glob a n data mask).mem = true := memMask_wf _ _ _ _ _ h

/-- The memory after reset has the canonical form. -/
theorem reset_wf : Memory.Wf State.reset.mem := rfl

/-! ### A read after a write -/

/-- What an address that is below every entry reads as. -/
theorem memGet_below (m : List Host.Cell) (a : Nat) (h : ∀ p ∈ m, a < p.1) : memGet m a = 0#8 := by
  cases m with
  | nil => rfl
  | cons p r =>
    obtain ⟨j, y⟩ := p
    have : a < j := h (j, y) (by simp)
    simp only [memGet]
    rw [if_neg (by omega), if_pos this]

theorem memGet_memCons (a b : Nat) (x : Byte) (m : List Host.Cell) (hl : ∀ p ∈ m, a < p.1) :
    memGet (memCons a x m) b = if b = a then x else memGet m b := by
  unfold memCons
  split
  · split
    · subst_vars; exact memGet_below _ _ hl
    · rfl
  · simp only [memGet]
    by_cases h : a = b
    · subst h; simp
    · rw [if_neg h, if_neg (Ne.symm h)]
      split
      · exact (memGet_below _ _ (fun p hp => Nat.lt_trans ‹b < a› (hl p hp))).symm
      · rfl

/-- A byte read after one is written. -/
theorem memGet_memSet (m : List Host.Cell) (a b : Nat) (x : Byte) (h : Memory.wf m = true) :
    memGet (memSet m a x) b = if b = a then x else memGet m b := by
  induction m with
  | nil => exact memGet_memCons a b x [] (by simp)
  | cons q r ih =>
    obtain ⟨j, y⟩ := q
    have hr := Memory.wf_tail h
    have hp := List.pairwise_cons.mp ((Memory.wf_iff _).mp h).2
    simp only [memSet]
    split
    · subst_vars
      rw [memGet_memCons _ _ _ _ hp.1]
      split
      · rfl
      · simp only [memGet]
        rw [if_neg (Ne.symm ‹_›)]
        split
        · exact memGet_below _ _ (fun p hp' => Nat.lt_trans ‹_› (hp.1 p hp'))
        · rfl
    · split
      · rw [memGet_memCons]
        intro p hp'
        rcases List.mem_cons.mp hp' with rfl | hp'
        · assumption
        · exact Nat.lt_trans ‹a < j› (hp.1 p hp')
      · simp only [memGet]
        by_cases hj : j = b
        · subst hj; rw [if_pos rfl, if_neg ‹_›, if_pos rfl]
        · rw [if_neg hj, if_neg hj, ih hr]
          split
          · rw [if_neg (by omega)]
          · rfl

theorem memGet_memPut (bs : List Byte) (m : List Host.Cell) (a b : Nat) (h : Memory.wf m = true) :
    memGet (memPut m a bs) b = if a ≤ b ∧ b < a + bs.length then bs.getD (b - a) 0 else memGet m b := by
  induction bs generalizing m a with
  | nil => rw [if_neg (by simp)]; rfl
  | cons x r ih =>
    simp only [memPut, ih _ _ (memSet_wf _ _ _ h), memGet_memSet _ _ _ _ h, List.length_cons]
    by_cases h1 : b = a
    · subst h1
      rw [if_neg (by omega), if_pos rfl, if_pos (by omega)]
      simp
    · rw [if_neg h1]
      by_cases h2 : a + 1 ≤ b ∧ b < a + 1 + r.length
      · rw [if_pos h2, if_pos (by omega)]
        have : b - a = (b - (a + 1)) + 1 := by omega
        rw [this]; rfl
      · rw [if_neg h2, if_neg (by omega)]

/-- A byte read after a masked write: the written byte where the mask has a bit. -/
theorem memGet_memMask (n : Nat) (m : List Host.Cell) (a data mask b : Nat) (h : Memory.wf m = true) :
    memGet (memMask m a n data mask) b =
      if a ≤ b ∧ b < a + n ∧ bit (mask / 2 ^ (b - a)) 0 then BitVec.ofNat 8 (data / 256 ^ (b - a)) else memGet m b := by
  induction n generalizing m a data mask with
  | zero => rw [if_neg (by omega)]; rfl
  | succ n ih =>
    have hw : Memory.wf (if bit mask 0 then memSet m a (BitVec.ofNat 8 data) else m) = true := by
      split
      · exact memSet_wf _ _ _ h
      · exact h
    simp only [memMask, ih _ _ _ _ hw]
    by_cases h1 : b = a
    · subst h1
      rw [if_neg (by omega)]
      by_cases hm : bit mask 0
      · rw [if_pos hm, memGet_memSet _ _ _ _ h, if_pos rfl, if_pos (by simpa using hm)]; simp
      · rw [if_neg hm, if_neg (by simpa using hm)]
    · have hget : memGet (if bit mask 0 then memSet m a (BitVec.ofNat 8 data) else m) b = memGet m b := by
        split
        · rw [memGet_memSet _ _ _ _ h, if_neg h1]
        · rfl
      rw [hget]
      by_cases h2 : a + 1 ≤ b
      · obtain ⟨k, rfl⟩ : ∃ k, b = a + 1 + k := ⟨b - (a + 1), by omega⟩
        have e1 : a + 1 + k - (a + 1) = k := by omega
        have e2 : a + 1 + k - a = k + 1 := by omega
        rw [e1, e2, Nat.pow_succ, Nat.pow_succ, Nat.mul_comm (2 ^ k) 2, Nat.mul_comm (256 ^ k) 256,
          ← Nat.div_div_eq_div_mul, ← Nat.div_div_eq_div_mul]
        have e3 : (a + 1 ≤ a + 1 + k ∧ a + 1 + k < a + 1 + n ∧ bit (mask / 2 / 2 ^ k) 0 = true) ↔
            (a ≤ a + 1 + k ∧ a + 1 + k < a + (n + 1) ∧ bit (mask / 2 / 2 ^ k) 0 = true) :=
          ⟨fun ⟨_, y, z⟩ => ⟨by omega, by omega, z⟩, fun ⟨_, y, z⟩ => ⟨by omega, by omega, z⟩⟩
        simp only [e3]
      · rw [if_neg (by omega), if_neg (by omega)]

end Sys2Proof.Machine
end

