-- ==== Sys2Proof/Tests/Slice0.lean ====
section
/-!
SUPPORT. Tests/Slice0.lean: the model held against words and values that the specification writes out, terms that
decoding refuses, and states that meet the hypotheses of the statements. Expected values come from the rules named.
-/

open Sys2Proof Sys2Proof.Machine Sys2Proof.Spec

namespace Sys2Proof.Tests

set_option Elab.async false

/-! ## Small states -/

/-- A grid at the package origin, its code the lines from address 0, and one task on the low bank of cell 0. -/
def st0 : State := State.reset.load1 96 0
/-- The same with registers of the bank as given. -/
def regs (l : List (Nat × Word)) : State := st0.mapBank 0 false (fun b => { b with s := l })
/-- The state that an execution goes on with. -/
def after (o : Host.Outcome State Fault Refusal) : State := match o with | .next t => t | _ => {}
/-- A scalar register of the executing bank. -/
def rg (s : State) (n : Nat) : Word := readReg s.gt s.b (BitVec.ofNat 8 n)
/-- The results on their way: value and flags. -/
def results (s : State) : List (Nat × Nat) :=
  s.fly.filterMap (fun f => match f.f with | .result w => some (w.val, w.flags) | _ => none)
/-- The ending of grid 0: status and cause. -/
def ended (s : State) : Option (Nat × Nat) := (look s.grids 0).bind (fun g => g.ending.map (fun e => (e.status, e.cause)))
/-- Scalar registers s4, s5 and s6 as the operands A, B and C. -/
def t3 (ty : Ty) : T3 := { ty := ty, a := 4#8, b := 5#8, c := 6#8 }
/-- An execution with s5 and s6 as given. -/
def on56 (i : Instr) (x y : Word) : State := after (exec i (regs [(5, x), (6, y)]))

/-! ## Terms that decoding refuses (R42, R47, R318) -/

theorem test_wf_hint : (Instr.hint 0).wf = false := by decide
theorem test_wf_types : ([.add { t3 .f32 with a := 4#8 }, .fadd { ty := .i64, rnd := .rne, sat := false, a := 4#8, b := 5#8, c := 6#8 },
    .sext { ty := .n32, a := 4#8, b := 5#8 }, .zext { ty := .i32, a := 4#8, b := 5#8 },
    .fcvt { dt := .i32, st := .f32, rnd := .rne, sat := false, a := 4#8, b := 5#8 },
    .fcvti { dt := .f32, st := .f32, rnd := .rne, sat := false, a := 4#8, b := 5#8 },
    .icvtf { dt := .f32, st := .f32, rnd := .rne, sat := false, a := 4#8, b := 5#8 },
    .vadd { ty := .f32, a := 0x44#8, b := 0x45#8, c := 0x46#8, msk := 0#3 },
    .vargmax { ty := .e4m3, a := 4#8, b := 0x45#8, c := 6#8, msk := 0#3 }] : List Instr).all (fun i => !i.wf) = true := by decide
theorem test_wf_banks : ([.add { t3 .i64 with a := 0x44#8 }, .add { t3 .i64 with b := 0x80#8 }, .add { t3 .i64 with c := 0x45#8 },
    .mov { a := 0xC0#8, b := 5#8 }, .mov { a := 4#8, b := 0x45#8 }, .jr 0x89#8, .time 0x80#8, .mand { ty := .i32, a := 4#8, b := 0x81#8, c := 0x82#8 },
    .mset { ty := .i32, a := 0x88#8, b := 5#8 }, .vadd { ty := .i32, a := 4#8, b := 0x45#8, c := 0x46#8, msk := 0#3 },
    .vadd { ty := .i32, a := 0x44#8, b := 0x85#8, c := 0x46#8, msk := 0#3 }, .bqstat 0x40#8,
    .atmsk { g := 15#4, a := 4#8, b := 0xC0#8, det := false }, .trap { b := 0xC1#8, code := 0#32 },
    .tidinv { a := 0x40#8, id := 1#12 }, .movi { a := 0xC0#8, imm := 1#64 }] : List Instr).all (fun i => !i.wf) = true := by decide
theorem test_wf_codes : ([.cmp { ty := .i64, cond := .ord, a := 4#8, b := 5#8, c := 6#8 },
    .fcmp { ty := .f32, cond := .ltn, a := 4#8, b := 5#8, c := 6#8 },
    .b { cond := .unord, a := 4#8, b := 5#8, tslot := 0#3, loff := 0#32 }, .b { cond := .eq, a := 4#8, b := 5#8, tslot := 5#3, loff := 0#32 },
    .jl { tslot := 7#3, loff := 0#32 }, .lclr 3#2, .gclr 15#4, .gset { n := 15#4, b := 5#8 }, .acfg { g := 15#4, a := 4#8, size := 3#2, det := false },
    .fault { code := 1#16, b := 5#8 }, .adecl { a := 4#8, b := 5#8, sz := 11#4, slot := 0#2, dsp := false }, .csrrd { a := 4#8, csr := 0xFF#16 },
    .tinfo { a := 4#8, sel := 8#4 }, .astat { a := 4#8, sel := 12#4 }, .evset { a := 4#8, b := 5#8, c := 6#8, name := 0#16, sc := .cell },
    .sfork { a := 4#8, b := 5#8, n := 9#4, hor := 0#16, pers := false, loff := 0#18 },
    .rep { n := 0#3, cntm1 := 0#16, stag := 0#8, mark := 0#20 }, .rep { n := 6#3, cntm1 := 0#16, stag := 0#8, mark := 0#20 },
    .lea { a := 4#8, m := { base := 5#8, idx := 0#8, sh := 7#8, off := 0#32 } },
    .lset { k := false, sloff := 0#20, sslot := 5#3, eloff := 0#20, eslot := 0#3, b := 5#8 },
    .mlp 0#3 8#17, .mvis 4#3, .mbnot 4#3 0#3, .mcle { d := 4#3, a := 0#3, b := 0#3 }, .mband { d := 0#3, a := 4#3, b := 0#3 }] :
    List Instr).all (fun i => !i.wf) = true := by decide

/-! ## Words written out from the encodings (R20, R30 to R41) -/

/-- CLASS, FUNC, GUARD 15, the specifiers A to D, and bits [47:0]. -/
def word (cls fn a b c d low : Nat) : Word96 :=
  BitVec.ofNat 96 (cls * 2 ^ 90 + fn * 2 ^ 84 + 15 * 2 ^ 80 + a * 2 ^ 72 + b * 2 ^ 64 + c * 2 ^ 56 + d * 2 ^ 48 + low)

-- The examples of 06, 11 and 15, each in the bytes of its slot, lowest address first.
theorem test_decode_amo : decodeSlot [0x40, 0, 0, 0, 0x03, 0x20, 0x00, 0x06, 0x04, 0x05, 0x0F, 0x20] =
    .ok (.amo { op := .add, ty := .i64, sp := .g, sc := .die, ord := .ar, a := 5#8, b := 4#8, c := 6#8, off := 0x40#32 }) := rfl
theorem test_decode_jl : decodeSlot [0, 0, 0, 3, 0, 0, 0, 5, 0, 0, 0x2F, 0x80] = .ok (.jl { tslot := 2#3, loff := 3#32 }) := rfl
theorem test_decode_send : decodeSlot [0x03, 0x40, 1, 0, 0, 0, 0, 9, 8, 5, 0x0F, 0x88] =
    .ok (.send { a := 5#8, b := 8#8, c := 9#8, d := 0#8, hnd := 3#8, len := 64#8, pri := true, setm := 0#4 }) := rfl
-- R46 and R201: 96 zero bits are NOP; MOVI holds its immediate in bits [63:0].
theorem test_decode_nop : decodeCell 0#96 = .ok .nop := rfl
theorem test_decode_addi : decodeCell (BitVec.ofNat 96 (2 * 2 ^ 90 + 2 ^ 84 + 15 * 2 ^ 80 + 4 * 2 ^ 72 + 5 * 2 ^ 64 + 0xFFFF_FFFF_FFFF_FFFF)) =
    .ok (.addi { a := 4#8, b := 5#8, imm := 0xFFFFFFFFFFFFFFFF#64 }) := rfl
-- R32, R39 and R202: CMP with COND lt in bits [40:37] and TYPE 1 in [47:44].
theorem test_decode_cmp : decodeCell (word 3 0 4 5 6 0 (2 ^ 44 + 2 * 2 ^ 37)) = .ok (.cmp { ty := .i32, cond := .lt, a := 4#8, b := 5#8, c := 6#8 }) := rfl
-- R207: FADD of f16 with RND ru in bits [43:42] and SAT in [41].
theorem test_decode_fadd : decodeCell (word 4 0 4 5 6 0 (9 * 2 ^ 44 + 3 * 2 ^ 42 + 2 ^ 41)) =
    .ok (.fadd { ty := .f16, rnd := .ru, sat := true, a := 4#8, b := 5#8, c := 6#8 }) := rfl
-- R34: LD of i16 in space .l, SCOPE clus, HINT strm, SHIFT 3, OFFSET -4; ST of the same.
theorem test_decode_ld : decodeCell (word 6 0 4 5 6 0x31 (2 ^ 44 + 2 ^ 40 + 3 * 2 ^ 32 + 0xFFFF_FFFC)) =
    .ok (.ld { ty := .i16, sp := .l, sc := .clus, hint := .strm, a := 4#8, m := { base := 5#8, idx := 6#8, sh := 3#8, off := 0xFFFFFFFC#32 } }) := rfl
theorem test_decode_st : decodeCell (word 7 0 4 5 6 0x31 (2 ^ 44 + 3 * 2 ^ 32 + 8)) =
    .ok (.st { ty := .i16, sp := .l, sc := .clus, hint := .normal, a := 4#8, m := { base := 5#8, idx := 6#8, sh := 3#8, off := 8#32 } }) := rfl
-- R317: twelve words of R329's program as bytes, lowest address first.
theorem test_decode_mask_bytes : decodeMaskBytes [0x01, 0x00, 0x84, 0x25] = .ok (.msub { d := 3#3, a := 0#3, b := 2#3, imm := 1#17 }) := rfl
-- R47: an unassigned class, function, type and condition.
theorem test_decode_refuses : decodeCell (word 0x3F 0 0 0 0 0 0) = .error .cls ∧ decodeCell (word 1 0x3F 4 5 6 0 0) = .error .func ∧
    decodeCell (word 1 0 4 5 6 0 (15 * 2 ^ 44)) = .error .type ∧ decodeCell (word 3 0 4 5 6 0 (14 * 2 ^ 37)) = .error .cond ∧
    decodeCell (word 1 0 0x44 5 6 0 0) = .error .bank ∧ decodeMask 0#32 = .error .func := ⟨rfl, rfl, rfl, rfl, rfl, rfl⟩

/-! ## Integer results (the edge cases of R200, R204 and R205) -/

theorem test_add_w : rg (on56 (.add { t3 .i32 with c := 0xC1#8 }) 0x7FFFFFFF#64 0#64) 4 = 0xFFFFFFFF80000000#64 := by decide
theorem test_sadd : rg (on56 (.sadd { t3 .i64 with c := 0xC1#8 }) 0x7FFFFFFFFFFFFFFF#64 0#64) 4 = 0x7FFFFFFFFFFFFFFF#64 := by decide
theorem test_ssub_w : rg (on56 (.ssub { t3 .i32 with c := 0xC1#8 }) 0x80000000#64 0#64) 4 = 0xFFFFFFFF80000000#64 := by decide
theorem test_shl : rg (on56 (.shl (t3 .i64)) 1#64 65#64) 4 = 2#64 := by decide
theorem test_sar_w : rg (on56 (.sar { t3 .i32 with c := 0xC3#8 }) 0x80000000#64 0#64) 4 = 0xFFFFFFFFF0000000#64 := by decide
theorem test_rol : rg (on56 (.rol { t3 .i64 with c := 0xC1#8 }) 0x8000000000000001#64 0#64) 4 = 3#64 := by decide
theorem test_div_min : results (on56 (.div (t3 .i64)) 0x8000000000000000#64 0xFFFFFFFFFFFFFFFF#64) = [(0x8000000000000000, 0)] := by decide
theorem test_div_w : results (on56 (.div (t3 .i32)) 0x80000000#64 0xFFFFFFFF#64) = [(0xFFFFFFFF80000000, 0)] := by decide
theorem test_div_zero : results (on56 (.div { t3 .i64 with c := 0#8 }) 7#64 0#64) = [(0xFFFFFFFFFFFFFFFF, 0)] := by decide
theorem test_divn_w : results (on56 (.divn { t3 .i32 with c := 0#8 }) 0xFFFFFFFF#64 0#64) = [(0xFFFFFFFFFFFFFFFF, 0)] := by decide
theorem test_rem_neg : results (on56 (.rem (t3 .i64)) (-7#64) 2#64) = [(0xFFFFFFFFFFFFFFFF, 0)] := by decide
theorem test_rem_pos : results (on56 (.rem (t3 .i64)) 7#64 (-2#64)) = [(1, 0)] := by decide
theorem test_remn_zero : results (on56 (.remn { t3 .i64 with c := 0#8 }) 7#64 0#64) = [(7, 0)] := by decide
theorem test_mulh : results (on56 (.mulh (t3 .i64)) (-1#64) (-1#64)) = [(0, 0)] := by decide
theorem test_mulhn : results (on56 (.mulhn (t3 .i64)) (-1#64) (-1#64)) = [(0xFFFFFFFFFFFFFFFE, 0)] := by decide
theorem test_mulh_w : results (on56 (.mulh (t3 .i32)) 0x80000000#64 0x80000000#64) = [(0x40000000, 0)] := by decide
theorem test_clz_w : rg (on56 (.clz { ty := .i32, a := 4#8, b := 5#8 }) 0x100000000#64 0#64) 4 = 32#64 := by decide
theorem test_bfxs : rg (on56 (.bfxs { ty := .i64, a := 4#8, b := 5#8, pos := 4#6, len := 4#7 }) 0xF0#64 0#64) 4 = (-1#64) := by decide
-- R41: a write to s0 is discarded.
theorem test_s0 : rg (on56 (.add { t3 .i64 with a := 0#8 }) 1#64 1#64) 0 = 0#64 := by decide
-- R23: the flow goes on to the next slot, and from slot 4 to the next line.
theorem test_flow : (on56 .nop 0#64 0#64).b.pc = 1#64 ∧ nextSeq 4 = 64 := by decide

/-! ## States that meet the hypotheses of the statements -/

/-- A page of the grid at virtual 0, readable, writable and executable, as the cell holds it. -/
def te : TlbEnt :=
  { asid := 0, glob := false, size := 12, vpn := 0, frame := 0x10000, read := true, write := true, exec := true, mtype := 0, ue := false, dirty := true, leaf := 0 }
def stG : State := st0.mapCell 0 (fun c => { c with tlb := [te] })
/-- The same with a line of that page in the L1, all bytes valid and one dirty. -/
def stL : State := stG.mapCell 0 (fun c => { c with l1 := [{ pa := 0x10000, valid := 2 ^ 64 - 1, dirty := 1, clus := false, data := 7 }] })
/-- The task holds the set of the first line. -/
def stH : State := stG.mapBank 0 false (fun b => b.mapTask (fun k => { k with slots := [(0, { dsp := false, base := 0, sz := 0, held := true })] }))
/-- The task has a release that waits for nothing. -/
def stR : State := stG.mapBank 0 false (fun b => b.mapTask (fun k => { k with rel := some 0 }))
def mref : MemRef := { base := 5#8, idx := 0#8, sh := 0#8, off := 8#32 }
def memG (ty : Ty) (sp : Space) : MemR := { ty := ty, sp := sp, sc := .cell, hint := .normal, a := 4#8, m := mref }
def spotG : Spot := { loc := .home 0x10008, mt := 0, sp := 0, key := 8 }

theorem wit_integer : ([.add (t3 .i64), .sub (t3 .i64), .and (t3 .i32), .or (t3 .i64), .xor (t3 .i64), .andn (t3 .i64), .shl (t3 .i32), .shr (t3 .i64),
    .sar (t3 .i64), .rol (t3 .i32), .min (t3 .i64), .max (t3 .i64), .minn (t3 .i64), .maxn (t3 .i64), .sadd (t3 .i32), .ssub (t3 .i64), .mul (t3 .i64),
    .mulh (t3 .i32), .mulhn (t3 .i64), .div (t3 .i64), .divn (t3 .i64), .rem (t3 .i64), .remn (t3 .i64)] : List Instr).all Instr.wf = true := by decide
def immx : ImmR := { a := 4#8, b := 5#8, imm := 1#64 }
theorem wit_immediate : ([.movi { a := 4#8, imm := 1#64 }, .addi immx, .andi immx, .ori immx, .xori immx, .shli immx, .shri immx, .sari immx,
    .cmp { ty := .i64, cond := .lt, a := 4#8, b := 5#8, c := 6#8 }, .sel { a := 4#8, b := 5#8, c := 6#8, d := 7#8 }, .sext { ty := .i16, a := 4#8, b := 5#8 },
    .zext { ty := .n8, a := 4#8, b := 5#8 }, .lea { a := 4#8, m := mref }] : List Instr).all Instr.wf = true := by decide
def t2 (ty : Ty) : T2 := { ty := ty, a := 4#8, b := 5#8 }
theorem wit_bits : ([.clz (t2 .i32), .ctz (t2 .i64), .popc (t2 .i64), .brev (t2 .i32), .bswap (t2 .i64), .bfx { ty := .i64, a := 4#8, b := 5#8, pos := 4#6, len := 4#7 },
    .bfxs { ty := .i64, a := 4#8, b := 5#8, pos := 63#6, len := 127#7 }, .bfi { ty := .i32, a := 4#8, b := 5#8, c := 6#8, pos := 4#6, len := 0#7 }] :
    List Instr).all Instr.wf = true := by decide
theorem wit_move : (Instr.mov { a := 4#8, b := 5#8 }).wf = true ∧ plainGrid st0 ∧ (st0.rd 5#8).toNat ≤ st0.gt.toNat :=
  ⟨by decide, fun g h => by obtain rfl := Option.some.inj h; decide, by decide⟩
def wbk : Wb := { cell := 0, hi := false, act := 0, pc := 0, insn := 0, dst := 4#8, val := 9, flags := 0x11, float := true }
/-- A float result with NV and NX on its way, NV's trap enabled or not. -/
def stW (te : Bool) : State :=
  { st0.mapBank 0 false (fun b => { b with st := if te then 0x1000 else 0 }) with fly := [{ n := 0, cell := 0, f := .result wbk }] }
theorem wit_result : (stW false).flight 0 = some { n := 0, cell := 0, f := .result wbk } ∧ ((stW false).bank 0 false).task.map (·.act) = some wbk.act ∧
    wbk.dst.isS = true ∧ wbk.flags < 32 ∧ ∀ i, i < 5 → wbk.flags.testBit i = true → ((stW false).bank 0 false).st.getLsbD (8 + i) = false := by decide
theorem wit_result_trap : (stW true).flight 0 = some { n := 0, cell := 0, f := .result wbk } ∧
    (∀ f ∈ (stW true).fly, floatOf wbk.act f.f = true → 0 ≤ f.n) ∧ (look (stW true).grids 0).map (fun g => (g.ending, superOf g.lr)) = some (none, none) ∧
    (wbk.flags.testBit (4 - 0) && ((stW true).bank 0 false).st.getLsbD (12 - 0)) = true := by decide
theorem test_result_trap : ended (after (exec (.resultWriteback 0) (stW true))) = some (0x10, 0x40) := by decide
def fr3 (ty : Ty) : FR3 := { ty := ty, rnd := .rne, sat := false, a := 4#8, b := 5#8, c := 6#8 }
theorem wit_float : ([.fadd (fr3 .f64), .fsub (fr3 .f32), .fmul (fr3 .f16), .fdiv (fr3 .bf16), .ffma { ty := .f32, rnd := .rz, sat := true, a := 4#8, b := 5#8, c := 6#8, d := 7#8 },
    .fsqrt { ty := .f32, rnd := .rd, sat := false, a := 4#8, b := 5#8 }, .fmin (t3 .f32), .fmax (t3 .f64), .fcmp { ty := .f32, cond := .unord, a := 4#8, b := 5#8, c := 6#8 },
    .fclass (t2 .f32), .fabs (t2 .f16), .fneg (t2 .f64), .fcvt { dt := .e4m3, st := .f32, rnd := .rne, sat := true, a := 4#8, b := 5#8 },
    .fcvti { dt := .n8, st := .f64, rnd := .rz, sat := false, a := 4#8, b := 5#8 }, .icvtf { dt := .f16, st := .i64, rnd := .rne, sat := false, a := 4#8, b := 5#8 },
    .frnd { ty := .f32, rnd := .rne, a := 4#8, b := 5#8 }] : List Instr).all Instr.wf = true := by decide
-- 0x7C00 is f16 infinity, 0x8000 its minus zero, 0x7E00 a NaN, 0x3C00 one (R212).
theorem wit_float_special : (decodeF (Ty.fmt .f16) 0x7C00).isInf = true ∧ (decodeF (Ty.fmt .f16) 0x8000).isZero = true ∧ (decodeF (Ty.fmt .f16) 0x7E00).isNan = true ∧
    (decodeF (Ty.fmt .f16) 0xBC00).neg = true ∧ (decodeF (Ty.fmt .f16) 0xBC00).isZero = false ∧
    (match decodeF (Ty.fmt .f16) 0x3C00 with | .fin _ m _ false => m != 0 | _ => false) = true := by decide
theorem wit_rounding : (rat (.fin false 3 (-30) false)).isSome = true ∧ (rat (decodeF (Ty.fmt .f16) 1)).isSome = true ∧
    (rat (decodeF (Ty.fmt .f16) (roundF (Ty.fmt .f16) .rne false (.fin false 3 (-30) false)).bits)).isSome = true := by decide
def v3 (ty : Ty) : V3 := { ty := ty, a := 0x44#8, b := 0x45#8, c := 0x46#8, msk := 3#3 }
def v2 (ty : Ty) : V2 := { ty := ty, a := 0x44#8, b := 0x45#8, msk := 0#3 }
def vab (ty : Ty) : VabsR := { ty := ty, sat := true, a := 0x44#8, b := 0x45#8, msk := 0#3 }
theorem wit_vector_integer : ([.vadd (v3 .i8), .vsub (v3 .i64), .vmul (v3 .n16), .vmulh (v3 .i32), .vmin (v3 .i32), .vmax (v3 .n32), .vabs (vab .i8), .vsadd (v3 .i16),
    .vssub (v3 .n8), .vshl (v3 .i32), .vshr (v3 .i32), .vsar (v3 .i32), .vand (v3 .i64), .vor (v3 .i64), .vxor (v3 .i64), .vnot (v2 .i64)] : List Instr).all Instr.wf = true := by decide
def vf3 (ty : Ty) : VF3 := { ty := ty, rnd := .rne, sat := false, a := 0x44#8, b := 0x45#8, c := 0x46#8, msk := 0#3 }
def vf2 (ty : Ty) : VF2 := { ty := ty, rnd := .rne, sat := false, a := 0x44#8, b := 0x45#8, msk := 0#3 }
def vcv (dt st : Ty) : VfcvtR := { dt := dt, st := st, rnd := .rne, sat := false, a := 0x44#8, b := 0x45#8, msk := 0#3, part := 1#3 }
theorem wit_vector_float : ([.vfadd (vf3 .f32), .vfsub (vf3 .f64), .vfmul (vf3 .f16), .vfma { ty := .bf16, rnd := .rne, sat := false, a := 0x44#8, b := 0x45#8, c := 0x46#8, d := 0x47#8, msk := 0#3 },
    .vfmin (v3 .f32), .vfmax (v3 .f32), .vfabs (v2 .f32), .vfneg (v2 .f16), .vfcvt (vcv .f32 .i32), .vfcvt (vcv .f64 .f16), .vfcvt (vcv .e4m3 .f32), .vrcp (vf2 .f32), .vrsq (vf2 .f64),
    .vexp (vab .f32), .vlog2 (vab .f32)] : List Instr).all Instr.wf = true := by decide
theorem wit_vector_select : ([.vcmp { ty := .i32, cond := .lt, a := 0x81#8, b := 0x45#8, c := 0x46#8, msk := 0#3 }, .vfcmp { ty := .e5m2, cond := .unord, a := 0x81#8, b := 0x45#8, c := 0x46#8, msk := 0#3 },
    .vsel (v3 .i32), .vperm (v3 .i8), .vbcast { ty := .i32, a := 0x44#8, b := 5#8, lane := 0#6, msk := 0#3 }, .vextr { ty := .i32, a := 4#8, b := 0x45#8, c := 6#8 },
    .vins { ty := .i32, a := 0x44#8, b := 5#8, c := 6#8 }, .vslide { ty := .i32, up := true, a := 0x44#8, b := 0x45#8, c := 6#8, d := 0x46#8, msk := 0#3 }, .vcomp (v2 .i32),
    .viota { ty := .i32, a := 0x44#8, msk := 0#3 }] : List Instr).all Instr.wf = true := by decide
theorem wit_reduction : ([.vred { op := .xor, ty := .i32, a := 4#8, b := 0x45#8, msk := 0#3 }, .vfred { op := .add, ty := .f32, rnd := .rne, sat := false, a := 4#8, b := 0x45#8, msk := 0#3 },
    .vscan { op := .min, ty := .n8, ex := true, a := 0x44#8, b := 0x45#8, msk := 0#3 }, .vfscan { op := .max, ty := .f16, rnd := .rne, sat := true, ex := false, a := 0x44#8, b := 0x45#8, msk := 0#3 },
    .vargmax { ty := .f32, a := 4#8, b := 0x45#8, c := 6#8, msk := 0#3 }] : List Instr).all Instr.wf = true := by decide
theorem wit_mask_registers : ([.mand { ty := .i32, a := 0x81#8, b := 0x82#8, c := 0x83#8 }, .mor { ty := .i32, a := 0x80#8, b := 0x82#8, c := 0x83#8 },
    .mxor { ty := .i8, a := 0x81#8, b := 0x82#8, c := 0x83#8 }, .mnot { ty := .i32, a := 0x81#8, b := 0x82#8 }, .mset { ty := .i32, a := 0x81#8, b := 5#8 },
    .mpopc { ty := .i32, a := 4#8, b := 0x82#8 }, .mget { ty := .i32, a := 4#8, b := 0x82#8 }, .mfirst { ty := .i32, a := 4#8, b := 0x82#8 }] : List Instr).all Instr.wf = true := by decide

theorem wit_place_g : Place stG .g (address stG mref) 8 2 spotG ∧ Untouched stG spotG 8 :=
  ⟨⟨by decide, te, by unfold Translated; decide, by decide, by decide, by decide⟩, by unfold Untouched; decide⟩
theorem wit_place_read : Place stG .g (address stG mref) 8 0 spotG ∧ Place stG .g (address stG mref) 8 1 spotG :=
  ⟨⟨by decide, te, by unfold Translated; decide, by decide, by decide, by decide⟩, ⟨by decide, te, by unfold Translated; decide, by decide, by decide, by decide⟩⟩
theorem wit_place_pads : Place st0 .l 8 8 1 (padSpot 0 0 8) ∧ Place st0 .c 8 8 1 (padSpot 0 (cellIn (gcluOf 0) 0) 8) ∧
    Place st0 .d 8 8 1 (padSpot 0 (cellAt 0 0) 8) ∧ Place st0 .s 8 8 1 { loc := .hearth 0 8 } := by unfold Place; decide
theorem wit_load_sent : (Instr.ld (memG .i64 .g)).wf = true ∧ (Instr.vld { memG .i64 .g with a := 0x44#8 }).wf = true ∧ ∀ l, ¬ InL1 stG spotG .cell 8 l :=
  ⟨by decide, by decide, fun l h => by obtain ⟨_, _, pa, hp, hl, _⟩ := h; cases hp; exact nomatch (show (none : Option L1Line) = some l from hl)⟩
theorem wit_load_l1 : ∃ l, InL1 stL spotG .cell 8 l :=
  ⟨_, rfl, .inl rfl, 0x10008, rfl, rfl, by decide⟩
theorem test_load_l1 : rg (after (exec (.ld { memG .i64 .g with m := { mref with off := 0#32 } }) stL)) 4 = 7#64 := by decide
theorem wit_store : (Instr.st (memG .i64 .g)).wf = true ∧ (Instr.stl (memG .i32 .g)).wf = true ∧ (Instr.vst { memG .i64 .g with a := 0x44#8 }).wf = true ∧
    HasRoom stG spotG ∧ HasRoom stH spotG ∧ stH.holder = true ∧ stH.inFrame spotG = false := by unfold HasRoom; decide
theorem wit_released : Released stR := ⟨_, 0, rfl, rfl, by decide⟩
theorem wit_czero : (Instr.czero { sp := .g, sc := .die, m := mref }).wf = true ∧ Place stG .g (address stG mref) 1 1 { spotG with key := 8 } ∧ Untouched stG spotG.toLine 64 :=
  ⟨by decide, ⟨by decide, te, by unfold Translated; decide, by decide, by decide, by decide⟩, by unfold Untouched; decide⟩
theorem wit_addresses : (2 ^ 18 ≤ address (regs [(5, 0x40000#64)]) mref) ∧ (2 ^ 57 ≤ address (regs [(5, 0x200000000000000#64)]) mref) ∧
    inRect st0.myLr (cellIn (gcluOf 0) 1) = false ∧ address (regs [(5, 1#64)]) mref % 8 ≠ 0 ∧ tlbFind (st0.cell 0).tlb st0.asid 8 = none := by decide
theorem test_misaligned : ended (after (exec (.ld (memG .i64 .l)) (regs [(5, 1#64)]))) = some (0x10, 0x31) := by decide
def amox (o : Ord) : AmoR := { op := .add, ty := .i64, sp := .g, sc := .die, ord := o, a := 4#8, b := 5#8, c := 6#8, off := 8#32 }
theorem wit_atomic : ([.amo (amox .ar), .cas (amox .acq), .amof { amox .rel with ty := .f64 }] : List Instr).all Instr.wf = true ∧ stG.holder = false ∧
    stH.inHeld spotG 8 = true ∧ stH.bad spotG.loc.key 8 = false ∧ stH.b.commit.length < 128 ∧ stH.inHeld { spotG with key := 0x100 } 8 = false := by decide
/-- A load of the task is unanswered. -/
def stP : State := { stG with fly := [{ n := 0, cell := 0, f := .access (stG.acc 8 (.home 0x10008) 8 (.load (.reg 4#8 .i64) .line)) }], serial := 1 }
theorem wit_fences : Clear stG (loadOf stG.act) ∧ Released stR ∧ ¬ Clear stP (loadOf stP.act) ∧ Clear stG (padStoreOf stG.act) ∧ (Instr.cinv mref).wf = true ∧ (Instr.cflush mref).wf = true ∧
    tlbFind (stG.cell 0).tlb stG.asid (address stG mref) = some te ∧ (stL.l1Look 0 0x10008).map (·.dirty) = some 1 :=
  ⟨fun k h f hf => by simp [stG, st0, State.load1, State.reset, State.mapCell, State.setCell] at hf, ⟨_, 0, rfl, rfl, by decide⟩,
    fun h => absurd (h _ rfl _ (.head _) (by decide)) (by decide), fun k h f hf => by simp [stG, st0, State.load1, State.reset, State.mapCell, State.setCell] at hf,
    by decide, by decide, by decide, by decide⟩
def memL (ty : Ty) : MemR := { memG ty .l with a := 0x44#8, m := { mref with idx := 6#8 } }
theorem wit_lanes : (Instr.vlds (memL .i64)).wf = true ∧ (Instr.vsts (memL .i64)).wf = true ∧
    ∀ k ∈ laneList (regs [(6, 8#64)]) (memL .i64) false, LaneOk (regs [(6, 8#64)]) (memL .i64) true (laneAddress (regs [(6, 8#64)]) (memL .i64) false k) (padSpot 0 0 (8 * k + 8)) ∧
      LaneOk (regs [(6, 8#64)]) (memL .i64) false (laneAddress (regs [(6, 8#64)]) (memL .i64) false k) (padSpot 0 0 (8 * k + 8)) := by
  refine ⟨by decide, by decide, ?_⟩
  have h : laneList (regs [(6, 8#64)]) (memL .i64) false = [0, 1, 2, 3, 4, 5, 6, 7] := by decide
  rw [h]
  simp only [List.forall_mem_cons]
  refine ⟨?_, ?_, ?_, ?_, ?_, ?_, ?_, ?_, nofun⟩ <;>
    exact ⟨⟨⟨by decide, by decide, by decide⟩, by unfold Untouched; decide, nofun⟩, ⟨by decide, by decide, by decide⟩, by unfold Untouched; decide, fun _ => by decide⟩
theorem wit_lanes_indexed : (Instr.vgath { memL .i64 with m := { mref with idx := 0x46#8 } }).wf = true ∧ (Instr.vscat { memL .i64 with m := { mref with idx := 0x46#8 } }).wf = true := by decide

/-! ### Arrivals -/

/-- An access of the task on its way as flight 0. -/
def fly1 (f : Flight) : State := { stG with fly := [{ n := 0, cell := 0, f := f }], serial := 1 }
def accAt (l : Loc) (o : AOp) (n : Nat) : Access := st0.acc 8 l n o
def ldop : AOp := .load (.reg 4#8 .i64) .none
theorem wit_port : (fly1 (.access (accAt (.port 0 8) ldop 8))).flight 0 = some { n := 0, cell := 0, f := .access (accAt (.port 0 8) ldop 8) } ∧
    Arriving (fly1 (.access (accAt (.port 0 8) ldop 8))) 0 (accAt (.port 0 8) ldop 8) (padKey 0 8) :=
  ⟨by decide, by decide, by decide, by unfold Untraced; decide, by decide, .inl (by decide)⟩
theorem wit_host : Arriving (fly1 (.access (accAt (.host 0x10000000000) ldop 8))) 0 (accAt (.host 0x10000000000) ldop 8) 0x10000000000 :=
  ⟨by decide, by decide, by unfold Untraced; decide, by decide, .inl (by decide)⟩
set_option maxRecDepth 4000 in
theorem wit_home : Arriving (fly1 (.access (accAt (.home 8) ldop 8))) 0 (accAt (.home 8) ldop 8) 8 ∧
    ((fly1 (.access (accAt (.home 8) ldop 8))).hsSlots (accAt (.home 8) ldop 8) 8).isSome = true ∧ 8 / 64 ∉ (fly1 (.access (accAt (.home 8) ldop 8))).hsLines 8 ∧
    ((fly1 (.fill (accAt (.home 8) ldop 8))).slot 0 0 .hbm).isSome = true :=
  ⟨⟨by decide, by decide, by unfold Untraced; decide, by decide, .inl (by decide)⟩, rfl, by decide, rfl⟩
/-- Two flights of the task. -/
def fly2 (f g : Flight) : State := { stG with fly := [{ n := 0, cell := 0, f := f }, { n := 1, cell := 0, f := g }], serial := 2 }
theorem wit_blocked : (fly2 (.access (accAt (.home 8) (.store 1 255 0) 8)) (.access (accAt (.home 8) ldop 8))).blocked 1 (accAt (.home 8) ldop 8) = true := by decide
theorem wit_answer : (fly1 (.reply (accAt (.home 8) ldop 8) 5 none)).flight 0 = some { n := 0, cell := 0, f := .reply (accAt (.home 8) ldop 8) 5 none } ∧
    (fly1 (.reply (accAt (.home 8) ldop 8) 5 none)).live 0 false 0 = true ∧ (accAt (.home 8) ldop 8).op.ret = .reg 4#8 .i64 ∧ isPlain ldop = true ∧
    (accAt (.home 8) ldop 8).op.isPrefetch = false := by decide
theorem wit_ack : (fly1 (.ack (accAt (.home 8) (.store 1 255 0) 8))).flight 0 = some { n := 0, cell := 0, f := .ack (accAt (.home 8) (.store 1 255 0) 8) } ∧
    ((stL.cell 0).l1.find? (fun y => y.pa == 0x10000)).map (·.dirty) = some 1 := by decide

/-! ### Engine commands, barriers, rings -/

/-- The descriptor's offset in s5. -/
def stD : State := regs [(5, 64#64)]
theorem wit_captures : Captures stD (stD.rd 5#8) 0 ∧ stD.holder = false ∧ 2 ^ 18 ≤ ((regs [(5, 0x40000#64)]).rd 5#8).toNat ∧ (stG.rd 5#8).toNat < 2 ^ 18 ∧
    ((regs [(5, 4#64)]).rd 5#8).toNat % 64 ≠ 0 := by unfold Captures; decide
theorem wit_channel : ((st0.cell 0).chan 0).cmd = none ∧ RegSpec.isS 4#8 = true := by decide
theorem test_channel_idle : rg (after (exec (.chanRead { a := 4#8, ch := 1#2 }) st0)) 4 = 0#64 := by decide
theorem wit_barrier : Place stD (barrierSpace 0#2) (stD.rd 5#8).toNat 16 0 (padSpot 0 0 64) ∧ stD.holder = false ∧ stH.holder = true ∧ stD.btests 0 < 32 :=
  ⟨⟨by decide, by decide, by decide⟩, by decide, by decide, by decide⟩
def btA (o : AOp) : Access := st0.acc 64 (.port 0 64) 16 o
/-- A barrier word as R134 lays it out: NET, EXPECT, state and POSTED. -/
def bword (nt ex st : Nat) (posted : Nat) : Nat := nt * 2 ^ 64 + ex * 2 ^ 16 + st * 2 ^ 8 + posted
def stB (v : Nat) (f : Flight) : State := { fly1 f with mem := memPut [] (padKey 0 64) (bytesOf 16 v) }
theorem wit_barrier_post : Memory.Wf (stB (bword 0 0 0 0) (.access (btA (.bpost 4096)))).mem ∧ (stB (bword 0 0 0 0) (.access (btA (.bpost 4096)))).blocked 0 (btA (.bpost 4096)) = false ∧
    recording ((stB 0 (.access (btA .binit))).lr 0) = false ∧ (stB 0 (.access (btA .binit))).bad (padKey 0 64) 16 = false ∧
    bits (memRead (stB (bword 5 7 0 1) (.count 0 64 5 0 0)).mem (padKey 0 64) 16) 8 8 = 0 := by decide
-- R136's example: a post of 4096 bytes and pieces that sum to them complete the barrier, and its token is DONE with no count left.
theorem test_barrier_done : let s := after (exec (.barrierArrive 0) (stB (bword 4096 4096 0 1) (.count 0 64 4096 0 0)))
    bits (memRead s.mem (padKey 0 64) 16) 8 8 = 1 ∧ net (memRead s.mem (padKey 0 64) 16) = 0 := by decide
/-- A ring of two slots of 64 bytes at 0x80 bound to h1. -/
def ring0 : Ring := { desc := 64 * 2 ^ 160 + 2 * 2 ^ 128, ctl := 0x70 }
def stHb : State := stR.mapBank 0 false (fun b => { b with hnd := [(1, ring0)] })
theorem wit_handles : (Instr.hadvp { a := 4#8, c := 6#8, n := 1#4, sc := .cell }).wf = true ∧ Released stHb ∧ look stHb.b.hnd 1 = some ring0 ∧ look stHb.b.hnd 2 = none ∧
    (Instr.hstat { a := 4#8, n := 1#4 }).wf = true ∧ (Instr.hbindNone { a := 4#8, n := 1#4 }).wf = true ∧ (Instr.hbind { a := 4#8, b := 5#8, n := 1#4, loc := true }).wf = true ∧
    stHb.slots = [] ∧ Place stHb .l (stHb.rd 5#8).toNat 8 0 (padSpot 0 0 0) :=
  ⟨by decide, ⟨_, 0, rfl, rfl, by decide⟩, by decide, by decide, by decide, by decide, by decide, by decide, by unfold Place; decide⟩
def advA (cons : Bool) (m : Nat) : Access := st0.acc 0x70 (.port 0 0x70) 8 (.advance cons m 2 4#8)
/-- The control word with P and CC. -/
def stC (p c : Nat) (f : Flight) : State := { fly1 f with mem := memPut [] (padKey 0 0x70) (bytesOf 8 (c * 2 ^ 32 + p)) }
theorem wit_advance : Memory.Wf (stC 1 0 (.access (advA false 1))).mem ∧ (stC 1 0 (.access (advA false 1))).blocked 0 (advA false 1) = false ∧
    (stC 1 0 (.access (advA false 1))).bad (padKey 0 0x70) 8 = false ∧ bits (memRead (stC 1 0 (.access (advA false 1))).mem (padKey 0 0x70) 8) 0 32 = 1 := by decide
-- R271: a producer that would pass two filled slots of two is refused with status 2 and the count of filled slots.
theorem test_advance_full : (after (exec (.portArrival 0) (stC 2 0 (.access (advA false 1))))).fly.map (fun f => f.f) = [.reply (advA false 1) (2 * 2 ^ 48 + 2) none] := by decide
theorem wit_bind : (fly1 (.reply (st0.acc 64 (.port 0 64) 32 (.hbind 1 64 4#8)) ring0.desc none)).live 0 false 0 = true ∧
    inRect (st0.lr 0) (ringOwner 0 ((st0.acc 64 (.port 0 64) 32 (.hbind 1 64 4#8)).part ring0.desc)) = true := by decide
theorem wit_guards : (Instr.gset { n := 14#4, b := 5#8 }).wf = true ∧ (Instr.gclr 0#4).wf = true := by decide
theorem test_guard_true : readReg 0 (after (exec (.gset { n := 3#4, b := 5#8 }) (regs [(5, 9#64)]))).b 0xB3#8 = 3#64 := by decide
theorem wit_bloom_issue : stR.holder = false ∧ Released stR ∧ stH.holder = true := ⟨by decide, ⟨_, 0, rfl, rfl, by decide⟩, by decide⟩
def stQ (o : BloomOp) : State := fly1 (.bloom st0.who o 4#8)
theorem wit_bloom : (stQ (.push 0x3F800000 1 2)).flight 0 = some { n := 0, cell := 0, f := .bloom st0.who (.push 0x3F800000 1 2) 4#8 } ∧
    (look (stQ .stat).grids 0).map (fun g => (recording g.lr, g.replay)) = some (false, none) ∧ (∀ f ∈ (stQ .stat).fly, bloomBefore 0 0 f = false) ∧
    (stQ (.pop 5#8)).live 0 false 0 = true ∧ (decodeF fmt32 0x3F800000).isNan = false ∧ (decodeF fmt32 0x7FC00000).isNan = true ∧
    BloomEnt.beats { key := 0x40000000, node := 0, seq := 0 } { key := 0x3F800000, node := 0, seq := 0 } = true ∧
    bloomTop [{ key := 0x40000000, node := 0, seq := 0 }] = some { key := 0x40000000, node := 0, seq := 0 } := by decide
-- R349: a pop with no budget gives minus infinity as the key and all ones as the node.
theorem test_bloom_empty : rg (after (exec (.bloomQueueArrival 0) (stQ (.pop 5#8)))) 4 = 0xFFFFFFFFFF800000#64 := by decide
theorem wit_tensor : stD.holder = false ∧ (Instr.tidget { a := 4#8, b := 5#8, id := 3#12 }).wf = true ∧ Place stD .l (stD.rd 5#8).toNat 64 1 (padSpot 0 0 64) ∧
    HasRoom stD (padSpot 0 0 64) ∧ (fly1 (.tid st0.who 3 .inv 4#8)).flight 0 = some { n := 0, cell := 0, f := .tid st0.who 3 .inv 4#8 } ∧
    tidCheck (st0.lr 0) (2 ^ 10) ≠ 0 := ⟨by decide, by decide, ⟨by decide, by decide, by decide⟩, by unfold HasRoom; decide, by decide, by decide⟩

/-! ### Control flow and loops -/

theorem wit_branch : (Instr.b { cond := .eq, a := 5#8, b := 6#8, tslot := 2#3, loff := 3#32 }).wf = true ∧
    cond .eq (st0.rd 5#8) (st0.rd 6#8) = true ∧ cond .ne (st0.rd 5#8) (st0.rd 6#8) = false ∧ ((regs [(5, 0x5003#64)]).rd 5#8).toNat % 8 = 3 ∧
    ((regs [(5, 0x5003#64)]).rd 5#8).toNat / 8 % 8 = 0 ∧ 5 ≤ ((regs [(5, 0x5005#64)]).rd 5#8).toNat % 8 ∧ 2 ^ 57 ≤ ((regs [(5, 0x200000000000000#64)]).rd 5#8).toNat := by decide
-- R36: jl to slot 2 of the line three lines on; lk holds the successor's place.
theorem test_jl : let t := after (exec (.jl { tslot := 2#3, loff := 3#32 }) st0); t.b.pc = 0xC2#64 ∧ t.b.lk = 1#64 := by decide
def lsx : LsetR := { k := true, sloff := 0#20, sslot := 2#3, eloff := 0#20, eslot := 3#3, b := 6#8 }
/-- Loops set in the bank: loop 1 and loop 0 armed with the counts given, both ending at slot 0. -/
def stLp (n1 n0 : Nat) : State :=
  st0.mapBank 0 false (fun b => { b with lc1 := BitVec.ofNat 64 (2 ^ 63 + n1), lc0 := BitVec.ofNat 64 (if n0 = 0 then 0 else 2 ^ 63 + n0), ls0 := 0, le0 := 0 })
theorem wit_loops : (place st0 lsx.sloff.toInt 2).toNat ≤ (place st0 lsx.eloff.toInt 3).toNat ∧ (loopOf st0.b false).1 = false ∧
    (place st0 0 3).toNat < (place st0 1 0).toNat ∧ (loopOf (stLp 5 0).b true).1 = true ∧ (loopOf (stLp 5 0).b true).2.2.2 = (stLp 5 0).b.pc ∧
    (loopOf (stLp 1 7).b true).2.1 = 1 ∧ (loopOf (stLp 1 7).b false).1 = true ∧ (loopOf (stLp 1 7).b false).2.2.2 = (stLp 1 7).b.pc := by decide
theorem test_lset : loopOf (after (exec (.lset lsx) (regs [(6, 9#64)]))).b true = (true, 9, 2#64, 3#64) := by decide
theorem test_loop_back : loopOf (after (exec .nop (stLp 5 0))).b true = (true, 4, 0#64, 0#64) := by decide

/-! ### Tasks and events -/

set_option maxRecDepth 8000 in
theorem wit_caught : Caught stD (stD.rd 5#8) 8 0 0 ∧ Caught stD (stD.rd 5#8) 64 256 0 ∧ stD.cur.cell < 8192 := by unfold Caught; decide
theorem wit_send : Decides [(32 ≤ 0, 1), (8192 ≤ 9000 ∨ False, 2)] 2 ∧ Decides [(32 ≤ 0, 1), (8192 ≤ 5, 2)] 0 :=
  ⟨.inr ⟨[(32 ≤ 0, 1)], [], _, rfl, .inl (by decide), by simp⟩, .inl ⟨rfl, by simp⟩⟩
-- R387: a destination outside the grid gives status 2.
set_option maxRecDepth 4000 in
theorem test_send_outside : rg (after (exec (.send { a := 4#8, b := 5#8, c := 6#8, d := 0#8, hnd := 0#8, len := 0#8, pri := false, setm := 0#4 }) (regs [(5, 64#64), (6, 9000#64)]))) 4 = 2#64 := by decide
theorem wit_task_end : stR.b.task.map (·.ending) = some Ending.none ∧ stR.owes 0 stR.act = false ∧ stR.holder = false ∧ Released stR ∧ stH.owes 0 stH.act = false ∧ stH.holder = true ∧
    stR.sends = [] := ⟨by decide, by decide, by decide, ⟨_, 0, rfl, rfl, by decide⟩, by decide, by decide, by decide⟩
theorem test_tend : (after (exec (.tend .cell) stR)).b.task = none := by decide
def evx (k v : Nat) : EvOp := { kind := k, name := 7, val := v, acq := none }
theorem wit_event : (fly1 (.event st0.who (evx 0 5) 4#8)).flight 0 = some { n := 0, cell := 0, f := .event st0.who (evx 0 5) 4#8 } ∧
    (look (fly1 (.event st0.who (evx 0 5) 4#8)).grids 0).map (fun g => (recording g.lr, g.replay)) = some (false, none) := by decide
-- R391: signals add and are held at 2^32 - 1; the register takes the old count.
set_option maxRecDepth 4000 in
theorem test_event : ((look (after (exec (.eventHomeArrival 0) (fly1 (.event st0.who (evx 0 5) 4#8)))).grids 0).map (fun g => lookD g.events 7 0)) = some 5 := by decide
/-! ### Queues, starts and waits -/

def qm0 : QMsg := { msg := { hdr := 0, pay := [] } }
def stM (q : List QMsg) (sp : List (Nat × Nat × QMsg)) : State :=
  { (st0.mapCell 0 (fun c => { c with qlo := q, grid := some 0 })).mapDie 0 (fun d => { d with spillQ := sp }) with fly := [{ n := 0, cell := 0, f := .msg 0 qm0 }] }
theorem wit_queues : (stM [] []).flight 0 = some { n := 0, cell := 0, f := .msg 0 qm0 } ∧ (∀ f ∈ (stM [] []).fly, msgBefore 0 qm0 f = false) ∧
    ((stM [] []).cell 0).grid = some 0 ∧ recording ((stM [] []).lr 0) = false ∧ ((stM (List.replicate 31 qm0) []).cell 0).qlo.length = 31 ∧
    ((stM (List.replicate 32 qm0) []).cell 0).qlo.length = 32 ∧ ((stM [] [(0, 0, qm0)]).die 0).spillQ[0]? = some (0, 0, qm0) ∧
    ((stM [qm0] []).cell 0).ready = [] ∧ ((stM [qm0] []).cell 0).again = [] := by decide
/-- Memory in which virtual and physical addresses of the first GiB agree, by tables at 0x1000, 0x2000 and 0x3000. -/
def tables : List Host.Cell := memPut (memPut (memPut [] 0x1000 (bytesOf 8 0x2001)) 0x2000 (bytesOf 8 0x3001)) 0x3000 (bytesOf 8 0x31F)
/-- A grid of ASID 0 with that context, nothing running. -/
def stV : State := { (st0.mapCell 0 (fun c => { c with lo := {}, grid := some 0 })) with mem := tables, ctx := [(0, 0x1001)] }
def ry0 : Ready := { hi := false, msg := { hdr := 0, pay := [] }, pass := 0 }
def stT : State := stV.mapCell 0 (fun c => { c with ready := [ry0] })
theorem wit_task_start : Memory.Wf stT.mem ∧ (stT.cell 0).grid = some 0 ∧ (stT.bank 0 false).task = none ∧ (stT.cell 0).hi.task = none ∧ stT.pendAt 0 0 = false ∧
    (stT.cell 0).ready.filter (fun q => q.hi == false) = [ry0] ∧ (match stT.handlerPc 0 0 0 with | .ok r => r.1 == 0 | .error _ => false) = true ∧
    ry0.msg.pay.length ≤ 192 := by decide +kernel
theorem wit_picked : Picked [ry0] none ry0 ∧ Picked [ry0] (some 0) ry0 ∧ Picked [{ ry0 with pass := 16 }] none { ry0 with pass := 16 } := by
  refine ⟨?_, ?_, ?_⟩ <;> simp [Picked, OldestOf, ry0, Msg.handler, fld]
def spw : Spawn := { desc := 0, age := 1, msgid := 3, gts := 0, gid := 0, die := 0, parent := 1 }
def dep0 (p : List Nat) (e : Bool) : Dep := { p := spw, after := p, ev0 := e, ev1 := true, started := false, bufs := [] }
def stDp (l : List Dep) : State := { st0.mapDie 0 (fun d => { d with dep := l }) with fly := [{ n := 0, cell := 0, f := .dep spw .cell }] }
theorem wit_dependence : (stDp []).flight 0 = some { n := 0, cell := 0, f := .dep spw .cell } ∧ (look (stDp []).grids 0).isSome = true ∧
    ((stDp []).die 0).dep.length < 4096 ∧ ((stDp [dep0 [] true]).die 0).dep[0]? = some (dep0 [] true) ∧ (dep0 [9] true).after ≠ [] ∧ (dep0 [] false).ev0 = false := by decide
def stWd (b n : Nat) : State := { st0 with grids := [(0, { lr := 64 * 2 ^ 64 + b * 2 ^ 448, queue := 0, gtStart := 0 })], gt := BitVec.ofNat 64 n }.mapBank 0 false
  (fun k => k.mapTask (fun t => { t with first := some 0 }))
theorem wit_wdog : ((stWd 5 6).bank 0 false).task.map (fun k => (k.halted.isNone, k.ending, (stWd 5 6).usedCycles k, fld ((stWd 5 6).lr k.gid) 479 448)) =
    some (true, .none, 6, 5) ∧ ((stWd 5 5).bank 0 false).task.map (fun k => (stWd 5 5).usedCycles k) = some 5 := by decide
-- R381: more cycles than BUDGET, not as many, raise WDOG.
theorem test_wdog : ended (after (exec (.wdog 0 false) (stWd 5 5))) = none ∧ ended (after (exec (.wdog 0 false) (stWd 5 6))) = some (0x10, Cause.wdog.code) := by decide

/-! ### Streams -/

theorem wit_streams_issued : stG.holder = false ∧ stH.holder = true ∧ Released stR ∧ stR.holder = false ∧ Fits 0x3FFFC 4 4 ∧ ¬ Fits 0x3FFFC 4 8 ∧ ¬ Fits 0x40000 4 4 ∧
    Fits (stD.rd 5#8).toNat 64 64 :=
  ⟨by decide, by decide, ⟨_, 0, rfl, rfl, by decide⟩, by decide, by unfold Fits; decide, by unfold Fits; decide, by unfold Fits; decide, by unfold Fits; decide⟩
set_option maxRecDepth 8000 in
theorem wit_sact : Caught stD (stD.rd 5#8) 64 64 0 := by unfold Caught; decide
def strm (st : SStat) : Stream := { status := st, gid := 0, asid := 0, map := 0 }
def sAcc (op : StreamOp) : Access := st0.acc 0 (.hearth 5 0) 8 (.stream op 4#8 0)
def stS (e : Option Stream) (a : Access) : State :=
  { st0.mapDie 0 (fun d => { d with streams := match e with | some x => [(5, x)] | none => [], pool := { maps := [(0, { parent := none, depth := 1, count := 1, owned := true, ents := [] })], pages := [] } }) with
    fly := [{ n := 0, cell := 0, f := .access a }] }
theorem wit_streams : (stS (some (strm .live)) (sAcc .step)).flight 0 = some { n := 0, cell := 0, f := .access (sAcc .step) } ∧
    (stS (some (strm .live)) (sAcc .step)).blocked 0 (sAcc .step) = false ∧ (stS (some (strm .live)) (sAcc .step)).stream? (sAcc .step) 5 = some (strm .live) ∧
    (stS none (sAcc .kill)).stream? (sAcc .kill) 5 = none ∧ isReady (strm .live) ∧ ¬ isReady (strm .done) ∧ isReady { strm .atGate with disp := true } ∧ ¬ isReady (strm .atGate) ∧
    (stS (some (strm .live)) (sAcc .kill)).kids 5 = [] ∧ needsReady .step = true ∧ isRoot .step = false ∧ ((stS (some (strm .live)) (sAcc .step)).die 0).pool.find 0 0 = none ∧
    ((stS (some (strm .live)) (sAcc .step)).die 0).pool.frozen 0 = false := by unfold isReady; decide
-- R401: at horizon zero the stream is done and the answer is OK, 0; a horizon of one goes to zero and is done.
theorem test_sstep : (after (exec (.hearthSliceArrival 0) (stS (some { strm .live with horizon := 1 }) (sAcc .step)))).sEnt 5 =
    some { strm .done with horizon := 0, steps := 1 } := by decide
def pool1 : Pool := { maps := [(0, { parent := none, depth := 1, count := 1, owned := true, ents := [(0, 7)] })], pages := [(7, 1)] }
def stPg (spilled recent : List Nat) : State :=
  { st0.mapDie 0 (fun d => { d with streams := [(5, strm .live)], pool := pool1, spilled := spilled, recent := recent }) with
    plat := { hearthArea := [(0, (0, 192 * 2 ^ 20))] } }
theorem wit_pages : ((stPg [] [7]).die 0).pool.find 0 0 = some (7, 0) ∧ ((stPg [] [7]).die 0).pool.count 7 = 1 ∧ 7 ∈ ((stPg [] [7]).die 0).recent ∧
    7 ∉ ((stPg [] [7]).die 0).pins ∧ 7 ∉ ((stPg [] [7]).die 0).out ∧ 64 ≤ ((stPg [] [7]).die 0).freeFrames ∧ 7 ∈ ((stPg [7] []).die 0).out ∧ 0 < (stPg [] [7]).spillSlots 0 := by decide
def jc (r : Nat) : Stream := { strm .done with parent := 5, pv := true, ret := r }
def jAcc : Access := st0.acc 0 (.hearth 5 0) 8 (.stream (.join 0 0 false true 0) 4#8 0)
def stJ (b : Stream) : State :=
  { st0.mapDie 0 (fun d => { d with streams := [(5, strm .waitJoin), (6, jc 0x3F800000), (7, b)], pool := pool1 }) with
    fly := [{ n := 0, cell := 0, f := .sjoin st0.who jAcc (.join 0 0 false true 0) 4#8 }] }
theorem wit_join : (stJ (jc 0x40000000)).flight 0 = some { n := 0, cell := 0, f := .sjoin st0.who jAcc (.join 0 0 false true 0) 4#8 } ∧
    (stJ (jc 0)).stream? jAcc 5 = some (strm .waitJoin) ∧ ((stJ (jc 0x40000000)).kids 5).map (·.1) = [6, 7] ∧
    pairBeats (0x40000000, 7) (0x3F800000, 6) = true ∧ ((stJ { jc 0 with status := .live }).kids 5).any (fun x => x.2.status != .done) = true := by decide
/-- A gate of grid 0, layer 3, of die 0: valid, batches of one, two list slots, a timeout of 4 cycles, cells with FIELDS as R397 gives them. -/
def gcfg : Nat := 1 + 2 ^ 36 + 4 * 2 ^ 48 + 0x8000 * 2 ^ 64
def stGt (p : List Nat) (bt : List Batch) (busy : List Nat) : State :=
  { stV with grids := [(0, { lr := 64 * 2 ^ 64, queue := 0, gtStart := 0, gates := [(3, gcfg)] })], gt := 9 }.mapDie 0 (fun d => { d with streams := [(5, { strm .atGate with layer := 3 })], pool := pool1, gates := [(3, { parked := p, batches := bt, busy := busy })] })
def bt0 : Batch := { ids := [5], mine := [5], num := 0, slot := 0, age := 0, gid := 0, mark := 0 }
theorem wit_gates : look ((stGt [5] [] []).die 0).gates 3 = some { parked := [5] } ∧ (stGt [5] [] []).gateCfg 0 3 = some gcfg ∧ (stGt [5] [] []).gridOn 0 = true ∧
    gfld gcfg 47 41 + 1 = 1 ∧ gfld gcfg 63 48 = 4 ∧ (match (stGt [5] [] []).walk 0 0 0 (gfld gcfg 127 64 + 512 * 0) 1 with | .ok r => inGlobal (r.1.pa 0x8000) | .error _ => false) = true ∧
    (stGt [] [bt0] [0]).listed bt0 = true ∧ ((stGt [] [bt0] [0]).fewest (bit gcfg 35) (gCells gcfg)).isSome = true ∧ gfld gcfg 63 48 ≤ (stGt [5] [] []).gt.toNat - 0 := by decide +kernel
def migE : Nat := 2 ^ 233
def migM (l : Bool) : MigIn := { src := 1, xfer := 4, gangid := 7, die := 0, since := 0, entry := some migE, queue := [1], pages := [], last := l }
/-- A grid of gang 7. -/
def stMg (l : Bool) : State :=
  { st0 with grids := [(0, { lr := 64 * 2 ^ 64 + 2 ^ 944 + 7 * 2 ^ 896, queue := 0, gtStart := 0 })], plat := { migIn := [migM l] }, gt := 2 ^ 24 }
set_option maxRecDepth 8000 in
theorem wit_migration : (stMg true).plat.migIn[0]? = some (migM true) ∧ ((stMg true).resident 0).map (·.1) = [0] ∧ ((stMg true).resident 1) = [] ∧
    ((stMg true).resident 0).all (fun g => bit g.2 944 && fld g.2 927 896 == 7) = true ∧ freeStreams ((stMg true).die 0) 0 1 [] ≠ [] ∧
    (((stMg true).die 0).pool.create streamMaps).isSome = true ∧ (migM false).since + 2 ^ 24 ≤ (stMg false).gt.toNat := by decide
def stMa : State := { (st0.mapDie 0 (fun d => { d with streams := [(5, { strm .live with mig := true, xfer := 9 })] })) with fly := [{ n := 0, cell := 0, f := .mig st0.who 5 4#8 9 }] }
theorem wit_migack : stMa.flight 0 = some { n := 0, cell := 0, f := .mig st0.who 5 4#8 9 } ∧ stMa.sEnt 5 = some { strm .live with mig := true, xfer := 9 } ∧ stMa.plat.migTo 9 = none ∧
    stMa.live 0 false st0.act = true := by decide
/-! ### Atomic sets -/

def adl (n : BitVec 2) : AdeclR := { a := 4#8, b := 5#8, sz := 0#4, slot := n, dsp := false }
theorem wit_declare : stH.b.task.isSome = true ∧
    Decides [(∃ e, look stH.slots 0 = some e ∧ e.held = true, 1), ((stH.rd 5#8).toNat % 64 ≠ 0, 3)] 1 ∧
    Decides [(∃ e, look stD.slots 0 = some e ∧ e.held = true, 1), ((stD.rd 5#8).toNat % 64 ≠ 0, 3), (2 ^ 57 ≤ (stD.rd 5#8).toNat, 4)] 0 :=
  ⟨by decide, .inr ⟨[], _, _, rfl, ⟨_, rfl, rfl⟩, nofun⟩, .inl ⟨rfl, by
    have : look stD.slots 0 = none := by decide
    simp only [List.forall_mem_cons, this]
    exact ⟨by simp, by decide, by decide, nofun⟩⟩⟩
-- R186: a held slot gives 1; else the set is declared and the status is 0.
theorem test_adecl : rg (after (exec (.adecl (adl 0#2)) stH)) 4 = 1#64 ∧ rg (after (exec (.adecl (adl 1#2)) stH)) 4 = 2#64 ∧
    (after (exec (.adecl (adl 1#2)) stD)).slots = [(1, { dsp := false, base := 64, sz := 0 })] := by decide
def pty (c : Nat) (age : Word) : Party := { cell := c, hi := false, act := 0, age := age, msgid := 0, gid := 0, slot := 0 }
def lkq (r : Bool) (w : Party) : LockMsg := { asid := 0, dsp := true, base := 0x100, sz := 0, place := 2 ^ 41 + 0x100, who := w, release := r }
def lke (h : Option Party) (w : List Party) : Lock := { asid := 0, dsp := true, base := 0x100, sz := 0, place := 2 ^ 41 + 0x100, spill := false, holder := h, waiters := w }
def stLk (l : List Lock) (q : LockMsg) : State := { st0.mapCell 0 (fun c => { c with locks := l }) with fly := [{ n := 0, cell := 0, f := .lock q }] }
theorem wit_locks : (stLk [] (lkq false (pty 0 1))).flight 0 = some { n := 0, cell := 0, f := .lock (lkq false (pty 0 1)) } ∧
    ((stLk [] (lkq false (pty 0 1))).lockRoom (lkq false (pty 0 1)).home).isSome = true ∧ (stLk (List.replicate 32 { lke none [] with base := 0 }) (lkq false (pty 0 1))).lockRoom (lkq false (pty 0 1)).home = none ∧
    ((stLk [lke (some (pty 0 9)) []] (lkq false (pty 1 1))).locksAt (lkq false (pty 1 1)).home).find? (·.isOf (lkq false (pty 1 1))) = some (lke (some (pty 0 9)) []) ∧
    ((stLk [lke (some (pty 0 9)) []] (lkq false (pty 1 1))).bank 0 false).task.map (fun k => (k.act, k.ending)) = some (0, .none) ∧
    older (pty 1 1).age 0 (pty 0 9).age 0 = true ∧ older (pty 0 9).age 0 (pty 1 1).age 0 = false := by decide
theorem wit_release : ((stLk [lke (some (pty 0 1)) [pty 3 2]] (lkq true (pty 0 1))).locksAt (lkq true (pty 0 1)).home).find? (·.isOf (lkq true (pty 0 1))) =
    some (lke (some (pty 0 1)) [pty 3 2]) ∧ (pty 0 1).act = (lkq true (pty 0 1)).who.act := by decide
theorem wit_grant : ({ stH with fly := [{ n := 0, cell := 0, f := .grant (lkq false (pty 0 1)) }] } : State).flight 0 = some { n := 0, cell := 0, f := .grant (lkq false (pty 0 1)) } ∧
    stH.live 0 false 0 = true := by decide
def stE (f : Task → Task) (l : List CommitLine) : State := stH.mapBank 0 false (fun b => { b.mapTask f with commit := l })
def cml : CommitLine := { dsp := false, key := 0, dst := 0x10000, mask := 1, data := 5 }
theorem wit_endings : ((stE (fun k => { k with wounded := true }) []).bank 0 false).task.map (·.wounded) = some true ∧
    ((stE (fun k => { k with ending := .draining }) [cml]).bank 0 false).task.map (fun k => (k.ending, k.wounded)) = some (.draining, false) ∧
    (stE (fun k => { k with ending := .draining }) [cml]).l1Look 0 0x10000 = none ∧
    ((stE (fun k => { k with ending := .drained }) []).bank 0 false).task.map (·.ending) = some .drained ∧ stG.fly = [] := by decide
def stAw (gt : Word) : State :=
  { st0 with gt := gt, grids := [(0, { lr := 64 * 2 ^ 64 + 5 * 2 ^ 480, queue := 0, gtStart := 0 })] }.mapBank 0 false (fun b => b.mapTask (fun k => { k with waitFrom := some 0, slots := [(0, { dsp := false, base := 0, sz := 0, asked := true })] }))
theorem wit_aset_wait : ((stAw 6).bank 0 false).task.map (fun k => (k.waitFrom, k.waited, k.slots.map (fun e => e.2.asked && !e.2.held), fld ((stAw 6).lr k.gid) 511 480)) =
    some (some 0, 0, [true], 5) := by decide
theorem test_aset_wait : ended (after (exec (.asetWaitLimit 0 false) (stAw 5))) = none ∧ (ended (after (exec (.asetWaitLimit 0 false) (stAw 6)))).isSome = true := by decide

/-! ### Masks -/

theorem wit_tile : let prog : List (BitVec 32) := [0x04000000#32, 0x08800000#32, 0x34100000#32, 0x48000000#32]
    (runMask prog { tile := true, q := { lo := 8, hi := 9 }, k := { lo := 0, hi := 8 } }).res = some .t ∧
    (runMask prog { tile := true, q := { lo := 0, hi := 3 }, k := { lo := 4, hi := 8 } }).res = some .f ∧
    (runMask prog { tile := true, q := { lo := 0, hi := 4 }, k := { lo := 4, hi := 8 } }).res = some .m := by decide

/-! ### Translation and lines -/

def xq (va : Nat) (k : Nat) : Xlat := { asid := 0, va := va, kind := k, cell := 0, hi := false, act := 0 }
def wk (va k lvl t : Nat) : Walk := { x := xq va k, joined := [], lvl := lvl, table := t }
def stX (f : Flight) : State := { stV with fly := [{ n := 0, cell := 0, f := f }] }
theorem wit_walk : (stX (.walk (wk 0 0 4 0))).flight 0 = some { n := 0, cell := 0, f := .walk (wk 0 0 4 0) } ∧ Memory.Wf stV.mem ∧ bit (lookD stV.ctx 0 0) 0 = true ∧
    bit (lookD st0.ctx 0 0) 0 = false ∧ fld (lookD stV.ctx 0 0) 51 12 * 4096 = 0x1000 ∧ (∀ f ∈ (stX (.walk (wk 0 0 4 0))).fly, walkOn 0 f.f = none) ∧
    ((stX (.walk (wk 0 0 4 0))).die 0).wcFind 0 0 = none ∧ (stX (.look (xq 0 0))).cluTlb? 0 0 0 = none ∧
    pteFault (memRead tables 0x1000 8) 4 0 = none ∧ bit (memRead tables 0x1000 8) 1 = false ∧ pteFault (memRead tables 0x3000 8) 2 0 = none ∧
    bit (memRead tables 0x3000 8) 1 = true ∧ (pteFault (memRead tables 0x4000 8) 2 0).isSome = true ∧ pteLeaf (memRead tables 0x3000 8) 2 = true ∧
    fld (2 ^ 52 * 0 + 2 ^ 40) 51 12 * 4096 = 2 ^ 40 := by decide +kernel
theorem wit_install : ∃ e, (stX (.winst (wk 0 0 2 0x3000) e)).flight 0 = some { n := 0, cell := 0, f := .winst (wk 0 0 2 0x3000) e } ∧ Holds4 e 0 0 ∧ e.size = 30 :=
  ⟨{ te with size := 30, frame := 0, leaf := 0x3000 }, by decide, ⟨.inr rfl, by decide⟩, rfl⟩
theorem wit_dirty : (stX (.dirty (xq 0 1) { te with size := 30, frame := 0, leaf := 0x3000, dirty := false })).flight 0 =
    some { n := 0, cell := 0, f := .dirty (xq 0 1) { te with size := 30, frame := 0, leaf := 0x3000, dirty := false } } ∧
    ({ te with size := 30, leaf := 0x3000 } : TlbEnt).level = 2 := by decide
-- R66: a walk for a write marks ACC and DIRTY of the leaf it reaches; the entry holds R, W and X.
theorem test_walk_leaf : let t := after (exec (.walkEntryRead 0) { stX (.wread (wk 0x123 1 2 0x3000)) with mem := memPut tables 0x3000 (bytesOf 8 0x1F) })
    memRead t.mem 0x3000 8 = 0x31F := by decide +kernel
theorem wit_tlbi : stG.holder = false ∧ stH.holder = true ∧ (fly1 (.tlbi st0.who (some 4#8) 1 0 0 none 0)).accessesLeft none 0 = false ∧
    (fly2 (.tlbi st0.who (some 4#8) 1 0 0 none 5) (.access (accAt (.home 8) ldop 8))).accessesLeft none 5 = true := by decide
def lineA : Nat := 0
def stF (mem : List Host.Cell) (r : Bool) : State :=
  { stG.mapBank 0 false (fun b => { b with line := none, refetch := r }) with mem := mem }
theorem wit_line : let s := stF [] false
    s.runs 0 false = true ∧ wantLine (s.bank 0 false) = some 0 ∧ (s.bank 0 false).fell = false ∧ inCode (s.lr 0) 0 = true ∧ tlbFind (s.cell 0).tlb (asidOf (s.lr 0)) 0 = some te ∧
    te.exec = true ∧ te.mtype = 0 ∧ te.ue = false ∧ s.bad 0x10000 64 = false ∧ s.l1Look 0 0x10000 = none ∧ lineOk (memRead s.mem 0x10000 64) = true ∧
    lineOk (memRead (memPut [] 0x10000 (bytesOf 1 1)) 0x10000 64) = false := by decide +kernel
def repx : RepR := { n := 1#3, cntm1 := 1#16, stag := 1#8, mark := 5#20 }
def vaddW : Nat := (word 0x10 0 0x44 0x45 0x46 0 (2 ^ 44)).toNat
def stRp (w : Nat) : State := st0.mapBank 0 false (fun b => { b with line := some { addr := 0, data := w * 2 ^ 96 } })
theorem wit_rep : (stRp vaddW).b.line = some { addr := 0, data := vaddW * 2 ^ 96 } ∧ ((stRp vaddW).b.pc.toNat % 64 + repx.n.toNat ≤ 4) ∧
    (match (stRp vaddW).capture (stRp vaddW) { addr := 0, data := vaddW * 2 ^ 96 } 0 1 with | .ok r => r.1 == [(1, vaddW)] | .error _ => false) = true ∧
    repFault 5 1 2 0 1 vaddW = none ∧ (repFault 5 1 2 0 1 0x840F00060000000004000000).isSome = true ∧ armed (stRp vaddW).b false = false := by decide +kernel
def rep1 : Rep := { body := [(1, vaddW)], iter := 1, count := 2, stag := 1, mark := 5, at_ := 0 }
def stRi : State := stRp vaddW |>.mapBank 0 false (fun b => { b with rep := some rep1 })
def vaddI : Instr := .vadd { ty := .i32, a := 0x45#8, b := 0x45#8, c := 0x47#8, msk := 0#3 }
theorem wit_rep_iteration : (stRi.bank 0 false).rep = some rep1 ∧ rep1.body[rep1.at_]? = some (1, vaddW) ∧ (stagInstr rep1 0 1).isSome = true ∧ stRi.repRuns 0 false = true ∧
    rep1.xfault = none := by decide +kernel

/-! ### Counters, traps and the window -/

theorem wit_counters : (stG.b.task.map (·.gid)) = some 0 ∧ ((look stG.grids 0).map (fun g => (recording g.lr, g.trctl))) = some (false, true) ∧ stG.holder = false ∧
    stG.gt.toNat < ((regs [(5, 9#64)]).rd 5#8).toNat := by decide
/-- A grid that records into an area of one page at 0x5000. -/
def stTr : State := { st0 with grids := [(0, { lr := 64 * 2 ^ 64 + 2 ^ 420, queue := 0, gtStart := 0 })], ctx := [(0, 5 * 2 ^ 460 + 1 * 2 ^ 440)] }
theorem wit_trace : stTr.holder = false ∧ recording (stTr.lr 0) = true ∧ Memory.Wf stTr.mem ∧ 0 + 32 ≤ fld (lookD stTr.ctx 0 0) 459 440 * 4096 := by decide
-- R433: a record of the task's own; TRACE gives 0.
set_option maxRecDepth 8000 in
theorem test_trace : let t := after (exec (.trace { a := 4#8, b := 5#8, c := 6#8 }) (stTr.mapBank 0 false (fun b => { b with s := [(5, 7#64)] })))
    rg t 4 = 0#64 ∧ memRead t.mem 0x5010 8 = 7 ∧ memRead t.mem 0x5007 1 = 24 := by decide +kernel
def stU (gt : Word) : State := { st0.mapBank 0 false (fun b => b.mapTask (fun k => { k with until_ := some (9, 4#8) })) with gt := gt }
theorem wit_until : ((stU 9).bank 0 false).task.map (·.until_) = some (some (9, 4#8)) ∧ (stU 9).runs 0 false = true ∧ (stU 8).gt.toNat < 9 := by decide
set_option maxRecDepth 8000 in
theorem test_until : rg (after (exec (.timeUntilDeadline 0 false) (stU 9))) 4 = 9#64 := by decide
/-- A grid whose supervisor is cell 0 of the rectangle, the trapping task in a bank of cell 0. -/
def stSup (hold : Nat) : State :=
  { st0 with grids := [(0, { lr := 64 * 2 ^ 64 + 2 ^ 404, queue := 0, gtStart := 0 })] }.mapCell 0 (fun c => { c with hold := List.replicate hold { r := ry0, trap := { cause := .undef, pc := 0 } }, hi := c.lo })
theorem wit_traps : superOf (st0.lr 0) = none ∧ superOf ((stSup 0).lr 0) = some 0 ∧ ((stSup 0).bank 0 true).task.isSome = true ∧ ((stSup 7).cell 0).hold.length = 7 ∧
    ((stSup 8).cell 0).hold.length = 8 ∧ Cause.halting .brk = true ∧ Cause.halting .asetWait = false ∧ (look (stSup 0).grids 0).map (·.ending) = some none := by decide
theorem test_brk_no_supervisor : (ended (after (exec (.brk 7#32) st0))) = none := by decide
theorem test_trap_low : ended (after (exec (.trap { b := 5#8, code := 3#32 }) st0)) = some (0x10, Cause.trap.code) := by decide
def halt0 : Trap := { cause := .brk, pc := 0 }
/-- Cell 0's high bank is the supervisor's; its low bank holds a halted task. -/
def stWin (o : WinOp) : State :=
  { (stSup 0).mapBank 0 false (fun b => { b.mapTask (fun k => { k with halted := some halt0 }) with s := [(7, 77)] }) with
    cur := { cell := 0, hi := true }, fly := [{ n := 0, cell := 0, f := .window { cell := 0, hi := true, act := 0, msgid := 0, gid := 0 } 0 o 4#8 }] }
theorem wit_window : superOf (stWin (.rd 7 5#8)).myLr = some (stWin (.rd 7 5#8)).cur.cell ∧
    (match (stWin (.rd 7 5#8)).winTarget 0 0 with | .halted c hi t => c == 0 && !hi && t == halt0 | _ => false) = true ∧
    (match (stWin (.rd 7 5#8)).winTarget 0 (2 ^ 40) with | .gone => true | _ => false) = true ∧ winBad 7 = false ∧ winWrites 7#8 = true ∧
    (stWin (.resume 0)).live 0 true 0 = true ∧ (stWin (.resume 0)).flight 0 = some { n := 0, cell := 0, f := .window { cell := 0, hi := true, act := 0, msgid := 0, gid := 0 } 0 (.resume 0) 4#8 } ∧
    (∀ f ∈ (stWin (.resume 0)).fly, winBefore 0 0 0 f = false) := by decide
theorem test_winrd : rg (after (exec (.windowOpArrival 0) (stWin (.rd 7 5#8)))) 5 = 77#64 := by decide
theorem wit_window_held : (match ({ stSup 1 with cur := { cell := 0, hi := true } } : State).winTarget 0 0 with | .held c e => c == 0 && e.r == ry0 | _ => false) = true := by decide
/-! ### Engines -/

def cmd (o : CmdOp) (arg : Nat) : Cmd := { op := o, guard := 15, cell := 0, hi := false, gid := 0, msgid := 0, act := 0, pc := 0, tok := some 4#8, sc := .cell, arg := arg }
def stTk (o : CmdOp) (tok : Option RegSpec) : State := fly1 (.token { cmd := { cmd o 0 with tok := tok }, status := 0, val := 7 })
theorem wit_token : (stTk .cpy (some 4#8)).flight 0 = some { n := 0, cell := 0, f := .token { cmd := cmd .cpy 0, status := 0, val := 7 } } ∧
    (stTk .cpy (some 4#8)).live 0 false 0 = true ∧ ((cmd .atq 0).op.queue = .crucible) ∧ recording ((stTk .atq none).lr 0) = false := by decide
theorem test_token : rg (after (exec (.tokenWrite 0) (stTk .cpy (some 4#8)))) 4 = 7#64 := by decide
def stQu (f : Cell → Cell) : State := stG.mapCell 0 (fun c => f { c with grid := some 0 })
def kG (o : CmdOp) (gd : Nat) : Cmd := { cmd o 0 with guard := gd }
set_option maxRecDepth 8000 in
theorem wit_queue : ((stQu (fun c => { c with cruc := [cmd .atcnt 0] })).cell 0).queue .crucible = [cmd .atcnt 0] ∧ stG.verdict (cmd .atcnt 0) = some true ∧
    stG.verdict (kG .atcnt 3) = none ∧ (stG.mapBank 0 false (fun b => { b with guards := [(3, false)] })).verdict (kG .atcnt 3) = some false ∧ stG.released (cmd .atcnt 0) = true ∧
    (stG.slot 0 0 .cq).isSome = true ∧ stG.stepsOn 0 (fun _ => true) = false ∧ (stG.cell 0).ard = none ∧ (cmd .azero 0).op.queue = .anvil := by decide
/-- A read word: row 0 and one row of the first buffer as 32-bit integers, to v0 and v1, the block at 0x100. -/
def ardW (dst : Nat) : Nat := dst * 2 ^ 42 + 0x100 * 2 ^ 18 + 2 ^ 48
def acc1 : Acc := { kind := .int32, el := [(0, 5)] }
def stArd (r : Option Ring) (dst : Nat) : State := stQu (fun c => { c with acc := [(0, acc1)], anvil := [{ cmd .ard (ardW dst) with ringD := r }] })
theorem wit_ard : (stArd none 0).verdict (cmd .ard (ardW 0)) = some true ∧ ardTy (ardW 0) = 1 ∧ ArdFit (stArd none 0) 0 (cmd .ard (ardW 0)) ∧ ArdFit (stArd none 1) 0 (cmd .ard (ardW 1)) ∧
    ArdFit (stArd (some ring0) 2) 0 { cmd .ard (ardW 2) with ringD := some ring0 } ∧ fld (ardW 2) 43 42 = 2 ∧ (stArd (some { ring0 with desc := 128 * 2 ^ 160 + 2 * 2 ^ 128 }) 2).ringUnfit 0 (ardBytes (ardW 2)) (some { ring0 with desc := 128 * 2 ^ 160 + 2 * 2 ^ 128 }) = false ∧
    cwFilled 2 ((stArd (some ring0) 2).ringWord ring0 0) = some 0 := by unfold ArdFit; decide +kernel
theorem wit_ard_row : ((stQu (fun c => { c with ard := some { cmd := cmd .ard (ardW 0), size := 128, rows := [5], loc := none, flags := 0 } })).cell 0).ard.map (fun a => (a.rows.length, a.row, fld a.cmd.arg 43 42, fld a.cmd.arg 41 37 + (ardBytes a.cmd.arg + 63) / 64)) = some (1, 0, 0, 2) ∧
    ardBytes (ardW 0) = 128 ∧ stG.live 0 false 0 = true ∧ 0x100 % 64 = 0 ∧ 0x100 + 0 * 128 + 128 ≤ 0x3FFC0 := by decide
-- R292 and R293: the row of an attached ARD to DST 0 is in its vector register when the last row lands.
theorem test_ard : (readVec (after (exec (.ardRowLand 0) (stQu (fun c => { c with ard := some { cmd := cmd .ard (ardW 0), size := 128, rows := [5], loc := none, flags := 0 } })))).b 0x40#8).toNat = 5 := by decide +kernel
/-- A copy of two 32-bit words from 0x100 to 0x200 of the scratchpad. -/
def cpyD : Nat := 0x100 + 0x200 * 2 ^ 64 + 2 * 2 ^ 128 + 2 ^ 144 + 2 ^ 160 + 2 ^ 176 + 2 ^ 428 + 2 ^ 432 + 2 * 2 ^ 436
def stCp (st : Bool) (pos out : Nat) : State := stQu (fun c => { c with tongs := [cmd .cpy cpyD], chans := [(0, { cmd := if st then some { cmd .cpy cpyD with started := true } else none, w := { pos := pos }, out := out })] })
theorem wit_copy : (stCp false 0 0).toStart 0 = none ∧ ((stCp false 0 0).cell 0).tongs = [cmd .cpy cpyD] ∧ (cmd .cpy cpyD).preStatus ((stCp false 0 0).lr 0) = none ∧
    (stCp false 0 0).released (cmd .cpy cpyD) = true ∧ (cmd .cpy cpyD).total = 2 ∧ (cmd .cpy cpyD).z = 4 ∧ (cmd .cpy cpyD).space false = 1 ∧ (cmd .cpy cpyD).space true = 1 ∧
    (stCp true 0 0).copyEl (cmd .cpy cpyD) {} 0 = .move (some 0x100) 0x200 ∧ ((stCp true 0 0).slot 0 0 .tongs).isSome = true ∧ ((stCp true 0 0).cell 0).watch = [] ∧
    (stCp true 0 0).bad (padKey 0 0x100) 64 = false ∧ ((cmd .cpy (cpyD - 2 ^ 436)).preStatus ((stCp false 0 0).lr 0)).isNone = true ∧
    ((cmd .cpy (cpyD + 2)).preStatus ((stCp false 0 0).lr 0)) = some 0x13 ∧
    (stQu (fun c => { c with chans := [(0, { cmd := some (cmd .cpy cpyD) })] })).toStart 0 = some (0, cmd .cpy cpyD) := by decide +kernel
theorem wit_copy_ack : ({ stCp true 2 1 with fly := [{ n := 0, cell := 0, f := .pieceAck 0 0 8 0 }] } : State).flight 0 = some { n := 0, cell := 0, f := .pieceAck 0 0 8 0 } ∧
    (((stCp true 2 1).cell 0).chan 0).out = 1 ∧ 1 < (((stCp true 2 2).cell 0).chan 0).out ∧ (cmd .cpy cpyD).total ≤ (((stCp true 2 1).cell 0).chan 0).w.pos := by decide
-- R117: a piece is read in one step and lands in a later one.
def stCpR : State := { stCp true 0 0 with mem := memPut [] (padKey 0 0x100) (bytesOf 8 0x1122334455667788) }
theorem test_copy_read : (((after (exec (.tongsPieceLand 0 0) stCpR)).cell 0).chan 0).w.got = some { els := 2, data := 0x1122334455667788, bad := false, dst := 0x200 } := by decide +kernel
theorem test_copy_land : memRead (after (exec (.tongsPieceLand 0 0) (after (exec (.tongsPieceLand 0 0) stCpR)))).mem (padKey 0 0x200) 8 = 0x1122334455667788 := by decide +kernel
def stPc (pos : Nat) : State := { stCp false 0 0 with grids := [(0, { lr := 64 * 2 ^ 64, queue := 0, gtStart := 0, pend := [{ cmd := cmd .cpy cpyD, w := { pos := pos } }] })] }
theorem wit_pending : (look (stPc 0).grids 0).map (fun x => (x.pend.length, x.resid)) = some (1, .running) ∧ (cmd .cpy cpyD).total ≤ 2 ∧
    (∀ c ∈ (stPc 0).pendCells { cmd := cmd .cpy cpyD }, ((stPc 0).cell c).grid = some 0) ∧
    (match (stPc 0).piece (cmd .cpy cpyD) {} [] none with | .went w _ => w.got.map (·.els) == some 2 | _ => false) = true := by decide +kernel
/-- Entries of a valid tensor of integers (code 6, N8) for a step of one cell, and its rings of 4096-byte slots. -/
def tE : Nat := 2 ^ 10 + 6 * 2 ^ 28
def rg4 (o : Nat) : Ring := { desc := 4096 * 2 ^ 160 + 2 * 2 ^ 128, ctl := o }
def am (id : Nat) : Cmd := { cmd .amma (2 ^ 61) with ea := tE, eb := tE, ringC := some (rg4 0x1000), ringD := some (rg4 0x8000), id := id, started := true }
def gs0 (ph : Phase) : GangStep := { (stG.gangOf 0) with joined := [(0, am 3)], phase := ph, opA := [(0, 2)], opB := [(0, 3)] }
def stAm (l : List GangStep) : State := { stQu (fun c => { c with anvil := [am 3] }) with steps := l, mem := memPut (memPut [] (padKey 0 0x1000) (bytesOf 8 1)) (padKey 0 0x8000) (bytesOf 8 1) }
theorem wit_amma : ((stAm []).cell 0).anvil = [am 3] ∧ ((stAm []).cell 0).gang ≤ 2 ∧ (stAm []).hasJoined (am 3) = false ∧ (stAm [gs0 .joining]).hasJoined (am 3) = true ∧
    (stAm []).verdict (am 3) = some true ∧ (gs0 .joining).lead = some (am 3) ∧ (gs0 .joining).full = true ∧ ({ gs0 .joining with joined := [] } : GangStep).full = false ∧
    (gs0 .joining).agrees = true ∧ (stAm [gs0 .joining]).stepStatus (gs0 .joining) (am 3) = 0 ∧ sameGang (gs0 .joining) ((stAm []).gangOf 0) = true ∧
    ((stAm []).cluster 0).bus = false ∧ stepForm (tFmt tE) (tFmt tE) = some (128, 1, .int32) := by decide +kernel
theorem wit_amma_checks : stepBad (2 ^ 60) tE tE = true ∧ stepForm 6 12 = none ∧ (stAm []).ringUnfit 0 4096 none = true ∧ (stAm []).ringUnfit 0 4096 (some (rg4 0x1000)) = false ∧
    (stAm []).ringUnfit 0 8192 (some (rg4 0x1000)) = true := by decide +kernel
theorem wit_fetch : let s := stAm [gs0 .ready]
    s.released (am 3) = true ∧ cwFilled 2 (s.ringWord (rg4 0x1000) 0) = some 1 ∧ cwFilled 2 (s.ringWord (rg4 0x8000) 0) = some 1 ∧ (am 3).ska = 0 ∧ (am 3).skb = 0 ∧
    s.scalesBad (gs0 .ready) (am 3) = false ∧ (gs0 .fetching).cells = [0] ∧ (s.cell 0).opc = [] ∧ s.bad ((rg4 0x1000).slotLoc 0 0).key 4096 = false ∧ bit (am 3).cnt 9 = false ∧
    s.bad ((rg4 0x8000).slotLoc 0 0).key 4096 = false ∧ bit (am 3).cnt 10 = false ∧ (gs0 .fetched).joined.map (·.1) = [0] := by decide +kernel
-- R277: a step of integers with INIT; the first element is the sum of the products, here 2 times 3.
theorem test_amma_sum : (stepEl 6 6 [2, 0] [3, 0] 0 0 true 9).bits = 6 ∧ (stepEl 6 6 [2, 1] [3, 1] 0 0 false 9).bits = 16 := by decide +kernel
/-! ### Crucibles -/

def sq0 : Seq := { asid := 0, gid := 0, map := 0, parent := none, children := [], nl := 1, nkvh := 1, len := 0, floor := 0, pers := false, stream := none, ctr := [] }
def crx (q : List Query) : Crucible :=
  { seqs := [(0, sq0)], gens := [(0, 1)], pool := { maps := [(0, { parent := none, depth := 1, count := 1, owned := true, ents := [(0, 7)] })], pages := [(7, 1)] }, kv := [(7, { fill := 1 })], recent := [7], slots := [(3, (0, [0x48000000#32]))], queries := q }
def stCr (q : List Query) (f : Flight) : State := { (stQu (fun c => c)).mapCruc 0 (fun _ => crx q) with fly := [{ n := 0, cell := 0, f := f }] }
/-- ATMSK of one word at 0x40 into slot 3; the word is MVIS b0, which nothing has set. -/
def kMsk : Cmd := cmd .atmsk (2 ^ 46 + 0x40 + 3 * 2 ^ 52)
theorem wit_cruc : (stCr [] (.cruc kMsk)).flight 0 = some { n := 0, cell := 0, f := .cruc kMsk } ∧ (stCr [] (.cruc kMsk)).crucBlocked 0 kMsk = false ∧ fld kMsk.arg 51 46 = 1 ∧
    (maskCheck [0x48000000#32]).isSome = true ∧ maskCheck [0x04000000#32, 0x08800000#32, 0x34100000#32, 0x48000000#32] = none ∧ (maskCheck [0#32]).map (·.1) = some .op ∧
    (maskCheck [0x04000000#32]).map (·.1) = some .novis := by decide
theorem wit_mask_status : Decides [(fld kMsk.arg 45 18 ≠ 0 ∨ fld kMsk.arg 51 46 = 0 ∨ fld kMsk.arg 17 0 % 4 ≠ 0, 0x60), (2 ^ 18 < fld kMsk.arg 17 0 + 4, 0x6C)] 0 :=
  .inl ⟨rfl, by simp only [List.forall_mem_cons]; exact ⟨by decide, by decide, nofun⟩⟩
def seqx (op d : Nat) : Cmd := cmd (.atseq op) d
theorem wit_sequences : seqBad 0 0 = false ∧ seqBad 1 0 = true ∧ seqBad 1 (2 ^ 156) = false ∧ (stCr [] (.cruc (seqx 4 0))).seq? 0 (2 ^ 18) = some sq0 ∧
    (stCr [] (.cruc (seqx 4 0))).seq? 0 (2 * 2 ^ 18) = none ∧ look (crx []).seqs 1 = none ∧ ((crx []).pool.create seqMaps).isSome = true ∧ (crx []).pool.frozen 0 = false ∧
    ((crx []).pool.map? 0).isSome = true ∧ recording ((stCr [] (.cruc (seqx 4 0))).lr 0) = false ∧ ((stCr [] (.cruc (seqx 4 0))).cell 0).watch = [] ∧ 1 < seqEntries := by decide
-- R315: ATSEQ create gives the handle of the lowest free entry, with its GEN, for the scratchpad to hold.
theorem test_atseq : let t := after (exec (.crucibleCommandArrival 0) (stCr [] (.cruc (seqx 0 (0x40 * 2 ^ 174)))))
    t.fly.filterMap (fun f => match f.f with | .token w => w.out | _ => none) = [(0x40, 4, 2 ^ 18 + 1)] := by decide +kernel
/-- An append of one row of the sequence, its rows and tags at 0x1000, 0x2000 and 0x3000. -/
def appD : Nat := 2 ^ 18 * 2 ^ 224 + 2 ^ 192 + 0x1000 * 2 ^ 174 + 0x2000 * 2 ^ 156 + 0x3000 * 2 ^ 138
theorem wit_append : Decides (appChecks (stCr [] (.cruc (cmd .atapp appD))) (cmd .atapp appD)) 0 ∧ (cmd .atapp appD).started = false ∧
    Decides (appChecks (stCr [] (.cruc (cmd .atapp (appD + 1)))) (cmd .atapp (appD + 1))) 0x60 := by
  refine ⟨.inl ⟨rfl, ?_⟩, by decide, .inr ⟨[], _, _, rfl, by decide, nofun⟩⟩
  have h : (stCr [] (.cruc (cmd .atapp appD))).seq? ((stCr [] (.cruc (cmd .atapp appD))).cmdAsid (cmd .atapp appD)) (fld (cmd .atapp appD).arg 255 224) = some sq0 := by decide
  simp only [appChecks, List.forall_mem_cons, h, Option.some.injEq, exists_eq_left']
  exact ⟨by decide, by decide, by decide, by decide, by decide, by decide +kernel, by decide +kernel, by decide +kernel, nofun⟩
theorem wit_pages_kv : (crx []).freeFrames ≥ 256 ∧ (crx []).used 7 = true ∧ (crx []).page 7 = { fill := 1 } ∧ 7 ∉ (crx []).pins ∧ (crx []).recent = [] ++ 7 :: [] ∧ 0 < (crx []).freeFrames := by decide +kernel
/-- A query of one row on the sequence with mask slot 3, its results to ring0 of 32768 bytes a slot. -/
def rgq : Ring := { desc := 0x8000 * 2 ^ 160 + 2 * 2 ^ 128, ctl := 0x8000 }
def atqD : Nat := 2 ^ 18 * 2 ^ 192 + 0x1000 * 2 ^ 174 + 0x3000 * 2 ^ 156 + 3 * 2 ^ 146
def kQ : Cmd := { cmd .atq atqD with ringD := some rgq }
def qry (pages : List (Nat × Nat)) : Query :=
  { cmd := kQ, seq := 2 ^ 18, floor := 0, prog := [0x04000000#32, 0x08800000#32, 0x34100000#32, 0x48000000#32], pages := pages, pinned := [7], rows := [{ pos := 0, doc := 0, q := List.replicate 128 0, m := 0, l := 0, o := [], seen := false }], full := 0, part := 0, empty := 0, poisoned := false }
theorem wit_query : Decides (queryChecks (stCr [] (.accept kQ)) kQ) 0 ∧ (stCr [] (.accept kQ)).crucBlocked 0 kQ = false ∧ look (crx []).slots (fld kQ.arg 155 146) = some (0, [0x48000000#32]) := by
  refine ⟨.inl ⟨rfl, ?_⟩, by decide, by decide⟩
  have h : (stCr [] (.accept kQ)).seq? ((stCr [] (.accept kQ)).cmdAsid kQ) (fld kQ.arg 223 192) = some sq0 := by decide
  have h2 : look ((stCr [] (.accept kQ)).cruc kQ.crucible).slots (fld kQ.arg 155 146) = some (0, [0x48000000#32]) := by decide
  have h3 : kQ.ringD = some rgq := rfl
  simp only [queryChecks, List.forall_mem_cons, h, h2, h3, Option.some.injEq, exists_eq_left', forall_eq']
  exact ⟨by decide, by decide, by decide, by decide, by decide +kernel, by decide, by decide +kernel, nofun⟩
theorem wit_tile_fetch : ((stCr [qry [(0, 7)]] (.accept kQ)).cruc 0).queries[0]? = some (qry [(0, 7)]) ∧ ((crx []).page 7).fill ≠ 0 ∧ ((crx []).page 7).sram = true ∧
    ((crx []).page 7).poison = false ∧ (stCr [qry [(0, 7)]] (.accept kQ)).bad (kvKey 0 7 0) 16384 = false := by decide +kernel
theorem wit_result_ring : let s := stCr [qry []] (.accept kQ)
    (s.cruc 0).queries[0]? = some (qry []) ∧ (s.cell (rgq.owner 0)).grid = some 0 ∧ Memory.Wf s.mem ∧ recording (s.lr 0) = false ∧ (s.cell (rgq.owner 0)).watch = [] ∧
    (qry []).rows.length ≤ 64 ∧ cwFilled rgq.slots (s.ringWord rgq 0) = some 0 ∧ 0x8000 + 16 + 0 + 8192 * oZ kQ.arg + 256 ≤ 0x3FFC0 := by decide +kernel

/-! ### Generation and collectives -/

/-- A TOPK of two pairs at 0x100 to 0x200, one result, P 1. -/
def tkD : Nat := 0x3F800000 * 2 ^ 480 + 0x100 * 2 ^ 398 + 0x200 * 2 ^ 380 + 2 * 2 ^ 367
def stGen (k : Cmd) (mem : List Host.Cell) : State := { stQu (fun c => { c with gen := [k] }) with mem := mem }
/-- The same when the unit has read the blocks given. -/
def stGb (k : Cmd) (mem : List Host.Cell) (l : List GLine) : State := { stQu (fun c => { c with gen := [k], gbuf := l }) with mem := mem }
def tkMem : List Host.Cell := memPut [] (padKey 0 0x100) (bytesOf 16 (0x3F800000 + 7 * 2 ^ 32 + 0x40000000 * 2 ^ 64 + 9 * 2 ^ 96))
theorem wit_topk : ((stGen (cmd .topk tkD) tkMem).cell 0).gen = [cmd .topk tkD] ∧ (stGen (cmd .topk tkD) tkMem).released (cmd .topk tkD) = true ∧ tkBad tkD = false ∧ tkBad (tkD + 1) = true ∧
    (stGen (cmd .topk tkD) tkMem).bad (padKey 0 0x100) 16 = false ∧ Memory.Wf tkMem ∧ recording ((stGen (cmd .topk tkD) tkMem).lr 0) = false ∧
    ((stGen (cmd .topk tkD) tkMem).cell 0).watch = [] ∧ fld tkD 397 380 + 8 * tkOut tkD ≤ 0x3FFC0 := by decide +kernel
theorem test_topk : memRead (after (exec (.genCommandStart 0) (stGen (cmd .topk tkD) tkMem))).mem (padKey 0 0x200) 8 = 0x40000000 + 9 * 2 ^ 32 := by decide +kernel
/-- A greedy SMPL of a shard of two 32-bit floats at 0x100 of the scratchpad, its pair to 0x200. -/
def smE : Nat := 2 ^ 10 + 8 * 2 ^ 28 + 1 * 2 ^ 22 + 2 * 2 ^ 256 + 2 ^ 288 + 2 ^ 320 + 2 ^ 352 + 0x100 * 2 ^ 448
def kSm : Cmd := { cmd .smpl (0x200 * 2 ^ 124 + 2 ^ 160) with ea := smE }
def smMem : List Host.Cell := memPut [] (padKey 0 0x100) (bytesOf 8 (0x3F800000 + 0x40000000 * 2 ^ 32))
/-- The block of the shard. -/
def smL : List GLine := [{ space := 1, addr := 0x100, data := 0x3F800000 + 0x40000000 * 2 ^ 32, bad := 0 }]
theorem wit_smpl : smStatus kSm = 0 ∧ smMode kSm.arg = 0 ∧ bit kSm.arg 104 = false ∧ (stGen kSm smMem).released kSm = true ∧
    (match (stGb kSm smMem smL).shard kSm (tSpace kSm.ea) (smZ kSm.ea) (tDim kSm.ea 0) (tAddr kSm.ea 0 0 0 0) with | .ok v => v == [0x3F800000, 0x40000000] | .error _ => false) = true ∧
    (match (stGen kSm smMem).shard kSm (tSpace kSm.ea) (smZ kSm.ea) (tDim kSm.ea 0) (tAddr kSm.ea 0 0 0 0) with | .error (.wait t) => (t.cell 0).gbuf == smL | _ => false) = true ∧
    fld kSm.arg 141 124 + 8 ≤ 0x3FFC0 ∧ recording ((stGen kSm smMem).lr 0) = false := by decide +kernel
-- R336: the greedy choice is the larger logit; its pair is written.
theorem test_smpl : memRead (after (exec (.genCommandStart 0) (stGb kSm smMem smL))).mem (padKey 0 0x200) 8 = 0x40000000 + 1 * 2 ^ 32 := by decide +kernel
theorem wit_smpl_statuses : smStatus { cmd .smpl (0x200 * 2 ^ 124) with ea := 0 } ≠ 0 := by decide +kernel
/-- A sum of two 32-bit integers by the one cell of its rectangle. -/
def coD : Nat := 2 * 2 ^ 112 + 0x100 * 2 ^ 94 + 0x200 * 2 ^ 76 + 2 ^ 40
def stCo (l : List Coll) (k : Cmd) : State := { stQu (fun c => { c with coll := [k] }) with colls := l, mem := memPut [] (padKey 0 0x100) (bytesOf 4 5) }
def co1 (n : Nat) : Coll := { joined := [(0, { cmd .cred coD with id := n })], since := 0, complete := false }
theorem wit_collective : ((stCo [] (cmd .cred coD)).cell 0).coll = [cmd .cred coD] ∧ coBad (cmd .cred coD) = false ∧ coOut ((stCo [] (cmd .cred coD)).lr 0) (cmd .cred coD) = false ∧
    coBad (cmd .cred (coD + 1)) = true ∧ coOut ((stCo [] (cmd .cred coD)).lr 0) (cmd .cred (coD + 2 ^ 50)) = true ∧ (stCo [] (cmd .cred coD)).verdict (cmd .cred coD) = some true ∧
    (co1 5).awaits 0 0 = false ∧ 2 ^ fld coD 49 47 * 2 ^ fld coD 46 44 = 1 ∧ coKey (cmd .cred coD) ≠ coKey { cmd .cred coD with started := true } ∧
    2 ^ fld (coD + 2 ^ 44) 46 44 * 2 ^ fld (coD + 2 ^ 44) 49 47 = 2 := by decide +kernel
def coOk : Coll := { joined := [(0, { cmd .cred coD with started := true })], since := 0, complete := true }
theorem wit_collective_result : let s := stCo [coOk] (cmd .cred coD)
    s.colls[0]? = some coOk ∧ s.released { cmd .cred coD with started := true } = true ∧ coCells coD = [0] ∧ s.bad (padKey 0 0x100) 8 = false ∧ Memory.Wf s.mem ∧
    (s.cell 0).watch = [] ∧ coDst coD + 8 ≤ 0x3FFC0 := by decide +kernel
theorem test_cred : memRead (after (exec (.collectiveResult 0) (stCo [coOk] (cmd .cred coD)))).mem (padKey 0 0x200) 4 = 5 := by decide +kernel

/-! ### Launches, ends and contexts -/

def areas : Map (Nat × Nat) := (List.range 8).map (fun d => (d, (0, 1)))
/-- A record of ASID 0x5 with one cell, one handler, FRAMEKB 1 and a line of code. -/
def lr5 : Nat := 5 * 2 ^ 208 + 64 * 2 ^ 64 + 2 ^ 432 + 2 ^ 192
def stQ0 (tail : Nat) (plat : Plat) : State := { gt := 9, mem := memPut (memPut [] 0x100 (bytesOf 8 0x400)) 0x400 (bytesOf 256 lr5), ctx := [(5, 1)], plat := { plat with queues := [(0, { base := 0x100, log := 1, tail := tail })] } }
def pl0 : Plat := { msgArea := areas, evArea := areas, lockArea := areas, hearthArea := areas, gangArea := some (0, 1), coords := some (0, 0, 0, 0), booted := List.range 8 }
theorem wit_launch : let s := stQ0 1 pl0
    (s.lq 0).head ≠ (s.lq 0).tail ∧ (s.lq 0).pending = none ∧ s.plat.up = true ∧ (stQ0 1 {}).plat.up = false ∧ s.plat.quench = none ∧ memRead s.mem 0x100 8 = 0x400 ∧ memRead s.mem 0x400 256 = lr5 ∧
    s.plat.areasSet = true ∧ (stQ0 1 {}).plat.areasSet = false ∧ asidOf lr5 = 5 ∧ bit (lookD s.ctx 5 0) 0 = true ∧ s.removing 5 = false ∧ rectOk lr5 = true ∧
    rectOk (lr5 + 2 ^ 237 + 2 ^ 224) = false ∧ s.fieldOk (lr5 - 2 ^ 192) = false ∧ codeOk (lr5 + 1) = false ∧ (stQ0 0 pl0).lq 0 = { base := 0x100, log := 1, tail := 0 } := by decide +kernel
-- R366: no area set gives status 3; the host gets the interrupt, since COMPL does not translate.
set_option maxRecDepth 8000 in
theorem test_launch_status : (after (exec (.launchRecordCheck 0) (stQ0 1 { booted := List.range 8 }))).plat.irqs = [.completion 0 5 3] := by decide +kernel
def stAd (used : Bool) : State :=
  { stQ0 1 pl0 with plat := { pl0 with queues := [(0, { base := 0x100, log := 1, tail := 1, pending := some { lr := lr5, gates := [], fuse := [], tid := [] } })] } }.mapCell 0 (fun c => { c with grid := if used then some 9 else none })
theorem wit_admission : (stAd false).admissible 0 { lr := lr5, gates := [], fuse := [], tid := [] } = true ∧ rectCells lr5 = [0] ∧ ((stAd false).cell 0).grid = none ∧ ((stAd true).cell 0).grid ≠ none ∧
    recording lr5 = false ∧ look (stAd false).plat.replays (fld lr5 127 96) = none ∧ Memory.Wf (stAd false).mem ∧ originOf lr5 = 0 := by decide +kernel
theorem test_admission : let t := after (exec (.gridAdmission 0) (stAd false))
    (t.cell 0).qlo.map (fun q => (q.msg.handler, q.msg.dest)) = [(0, 0)] ∧ fld (memRead t.mem (padKey 0 0x3FFC0) 64) 447 384 = 9 := by decide +kernel
def stEnd (f : Grid → Grid) : State := { stV with grids := [(0, f { lr := 64 * 2 ^ 64, queue := 0, gtStart := 0 })] }
theorem wit_ends : (stEnd id).finished 0 = true ∧ (stEnd id).caching 0 = false ∧ (look (stEnd id).grids 0).map (fun x => (x.ending.isNone, x.resid, x.replay.isNone, x.savedStreams)) = some (true, .running, true, []) ∧
    ((stEnd (fun g => { g with ending := some { status := 0x10 } })).discardGrid 0).finished 0 = true ∧ fld (64 * 2 ^ 64 + 2 ^ 736) 767 736 * 1024 = 1024 := by decide +kernel
theorem wit_ends_l1 : ({ stL with cells := stL.cells.map (fun c => (c.1, { c.2 with lo := {}, grid := some 0 })) } : State).caching 0 = true ∧
    ({ stL with cells := stL.cells.map (fun c => (c.1, { c.2 with lo := {}, grid := some 0 })) } : State).finished 0 = true := by decide +kernel
-- R370: COMPL at 0 translates, and the record of a grid that ends without a fault has status 0 and the TASKS counter.
theorem test_grid_end : let t := after (exec (.gridEnd 0) (stEnd (fun g => { g with tasks := 3 })))
    look t.grids 0 = none ∧ fld (memRead t.mem 0 64) 383 320 = 3 ∧ fld (memRead t.mem 0 64) 15 0 = 0 := by decide +kernel
def stSv (r : Resid) (epoch : Nat) : State := { stEnd (fun g => { g with resid := r, sealKey := epoch, saved := if r = .saved then [{ cell := 0, pad := [], poison := [], qlo := [], qhi := [], ready := [], again := [], hold := [], csr := [], missed := 0 }] else [] }) with ctx := [(0, 0x1001 + (2 ^ 24 - 1) * 2 ^ 364)] }
theorem wit_switch : (stSv .preempting 0).savable (64 * 2 ^ 64) = true ∧ ((stSv .preempting 0).cell 0).runs = false ∧ ((stSv .preempting 0).cell 0).arrays = false ∧ (stSv .preempting 0).joint 0 = false ∧
    ((stSv .preempting 0).cell 0).copies = false ∧ (stSv .preempting 0).inFlight 0 false = false ∧ (stSv .preempting 0).caching 0 = false ∧ Memory.Wf (stSv .preempting 0).mem ∧
    (stEnd id).savable (64 * 2 ^ 64) = false ∧ ({ stSv .running 0 with plat := { quench := some 0 } } : State).plat.quench.isSome = true := by decide +kernel
theorem wit_restore : let s := { (stSv .saved 0).mapCell 0 (fun c => { c with grid := none }) with plat := pl0 }
    (look s.grids 0).map (fun x => (x.resid, s.mayReturn x, x.sealKey == s.plat.keyEpoch, x.saved.map (·.cell))) = some (.saved, true, true, [0]) ∧
    (look (stSv .saved 0).grids 0).map (fun x => (((stSv .saved 0).mapCell 0 (fun c => { c with grid := none })).mayReturn x)) = some false ∧
    (look (stSv .saved 1).grids 0).map (fun x => x.sealKey == (stSv .saved 1).plat.keyEpoch) = some false ∧ Memory.Wf [] ∧ rectCells (64 * 2 ^ 64) = [0] := by decide +kernel
def rmv (n : Nat) : Removal := { asid := 0, step := n, since := 0 }
def stRm (n : Nat) (gt : Nat) : State := { stEnd id with plat := { removals := [rmv n] }, gt := BitVec.ofNat 64 gt }
theorem wit_removal : (∀ r ∈ (stEnd id).plat.removals, r.asid ≠ 0) ∧ (stRm 4 0).plat.removals.find? (fun r => r.asid == 0) = some (rmv 4) ∧ ((stRm 4 0).removeStep 0 4).2 = true ∧
    ((stRm 7 0).removeStep 0 7).2 = true ∧ (stRm 7 0).fly.any (fun f => accessOf 0 false f.f) = false ∧ (rmv 1).since + 2 ^ 20 ≤ (stRm 1 (2 ^ 20)).gt.toNat ∧
    (stRm 1 (2 ^ 20 - 1)).gt.toNat < (rmv 1).since + 2 ^ 20 := by decide +kernel
theorem wit_quench : (stEnd id).plat.quench = none ∧ ({ stG with plat := { quench := some 0 }, gt := BitVec.ofNat 64 (2 ^ 20) } : State).gt.toNat ≥ 0 + 2 ^ 20 ∧
    (stG.bank 0 false).task.map (·.ending) = some .none ∧ stG.savable (64 * 2 ^ 64) = false := by decide +kernel
-- R443: a reset keeps GT and memory and makes a new save key.
theorem test_reset : let t := after (exec (.packageReset none) stV); t.mem = tables ∧ t.plat.keyEpoch = 1 ∧ t.grids = [] := by decide +kernel

/-! ### The platform -/

theorem wit_areas : 2 ^ 40 < (2 ^ 40 - 4 * 2 ^ 20) + (4 * 2 ^ 20 + 1) ∧ (State.reset.grids.any (fun g => g.2.resid != .saved)) = false ∧ homeDie 0 = 0 ∧ (stEnd id).grids.any (fun g => g.2.resid != .saved) = true ∧
    2 ^ 41 < (2 ^ 41 - 1) + [(0#8 : Byte), 1#8].length ∧ Memory.Wf tables := by decide +kernel
def stRing (e : Nat) : State := stTr.mapCluster 0 (fun c => { c with ring := [e] })
theorem wit_ring : (stRing (2 ^ 95)).ring (.pad 0) = [2 ^ 95] ∧ (∀ g ∈ (stRing (2 ^ 95)).grids, ¬ (recording g.2.lr = true ∧ asidOf g.2.lr = fld (2 ^ 95) 95 80)) ∧
    ((stRing 7).grids.find? (fun g => recording g.2.lr && asidOf g.2.lr == fld 7 95 80)).map (·.1) = some 0 ∧ stG.ring (.slice 0 0) = [] := by decide
theorem wit_link : (st0.fly.filter (st0.onLink (.bridge 0 1))) = [] ∧ (st0.grids.map (·.1)).Nodup ∧ ([] : List (BitVec 512)).length ≤ 64 ∧ 8 ≤ 15 ∧ 15 < 16 := by decide
def slc : GangSlice := { slice := 4, at_ := 100, gangid := 7, gwin := 50, members := [0] }
def stSl (gt : Nat) (t : Option GangTry) (g : List GangPacket) : State := { st0 with gt := BitVec.ofNat 64 gt, plat := { gangSched := [slc], gangTry := t, gang := g } }
def tr0 : GangTry := { slice := 4, at_ := 100, gangid := 7, gwin := 50, members := [0] }
set_option maxRecDepth 8000 in
theorem wit_gang : (stSl 99 none []).plat.gangSched.find? (fun x => x.slice == 4) = some slc ∧ (stSl 99 none []).gt.toNat < slc.at_ ∧ ¬ (stSl 100 none []).gt.toNat < slc.at_ ∧
    (stSl 100 none []).plat.gangRetry = none ∧ (stSl 100 none []).plat.gangSched.find? (fun x => x.slice == 9) = none ∧
    (stSl (100 + 2048 + 49) (some tr0) []).gt.toNat < tr0.at_ + 2048 + tr0.gwin ∧ tr0.at_ + 2048 + tr0.gwin ≤ (stSl (100 + 2048 + 50) (some tr0) []).gt.toNat ∧
    (∀ m ∈ tr0.members, ∃ g ∈ [({ src := 0, late := false, gangid := 7, slice := 4, gt := 2148 } : GangPacket)], g.src = m ∧ g.late = false ∧ g.gangid = tr0.gangid ∧ g.slice = 4 ∧ g.gt ≤ tr0.at_ + 2048) := by decide
theorem test_gang : (after (exec (.gangSliceInstant 4) (stSl 100 none []))).plat.gang = [{ src := 0, late := false, gangid := 7, slice := 4, gt := 100 }] ∧
    (after (exec (.gangDecision 4) (stSl 2198 (some tr0) []))).plat.gangRetry = some 7 := by decide +kernel
theorem wit_time : portTo [1, 0, 0, 0] [0, 0, 0, 0] = some 0 ∧ portTo [0, 0, 0, 0] [0, 0, 0, 0] = none ∧ st0.gt.toNat / 2 ^ 20 ≤ st0.plat.tsyncs ∧
    st0.plat.tsyncs < ({ st0 with gt := BitVec.ofNat 64 (2 ^ 20) } : State).gt.toNat / 2 ^ 20 := by decide +kernel

/-! ### The whole machine -/

/-- ADD of s5 and s6 to s4, as it is placed for the next step. -/
def addW : Nat := (word 1 0 4 5 6 0 0).toNat
def stStep : State := State.reset.withFetchWord 96 addW
theorem wit_step : stStep.sched = [{ dt := 0, what := .issue 0 false }] ∧ stStep.runs 0 false = true ∧ (stStep.bank 0 false).task.map (fun k => (k.pendTrap.isNone, k.xfault.isNone)) = some (true, true) ∧
    (stStep.bank 0 false).fell = false ∧ (stStep.bank 0 false).past = none ∧ fld (stStep.lr 0) 63 0 = 0 ∧ fld (stStep.lr 0) 95 64 = 64 ∧ (stStep.bank 0 false).line = some { addr := 0, data := addW } ∧
    (stStep.bank 0 false).refetch = false ∧ (stStep.bank 0 false).entered = none ∧ stStep.stall (.add (t3 .i64)) = false ∧
    (∀ q ∈ readsOf (.add (t3 .i64)), q ∉ (stStep.bank 0 false).poison ∧ look (stStep.bank 0 false).tokens q.toNat = none) ∧ stStep.plat.slew = 0 := by decide +kernel
theorem wit_step_decode : decodeCell (BitVec.ofNat 96 addW) = .ok (.add (t3 .i64)) ∧ decodeMask 0x04000000#32 = .ok (.mlq 0#3) := ⟨rfl, rfl⟩
theorem test_step : (match step stStep with | .next t => t.b.pc == 1#64 && (t.b.task.map (·.first) == some (some 0)) | _ => false) = true := by decide +kernel
theorem wit_mask_step : let s := State.reset.withFetchWord 32 0x04000000
    s.sched = [{ dt := 0, what := .mask 0 }] ∧ (s.cruc 0).mu.prog[(s.cruc 0).mu.at_]? = some 0x04000000#32 := by decide
theorem test_undef : ended (match step (State.reset.withFetchWord 96 (0x3F * 2 ^ 90)) with | .next t => t | _ => {}) = some (0x10, Cause.undef.code) := by decide +kernel
theorem wit_encode : (Instr.add (t3 .i64)).wf = true ∧ encode (.add (t3 .i64)) = some (.cell (word 1 0 4 5 6 0 0)) ∧ (Instr.mlq 7#3).wf = true ∧ encode (.mlq 0#3) = some (.mask 0x04000000#32) ∧
    encode (.quench) = none := by decide
theorem wit_inv : State.reset.Inv ∧ stStep.Inv ∧ stStep.goesOn :=
  ⟨by unfold State.Inv; decide, by unfold State.Inv; decide, by
    have h : (match step stStep with | .next _ => true | _ => false) = true := by decide +kernel
    unfold State.goesOn; revert h; cases step stStep <;> simp⟩

/-! ## Premises of the widened statements -/

/-! ### Rounding, loads and stores -/

-- A tie of f16: 2049 stands midway between 2048 and 2050; the values of the format that stand as far are told apart by their significands.
theorem wit_tie : rat (.fin false 2049 0 false) = some 2049 ∧ rat (decodeF (Ty.fmt .f16) 0x6800) = some 2048 ∧ rat (decodeF (Ty.fmt .f16) 0x6801) = some 2050 ∧
    (roundF (Ty.fmt .f16) .rne false (.fin false 2049 0 false)).bits = 0x6800 ∧ (roundF (Ty.fmt .f16) .rz false (.fin true 2049 0 false)).bits = 0xE800 := by decide +kernel
theorem wit_float_numbers : rat (decodeF fmt32 0x3FC00000) = some (3 / 2) ∧ rat (decodeF fmt32 0x80000000) = some 0 ∧ (decodeF fmt32 0x80000000).neg = true ∧
    rat (decodeF fmt32 0x7F800000) = none ∧ rat (decodeF fmt32 0x42F6E979) ≠ none ∧ 0x3FC00000 < 2 ^ fmt32.width := by decide +kernel
/-- A grid with that page in which something is poisoned: the word at 0x10008, and the dirty word of the line in the L1. -/
def stPs : State := { stG with poison := [0x10008 / 8] }
def stLp1 : State := stG.mapCell 0 (fun c => { c with l1 := [{ pa := 0x10000, valid := 2 ^ 64 - 1, dirty := 0xFF00, clus := false, data := 7, bad := 2 }] })
theorem wit_local_poison : stG.localBad spotG (stG.loadScope spotG .cell 8) 8 = false ∧ stLp1.localBad spotG (stLp1.loadScope spotG .cell 8) 8 = true ∧
    stL.localBad spotG (stL.loadScope spotG .cell 8) 8 = false := by decide
theorem wit_atomic_poison : stPs.holder = false ∧ stPs.atomicBad spotG 8 = true ∧ stPs.writing spotG = false ∧ stG.atomicBad spotG 8 = false ∧ stLp1.atomicBad spotG 8 = true ∧
    stH.localBad spotG .die 8 = false ∧ (stH.mapBank 0 false (fun b => { b with commit := [{ dsp := false, key := 0, dst := 0x10000, mask := 0xFF00, data := 5, bad := 2 }] })).localBad spotG .die 8 = true ∧
    (stH.mapBank 0 false (fun b => { b with commit := [{ dsp := false, key := 0, dst := 0x10000, mask := 0xFF00, data := 5, bad := 2 }] })).inHeld spotG 8 = true := by decide
theorem wit_state_store : ((stS (some (strm .live)) (sAcc .step)).stateCause 0 0 (5 * 2 ^ 23 + 8) 8 true) = none ∧ ((stS none (sAcc .step)).stateCause 0 0 (5 * 2 ^ 23 + 8) 8 true) = some (.stateDead, 0) ∧
    Place (stS none (sAcc .step)) .s (5 * 2 ^ 23 + 8) 8 1 { loc := .hearth 5 8 } ∧ Untouched (stS none (sAcc .step)) { loc := .hearth 5 8 } 8 :=
  ⟨by decide, by decide, by unfold Place; decide, by unfold Untouched; decide⟩
/-- Lanes to global memory, to state space and to the host window. -/
def teH : TlbEnt := { te with frame := 0x10000000000, mtype := 2 }
def stGh : State := st0.mapCell 0 (fun c => { c with tlb := [teH] })
theorem wit_lane_g : LaneOk stG (memG .i64 .g) false 8 spotG ∧ LaneOk stG (memG .i64 .g) true 8 spotG ∧ stG.l1Look 0 0x10008 = none ∧ stG.slots = [] ∧ stG.b.commit = [] ∧
    stG.holder = false ∧ stG.fused 0 = false ∧ LaneOk stGh (memG .i64 .g) true 8 { loc := .host 0x10000000008, mt := 2, sp := 0, key := 8 } := by
  refine ⟨⟨⟨by decide, te, by unfold Translated; decide, by decide, by decide, by decide⟩, by unfold Untouched; decide, fun _ => by decide⟩,
    ⟨⟨by decide, te, by unfold Translated; decide, by decide, by decide, by decide⟩, by unfold Untouched; decide, nofun⟩, by decide, by decide, by decide, by decide, by decide, 
    ⟨by decide, teH, by unfold Translated; decide, by decide, by decide, by decide⟩, by unfold Untouched; decide, nofun⟩
theorem wit_lane_s : LaneOk (stPg [] [7]) { memG .i64 .g with sp := .s } false (5 * 2 ^ 23 + 8) { loc := .hearth 5 8 } ∧
    LaneOk (stPg [] [7]) { memG .i64 .g with sp := .s } true (5 * 2 ^ 23 + 8) { loc := .hearth 5 8 } := by
  have hp : ((stPg [] [7]).die (sidDie 5)).pool.find 0 0 = some (7, 0) := by decide
  refine ⟨⟨by unfold Place; decide, by unfold Untouched; decide, by decide, strm .live, by decide, by decide, fun _ g l h => ?_, nofun⟩,
    ⟨by unfold Place; decide, by unfold Untouched; decide, by decide, strm .live, by decide, by decide, nofun, fun _ => ⟨by decide, by decide, 7, by decide, by decide⟩⟩⟩
  obtain ⟨rfl, rfl⟩ := Prod.mk.inj (Option.some.inj (hp.symm.trans h))
  decide
/-- A fused cluster, and a task of it. -/
def stFu : State := stR.mapCluster 0 (fun c => { c with fused := true })
theorem wit_fused : stFu.fused stFu.cur.cell = true ∧ Released stFu ∧ cellIn (gcluOf 0) 15 ≠ 0 ∧ Clear stFu (loadOf stFu.act) :=
  ⟨by decide, ⟨_, 0, rfl, rfl, by decide⟩, by decide, fun k h f hf => by cases hf⟩
theorem wit_home_misc : (stG.lr 0 |> fun _ => stG.roundTrip 0 0 0).isSome = true ∧ stG.roundTrip 0 (dieOf 0) (dieOf 2048) ≠ none ∧
    (Access.op { accAt (.home 8) ldop 8 with op := .load (.vec 0x44#8) .none }).ret = .vec 0x44#8 ∧ ridx 0x44#8 < 32 ∧
    (AOp.load (.lane 0x44#8 3 32) .none).ret = .lane 0x44#8 3 32 ∧ (AOp.load (.lane 0x44#8 3 32) .none).writes = false := by decide

/-! ### Barriers, rings, tensor identifiers and loops -/

/-- A grid that reserves one flit of a die in a period, and has spent it on die 0 (R383). -/
def stFl : State := { st0 with grids := [(0, { lr := 64 * 2 ^ 64 + 2 ^ 816, queue := 0, gtStart := 0 })] }.mapDie 0 (fun d => { d with spent := [(0, [(2, 1)])] })
set_option maxRecDepth 8000 in
theorem wit_flits_spent : stFl.roundTrip 0 (dieOf 0) (dieOf 32) = none ∧ dieOf 32 = 1 ∧ stFl.flits 0 0 1 1 = none ∧ (stFl.roundTrip 0 0 0).isSome = true ∧
    (st0.roundTrip 0 0 1).isSome = true := by decide
theorem wit_untraced : Untraced (stB 0 (.access (btA .binit))) 0 ∧ Untraced (stC 1 0 (.access (advA false 1))) 0 ∧ Untraced (stB 0 (.count 0 64 5 0 0)) 0 ∧
    ((stB 0 (.access (btA .binit))).roundTrip 0 0 0).isSome = true ∧ ((stC 1 0 (.access (advA false 1))).roundTrip 0 0 0).isSome = true := by
  unfold Untraced; decide
theorem wit_corrupt : 2 * (2 ^ 32 / 2) ≤ 2 ^ 32 ∧ ((3 : Nat) + 2 * (2 ^ 32 / 2) - 0) % (2 * (2 ^ 32 / 2)) = 3 ∧ (2 : Nat) < 3 ∧
    bits (memRead (stC 3 0 (.access (advA false 1))).mem (padKey 0 0x70) 8) 0 32 = 3 := by decide
theorem wit_hbind_poison : stHb.localBad (padSpot 0 0 0) .die 32 = false ∧ (stHb.rd 5#8).toNat % 64 ≤ 32 ∧ stHb.b.commit = [] := by decide
theorem wit_handle_fails : let d := 64 * 2 ^ 160 + 2 * 2 ^ 128 + 128
    ringBad 0 = true ∧ ringBad (d + 2 ^ 220) = false ∧ inRect (st0.lr 0) (ringOwner 0 (d + 2 ^ 220)) = true ∧ ringBad (d + 2 ^ 221 + 2 ^ 210) = false ∧
    inRect (st0.lr 0) (ringOwner 0 (d + 2 ^ 221 + 2 ^ 210)) = false := by decide
/-- Two changes of entries on their way, and a version on its way to the replica of die 1. -/
def tidF (n id : Nat) (o : TidOp) : Fly := { n := n, cell := 0, f := .tid st0.who id o 4#8 }
theorem wit_tid_order : tidBefore 1 st0.who 3 (tidF 0 3 .inv) = true ∧ tidBefore 0 st0.who 3 (tidF 1 3 .inv) = false ∧ tidBefore 1 st0.who 3 (tidF 0 4 .inv) = false ∧
    copyBefore 1 0 1 (tidF 0 4 (.copy 0 0 [1])) = true ∧ copyBefore 0 0 1 (tidF 1 4 (.copy 0 0 [1])) = false ∧ copyBefore 1 0 1 (tidF 0 4 (.copy 0 0 [2])) = false := by decide
-- R362: only the outer loop ends at pc; the inner one is disarmed, or armed and ends elsewhere.
theorem wit_outer_loop : (loopOf (stLp 5 7).b false).1 = true ∧
    (let b := { (stLp 5 7).b with le1 := 2#64 }; (loopOf b true).2.2.2 ≠ b.pc ∧ (loopOf b false).2.2.2 = b.pc ∧ (loopOf b false).2.1 = 7) ∧
    (loopOf { (stLp 5 1).b with lc1 := 0 } true).1 = false ∧ (loopOf (stLp 5 1).b false).2.1 = 1 ∧
    [Instr.nop, .hint 1, .add (t3 .i64), .sub (t3 .i32), .movi { a := 4#8, imm := 1#64 }, .sel { a := 4#8, b := 5#8, c := 6#8, d := 7#8 }].all Instr.wf = true := by decide
theorem test_outer_loop : let t := after (exec (.add (t3 .i64)) ((stLp 5 7).mapBank 0 false (fun b => { b with le1 := 2#64 })))
    loopOf t.b false = (true, 6, 0#64, 0#64) ∧ loopOf t.b true = (true, 5, 0#64, 2#64) := by decide

/-! ### Tasks, messages and events -/

theorem wit_event_flits : (stG.roundTrip 0 0 0).isSome = true ∧ Untraced stG 0 := by unfold Untraced; decide
theorem wit_message_flits : ((stM [] []).flits 0 (dieOf 0) 0 qm0.flits).isSome = true ∧ (∀ e ∈ ([] : List (Nat × Nat × QMsg)), ¬ (e.1 = 0 ∧ e.2.1 = 0)) ∧
    (lookD (stM [] []).plat.msgArea 0 (0, 0)).2 / 256 ≤ ((stM [] []).die 0).spillQ.length := by decide
theorem wit_committing : (stG.bank 0 false).task.map (·.committing) = some false := by decide
theorem wit_wdog_states : Ending.none ≠ .draining ∧ (stWd 5 6).usedCycles (((stWd 5 6).bank 0 false).task.getD { gid := 0, act := 0, msg := { hdr := 0, pay := [] } }) = 6 := by decide

/-! ### Streams -/

set_option maxRecDepth 8000 in
theorem wit_stream_flits : (stS (some (strm .live)) (sAcc .step)).roundTrip 0 (dieOf 0) (fld 5 16 14) ≠ none ∧ (look (stS none (sAcc .step)).grids 0).isSome = true ∧
    (stS none (sAcc .kill)).seqBusy (sAcc .kill) 5 .kill = false := by decide
/-- A live stream 5 of map 0 with `kids` children, and a fork of it, a root fork or a join on its way. -/
def stK (p : Stream) (kids : List (Nat × Stream)) (op : StreamOp) : State :=
  { (stS none (sAcc op)).mapDie 0 (fun d => { d with streams := (5, p) :: kids }) with grids := [(0, { lr := 64 * 2 ^ 64 + 2 ^ 944, queue := 0, gtStart := 0 })] }
def kidx (st : SStat) : Stream := { strm st with parent := 5, pv := true }
/-- A chain of maps four deep, and a pool in which no map is free. -/
def chain4 : Pool := { maps := (List.range 4).map (fun i => (i, { parent := if i = 0 then none else some (i - 1), depth := i + 1, count := 1, owned := i = 3, ents := [] })), pages := [] }
theorem wit_fork : let s := stK (strm .live) [] (.fork 2 9 false 0x40)
    s.stream? (sAcc (.fork 2 9 false 0x40)) 5 = some (strm .live) ∧ (strm .live).lnk = false ∧ s.kids 5 = [] ∧ (freeStreams (s.die 0) (5 % 64) 2 []).length = 2 ∧
    (match (s.die 0).pool.fork streamMaps 0 2 with | .ok (l, _) => l.length == 2 | .error _ => false) = true ∧
    ((stK (strm .live) [(6, kidx .live)] (.fork 2 9 false 0)).kids 5).map (fun x => x.2.status) = [.live] ∧ ¬ isReady (strm .waitJoin) := by unfold isReady; decide +kernel
theorem wit_fork_refused : (match chain4.fork streamMaps 3 1 with | .error .depth => true | _ => false) = true ∧
    (match (Pool.fork { maps := [(0, { parent := none, depth := 1, count := 1, owned := true, ents := [] })], pages := [] } 1 0 1) with | .error .nomap => true | _ => false) = true ∧
    (freeStreams ((stK (strm .live) ((List.range 4).map (fun i => (6 + i, strm .live))) .step).die 0) 5 300 []).length < 300 := by decide +kernel
theorem wit_root : let s := stK (strm .live) [] (.root 1 9 false 0x40 0 0x3F800000)
    ((s.die 0).pool.freeMaps streamMaps 1).length = 1 ∧ (freeStreams (s.die 0) (0 % 64) 1 []).length = 1 ∧ ([] : List Nat).length < 1 := by decide +kernel
theorem wit_join_now : let s := stK (strm .waitJoin) [(6, kidx .done), (7, { kidx .done with ret := 0x40000000 })] (.join 0 0 false false 0)
    s.stream? (sAcc (.join 0 0 false false 0)) 5 = some (strm .waitJoin) ∧ s.seqBusy (sAcc (.join 0 0 false false 0)) 5 (.join 0 0 false false 0) = false ∧
    ((s.kids 5).filter (fun x => x.2.status != .pruned)).map (fun x => (x.1, x.2.status, x.2.lnk)) = [(6, .done, false), (7, .done, false)] ∧
    ((stK (strm .waitJoin) [(6, kidx .live)] .kill).kids 5).any (fun x => x.2.status != .done) = true ∧ (stK (strm .waitJoin) [] .kill).kids 5 = [] := by decide
theorem wit_wins : Wins [(6, kidx .done), (7, { kidx .done with ret := 0x40000000 })] (7, { kidx .done with ret := 0x40000000 }) := by
  refine ⟨.tail _ (.head _), ?_, ?_⟩ <;> simp only [List.forall_mem_cons] <;> refine ⟨?_, ?_, nofun⟩ <;> first | (intro h; exact absurd h (by decide)) | (intro; first | rfl | decide) 
set_option maxRecDepth 8000 in
theorem wit_flat_mig : let s := stK (strm .live) [] .flat
    s.stream? (sAcc .flat) 5 = some (strm .live) ∧ (strm .live).pv = false ∧ s.kids 5 = [] ∧ (strm .live).mig = false ∧ bit (s.lr 0) 944 = true ∧ bit (stG.lr 0) 944 = false ∧
    (strm .pruned).status = .pruned ∧ { strm .live with lnk := true }.lnk = true := by decide
/-- No frame is free: the pool's pages fill them, and page 7 is out. -/
def stFull : State := st0.mapDie 0 (fun d => { d with pool := { maps := [], pages := (7, 1) :: (List.range hearthFrames).map (fun i => (i + 8, 1)) }, spilled := [7], recent := [8] })
theorem wit_fill_exchange : (stFull.die 0).freeFrames = 0 ∧ 7 ∈ (stFull.die 0).out ∧ 8 ∈ (stFull.die 0).recent ∧ (stFull.die 0).pool.count 8 ≠ 0 ∧ 8 ∉ (stFull.die 0).spilled ∧
    8 ∉ (stFull.die 0).pins := by decide +kernel
/-- Packets of one transfer: unknown, known, past its time, refused, of a failed port. -/
def mp0 (part : MigPart) : MigPacket := { src := 1, xfer := 4, die := 0, gangid := 7, last := false, part := part }
theorem wit_migreq : let s := stMg false
    let known := fun (s : State) => s.plat.migIn.find? (fun m => m.src == 1 && m.xfer == 4)
    known s = some (migM false) ∧ known { s with plat := {} } = none ∧ s.plat.deaf 1 = false ∧ (migM false).last = false ∧ (migM false).refused = false ∧
    (migM false).since + 2 ^ 24 ≤ s.gt.toNat ∧ ({ s with gt := 5 } : State).gt.toNat < (migM false).since + 2 ^ 24 ∧ { migM false with refused := true }.refused = true ∧
    ([] : List (BitVec 512)).length ≤ 64 := by decide
theorem wit_deaf : ({ coords := some (0, 0, 0, 0), down := (List.range 8).map (fun k => .port k) } : Plat).deaf 1 = true := by decide +kernel

/-! ### Walks, lines, traps and tokens -/

/-- All 64 walks of die 0 busy, and a miss of another page on its way. -/
def stBusy (t : Option Nat) : State :=
  { stV with fly := { n := 0, cell := 0, f := .walk { wk 0 0 4 0 with ticket := t } } :: (List.range 64).map (fun i => { n := i + 1, cell := 0, f := .wread (wk (4096 * (i + 1)) 0 4 0x1000) }) }
theorem wit_walk_queue : ((stBusy none).fly.filter (fun f => (walkOn 0 f.f).isSome)).length = 64 ∧ ((stBusy none).walkQueue 0).length < 256 ∧ ((stBusy (some 5)).walkQueue 0) = [5] ∧
    (∀ f ∈ (stBusy none).fly, ∀ v, walkOn 0 f.f = some v → ¬ (v.x.asid = 0 ∧ v.x.va / 4096 = 0 / 4096)) ∧ ((stX (.walk (wk 0 0 4 0))).walkQueue 0) = [] := by
  refine ⟨by decide +kernel, by decide +kernel, by decide +kernel, ?_, by decide +kernel⟩
  have h : (stBusy none).fly.all (fun f => match walkOn 0 f.f with | some v => !(v.x.asid == 0 && v.x.va / 4096 == 0) | none => true) = true := by decide +kernel
  intro f hf v hv hc
  have := List.all_eq_true.mp h f hf
  rw [hv] at this
  simp [hc.1, hc.2] at this
theorem wit_walk_poison : ({ stX (.wread (wk 0 0 4 0x1000)) with poison := [0x1000 / 8] } : State).bad (0x1000 + 8 * fld 0 56 48) 8 = true ∧
    (stX (.wread (wk 0 0 4 0x1000))).bad (0x1000 + 8 * fld 0 56 48) 8 = false := by decide
-- R74: a miss of the same gigabyte waits for the large leaf, one of another does not.
theorem wit_large_leaf : let e := { te with size := 30, frame := 0, leaf := 0x3000 }
    waitsFor (wk 0 0 2 0x3000) e (.walk (wk 0x5000 0 4 0)) = some (wk 0x5000 0 4 0) ∧ waitsFor (wk 0 0 2 0x3000) e (.walk (wk (2 ^ 31) 0 4 0)) = none := by decide
/-- The line at 0x10000 in the L1, whole; a bank that has failed once; a transfer to slot 2. -/
def stF1 : State := (stF [] false).mapCell 0 (fun c => { c with l1 := [{ pa := 0x10000, valid := 2 ^ 64 - 1, dirty := 0, clus := false, data := 0 }] })
theorem wit_line_l1 : (stF1.l1Look 0 0x10000).map (fun x => (l1Hit x 0x10000 64, x.bad)) = some (some 0, 0) ∧ lineOk 0 = true ∧
    ((stF (memPut [] 0x10000 (bytesOf 1 1)) true).bank 0 false).refetch = true ∧ badSlot (memRead (memPut [] 0x10000 (bytesOf 1 1)) 0x10000 64) = some 0 ∧
    ({ stF [] true with cur := { (stF [] true).cur with cell := 0, hi := false, pair := 0 } } : State).floatFirst = false ∧
    inCode ((stF [] true).lr 0) 2 = true ∧ ({ (stF [] true).bank 0 false with entered := some 64, pc := 2 } : Bank).past = none := by decide +kernel
theorem wit_rep_goes : captured vaddI = true ∧ captured (.tend .cell) = false ∧ (match exec vaddI (stG.tokenReads vaddI) with | .next t => t.b.task.isSome | _ => false) = true := by decide +kernel
theorem wit_trace_room : (look stTr.grids 0).map (fun g => (g.replay, g.trctl, g.recPos)) = some (none, true, 0) ∧ fld (lookD stTr.ctx 0 0) 511 460 * 4096 + 0 + 32 ≤ 2 ^ 40 := by decide
theorem wit_trap_forms : (stE (fun k => { k with ending := .draining }) []).b.task.map (·.committing) = some true ∧ stG.b.task.map (·.committing) = some false ∧
    ({ cause := .fetchPar, pc := 0 } : Trap).unformed { stG.b with fell := false } = false ∧ Plain stG 0 := by
  unfold Plain; refine ⟨by decide, by decide, by decide, fun x h => ?_⟩
  obtain rfl := Option.some.inj h; decide
theorem wit_unformed : ({ cause := .memUe, pc := 0 } : Trap).unformed { stG.b with poison := [0x8B#8] } = true := by decide
/-- A write of part 3 of v2 of the halted task, and its place after it (R416). -/
theorem wit_window_vector : winBad 0x342 = false ∧ rbank (BitVec.ofNat 8 0x342) = 1 ∧ winWrites (BitVec.ofNat 8 0x342) = true ∧ fld 0x342 10 8 = 3 ∧
    (BitVec.ofNat 8 0x342) ∉ ((stWin (.wr 0x342 9)).bank 0 false).pend ∧ Untraced (stWin (.rd 0x8D 5#8)) 0 ∧ winBad 0x8D = false := by unfold Untraced; decide
theorem test_window_vector : (readVec (((after (exec (.windowOpArrival 0) (stWin (.wr 0x342 9))))).bank 0 false) 0x42#8).toNat = 9 * 2 ^ 192 := by decide +kernel
/-- The token of channel 1, and the answer of a crucible to be written at 0x40 of the scratchpad. -/
def stTc (chan : Option Nat) (out : Option (Nat × Nat × Nat)) (ws : List (Bool × Nat × RegSpec)) : State :=
  { stQu (fun c => { c with chans := [(1, { cmd := none, done := true, w := { landed := 8 }, waits := ws })] }) with
    fly := [{ n := 0, cell := 0, f := .token { cmd := { cmd .cpy 0 with tok := none }, status := 2, val := 8, chan := chan, out := out } }] }
theorem wit_token_chan : ((stTc (some 1) none [(false, 0, 4#8)]).cell 0).chan 1 = { cmd := none, done := true, w := { landed := 8 }, waits := [(false, 0, 4#8)] } ∧
    (stTc (some 1) none []).live 0 false 0 = true ∧ ((stTc (some 1) none []).cell 0).grid = some 0 ∧ Untraced (stTc none (some (0x40, 4, 7)) []) 0 ∧
    ((stTc none (some (0x40, 4, 7)) []).cell 0).watch = [] ∧ Memory.Wf (stTc none (some (0x40, 4, 7)) []).mem ∧ 0x40 + 4 ≤ 0x3FFC0 ∧ ((stTk .cpy none).cell 0).grid ≠ some 1 := by
  unfold Untraced; decide
-- R131: an abort's register is written when the channel's command has completed.
theorem test_token_abort : rg (after (exec (.tokenWrite 0) (stTc (some 1) none [(false, 0, 4#8)]))) 4 = BitVec.ofNat 64 (2 * 2 ^ 48 + 8) := by decide +kernel

/-! ### Copies, gang steps and crucibles -/

theorem wit_copy_read : let s := stCpR
    let h := (s.cell 0).chan 0
    h.cmd = some { cmd .cpy cpyD with started := true } ∧ h.stop = none ∧ h.done = false ∧ h.w.pos < (cmd .cpy cpyD).total ∧ h.w.got = none ∧ 0 < (cmd .cpy cpyD).z ∧
    s.plat.down = [] ∧ Memory.Wf s.mem ∧ s.copyRun { cmd .cpy cpyD with started := true } h.w (some 0x100) 0x200 64 1 = 2 := by decide +kernel
/-- The piece in hand. -/
def stCpL : State := stCpR.mapCell 0 (fun c => { c with chans := [(0, { cmd := some { cmd .cpy cpyD with started := true }, w := { got := some { els := 2, data := 0x1122334455667788, bad := false, dst := 0x200 } } })] })
theorem wit_copy_land : let h := (stCpL.cell 0).chan 0
    h.w.got = some { els := 2, data := 0x1122334455667788, bad := false, dst := 0x200 } ∧ h.cmd = some { cmd .cpy cpyD with started := true } ∧ 0 < 2 * (cmd .cpy cpyD).z ∧
    0x200 + 2 * 4 ≤ 0x3FFC0 ∧ bit cpyD 447 = false ∧ (stCpL.cell 0).grid = some 0 ∧ Untraced stCpL 0 ∧ (stCpL.cell 0).watch = [] ∧ stCpL.plat.down = [] := by
  unfold Untraced; decide +kernel
/-- The same copy into global memory fails where the context is not valid; one whose slots are spent waits. -/
def wG : Work := { got := some { els := 2, data := 0, bad := false, dst := 0x200 } }
def stCw : State := { stCpR with grids := [(0, { lr := 64 * 2 ^ 64 + 2 ^ 864, queue := 0, gtStart := 0 })] }.mapDie 0 (fun d => { d with spent := [(0, [(4, 1)])] })
def kG0 : Cmd := { cmd .cpy (cpyD - 2 ^ 432) with started := true }
def stCg (l : List Fly) : State := { stCp true 0 0 with fly := l, mem := tables }.mapCell 0 (fun c => { c with tlb := [], chans := [(0, { cmd := some kG0, out := 1 })] })
/-- Its walk has failed, the context not being valid. -/
def xfG : Flight := .xfail { asid := 0, va := 0x200, kind := 1, cell := 0, hi := false, act := 0, eng := true, gid := 0 } (xltTrap .xltInvalid 0x200 5 1 0)
theorem wit_copy_stops : (match (stCg [{ n := 0, cell := 0, f := xfG }]).piece kG0 wG [] none with | .fails st a t => st == Cause.code .xltInvalid && a == 0x200 && t.fly == [] | _ => false) = true ∧ (((stCg []).cell 0).chan 0).out ≠ 0 ∧
    (match (stCg []).piece kG0 wG [] none with | .waits t => t.fly.length == 1 | _ => false) = true ∧
    (match stCw.piece { cmd .cpy cpyD with started := true } {} [] none with | .waits _ => true | _ => false) = true := by decide +kernel
theorem wit_copy_ack_done : (((stCp true 2 1).cell 0).chan 0).done = false ∧ (((stCp true 2 1).cell 0).chan 0).w.got = none := by decide
theorem wit_pending_land : (match (stPc 0).piece (cmd .cpy cpyD) { got := some { els := 2, data := 0, bad := false, dst := 0x200 } } [] none with | .landed _ _ _ _ _ _ => true | _ => false) = true ∧
    ((stPc 0).cell 0).grid = some 0 ∧ (stPc 0).pendCells { cmd := cmd .cpy cpyD } = [0, 0] := by decide +kernel
/-- A gang step that has waited too long, one that has not, and a release not complete. -/
theorem wit_gang_late : let u : GangStep := { gs0 .joining with joined := [(1, am 4)], since := 0 }
    let s := { stAm [u] with gt := 65537 }
    s.hasJoined (am 3) = false ∧ s.verdict (am 3) = some true ∧ sameGang u (s.gangOf 0) = true ∧ u.since + 65536 < s.gt.toNat ∧
    ¬ (({ s with gt := 65536 } : State).gt.toNat > u.since + 65536) ∧ (s.cluster (s.gangOf 0).cluster).bus = false := by decide +kernel
theorem wit_gang_release : (stAm [gs0 .joining]).released (am 3) = true ∧ ({ stAm [] with fly := [{ n := 0, cell := 0, f := .access (stG.acc 8 (.port 0 8) 8 (.store 1 255 0)) }] } : State).released (am 3) = true := by decide +kernel
/-- Two steps of one gang: the second counts the first's ADVA while the first is being fetched (R286), and waits while it is only ready. -/
def gsA : GangStep := { gs0 .fetching with joined := [(0, { am 3 with cnt := 2 ^ 10 })] }
theorem wit_ahead : (stAm [gsA, gs0 .ready]).advAhead 1 (gs0 .ready) (rg4 0x1000) = 1 ∧ (stAm [gsA, gs0 .ready]).advAhead 1 (gs0 .ready) (rg4 0x8000) = 0 ∧
    ((stAm [gs0 .ready, gs0 .ready]).steps.take 1).any (fun w => sameGang w (gs0 .ready) && w.phase == .ready) = true ∧ Untraced (stAm [gsA]) 0 := by unfold Untraced; decide +kernel
/-- A query whose tile is wanted but out, a page slot free, and pages pinned. -/
def kv7 (f : KvPage → KvPage) : Crucible := { crx [qry [(0, 7)]] with kv := [(7, f { fill := 1 })] }
def stKv (f : KvPage → KvPage) : State := (stCr [] (.accept kQ)).mapCruc 0 (fun _ => kv7 f)
theorem wit_kv_wanted : (stKv (fun g => { g with sram := false })).kvWanted 0 7 = true ∧ (stCr [] (.accept kQ)).kvWanted 0 7 = false ∧ (kv7 id).slotFree = true ∧
    (kv7 (fun g => { g with sram := false })).used 7 = true ∧ ((kv7 (fun g => { g with sram := false })).page 7).sram = false ∧ 0 < (kv7 id).freeFrames ∧ 7 ∈ (kv7 id).pins := by decide +kernel
theorem wit_tile_classes : let cls := fun (p : List (BitVec 32)) (g : KvPage) => (runMask p (tileIn (qry [(0, 7)]) g 0)).res.getD .m
    cls [0x04000000#32, 0x08800000#32, 0x34100000#32, 0x48000000#32] { fill := 1 } ≠ .f ∧ cls [0x48000000#32] { fill := 1 } = .f ∧
    ({ fill := 1, poison := true } : KvPage).poison = true ∧ 0 + (1 : Nat) - 1 < 5 := by decide +kernel
-- R328: a poisoned tile is counted before the query ends.
set_option maxRecDepth 8000 in
theorem test_poisoned_tile : (((after (exec (.atqTileFetch 0 0) { stKv id with poison := [kvKey 0 7 0 / 8] })).cruc 0).queries.map (fun q => (q.poisoned, q.full + q.part, q.pages))) = [(true, 1, [])] := by decide +kernel
theorem wit_query_ends : (qry []).pages = [] ∧ ({ qry [] with poisoned := true } : Query).poisoned = true ∧ ((stCr [] (.accept kQ)).cell (rgq.owner 0)).grid ≠ some 9 ∧ ((crx []).pool.visible 4 0).map (·.2) = [7] := by decide +kernel
/-- A sequence with a child, entries 0 and 1, for fork, commit and trim. -/
def kFork : Cmd := seqx 1 (2 ^ 18 * 2 ^ 224 + 2 ^ 156)
def crF : Crucible := { crx [] with
  seqs := [(0, { sq0 with children := [1] }), (1, { sq0 with map := 1, parent := some 0 })], gens := [(0, 1), (1, 1)],
  pool := { maps := [(0, { parent := none, depth := 1, count := 2, owned := true, ents := [(0, 7)] }), (1, { parent := some 0, depth := 2, count := 1, owned := true, ents := [] })], pages := [(7, 1)] } }
theorem wit_fork_commit : (match (crx []).fork 0 0 1 with | .ok (es, y) => es == [1] && y.handle 0 1 < 2 ^ 32 | .error _ => false) = true ∧
    (match (crx []).fork 0 0 9 with | .error e => e == 0x6C | .ok _ => false) = true ∧
    ((crF.commit 0 1 false).bind (fun y => look y.seqs 0)).map (fun q => (q.map, q.children)) = some (1, []) ∧ (look crF.seqs 1).isSome = true ∧ crF.pool.frozen 0 = true ∧
    hCruc (2 ^ 18 + 1) = 0 ∧ hEntry (2 ^ 18 + 1) = 1 := by decide +kernel
/-- A started append that waits for its page, that lands its one row, and that finds no page. -/
def kApp : Cmd := { cmd .atapp appD with started := true, ta := 1 }
theorem wit_append_rows : (match (stCr [] (.cruc kApp)).appRow kApp with | some (_, some st, j) => st == 0 && j.cnt == 1 | _ => false) = true ∧
    ((stKv (fun g => { g with sram := false })).appRow kApp).isNone = true ∧ kApp.cnt + 1 = appRows appD := by decide +kernel
theorem wit_kv_append : (List.replicate 128 (Machine.Num.fin false 1 0 false)).length = 128 ∧ ((crx []).page 7).fill < 64 ∧ Memory.Wf (stCr [] (.accept kQ)).mem := by decide +kernel

/-! ### Generation, grammars and collectives -/

/-- A TOPK that cuts at a mass of one half. -/
def tkCut : Nat := tkD - 0x3F800000 * 2 ^ 480 + 0x3F000000 * 2 ^ 480 + 0x40000000 * 2 ^ 448 + 0x3F800000 * 2 ^ 416
theorem wit_topk_cut : tkBad tkCut = false ∧ (f32gt (fld tkCut 447 416) 0 && f32gt 0x3F800000 (fld tkCut 511 480)) = true ∧ (f32gt (fld tkD 447 416) 0 && f32gt 0x3F800000 (fld tkD 511 480)) = false ∧
    (stGen (cmd .topk tkCut) tkMem).genEnding 0 = false ∧
    ({ (stGen (cmd .topk tkCut) tkMem) with poison := [padKey 0 0x100 / 8] } : State).bad (padKey 0 0x100) 16 = true ∧
    ({ (stGen (cmd .topk tkCut) tkMem) with fly := [{ n := 0, cell := 0, f := .token { cmd := cmd .topk 0, status := 0, val := 0 } }] } : State).genEnding 0 = true := by decide +kernel
/-- SMPL in each mode over the shard of `smMem`: a temperature of 1, a cut of minus infinity, a total of 2. -/
def kMd (m : Nat) (b : Bool) : Cmd := { kSm with arg := 0x200 * 2 ^ 124 + 0x3F800000 * 2 ^ 480 + (if m = 1 then 0x3F800000 * 2 ^ 448 else 0xFF800000 * 2 ^ 224) + 0x40000000 * 2 ^ 160 + 0x40000000 * 2 ^ 256 + m * 2 ^ 105 + (if b then 2 ^ 104 + 0x300 * 2 ^ 142 else 0) }
theorem wit_smpl_modes : ([0, 1, 2, 3, 4].map (fun m => (smStatus (kMd m false), smMode (kMd m false).arg))) = [(0, 0), (0, 1), (0, 2), (0, 3), (0, 4)] ∧
    (legalOf smMem (kMd 1 false) [0x3F800000, 0x40000000]) = [(0x3F800000, 0), (0x40000000, 1)] ∧ (legalOf smMem (kMd 1 true) [0x3F800000, 0x40000000]) = [] ∧ smStatus (kMd 1 true) = 0 ∧
    0 + 2 < 2 ^ 32 ∧ (genNoise (smHash (kMd 1 false).arg 1)) ≠ 0x7FC00000 ∧ (decodeF fmt32 (f32op .add 0x3F800000 (genNoise (smHash (kMd 1 false).arg 0)))).isNan = false := by decide +kernel
theorem wit_smpl_pick : let d := (kMd 4 false).arg
    (f32ge (drawn d) (fld d 223 192) && f32gt (f32op .add (fld d 223 192) 0x40000000) (drawn d)) = true ∧
    ({ stGen (kMd 1 true) smMem with poison := [padKey 0 0x300 / 8] } : State).bad (padKey 0 0x300) 1 = true := by decide +kernel
theorem wit_mass_set : MassSet (kMd 3 false).arg [(0x3F800000, 0)] [(0x3F800000, 0)] ∧ FirstOf 1 [(0x40000000, 1)] [(0x40000000, 1)] :=
  ⟨⟨fun _ => rfl, fun h => absurd (by decide) h⟩, ⟨rfl, by simp, [], .refl _, nofun⟩⟩
/-- A grammar of two states and two symbols over eight tokens, its header at 0x10000 of a global memory in which addresses translate to themselves. -/
def gmH : Nat := 0x10200 + 0x10300 * 2 ^ 64 + 0x10100 * 2 ^ 128 + 2 * 2 ^ 192 + 2 * 2 ^ 224 + 8 * 2 ^ 256
def gmD (mask : Bool) : Nat := 0x10000 * 2 ^ 448 + 0x100 * 2 ^ 430 + (if mask then 0x400 * 2 ^ 412 + 8 * 2 ^ 362 else 5 * 2 ^ 330)
def kGm (mask : Bool) : Cmd := cmd (if mask then .gmask else .gstep) (gmD mask)
/-- The blocks of its header, its mask rows, its states and its transitions. -/
def gmL (tr : Nat) : List GLine := [(0x10000, gmH), (0x10100, 0xA5), (0x10200, 1), (0x10300, 5 * 2 ^ 32 + tr)].map (fun e => { space := 0, addr := e.1, data := e.2, bad := 0 })
/-- The transition of state 0 on token 5, and the stack block: its state and depth. -/
def stGm (mask : Bool) (tr : Nat) (st depth : Nat) : State :=
  { stGen (kGm mask) (memPut (memPut (memPut (memPut (memPut tables 0x10000 (bytesOf 64 gmH)) 0x10100 (bytesOf 1 0xA5)) 0x10200 (bytesOf 8 1)) 0x10300 (bytesOf 8 (5 * 2 ^ 32 + tr)))
      (padKey 0 0x100) (bytesOf 6 (st + depth * 2 ^ 32))) with ctx := [(0, 0x1001)] }.mapCell 0 (fun c => { c with tlb := [{ te with size := 30, frame := 0, leaf := 0x3000 }], gbuf := gmL tr })
theorem wit_grammar : gmBad (gmD true) true = false ∧ gmBad (gmD false) false = false ∧ gmBad (gmD false + 1) false = true ∧ 0x100 + 520 ≤ 2 ^ 18 ∧ 0x400 + 8 / 8 ≤ 2 ^ 18 ∧
    (stGm true 0 0 0).released (kGm true) = true ∧ (stGm true 0 0 0).genEnding 0 = false ∧ ((stGm true 0 0 0).cell 0).gen = [kGm true] ∧
    (match (stGm true 0 0 0).gmRead (kGm true) 0x10000 64 with | .ok h => h == gmH | .error _ => false) = true ∧
    (match (stGm true 0 0 0).gmRead (kGm true) 0x10100 1 with | .ok x => x == 0xA5 | .error _ => false) = true ∧
    fld gmH 223 192 = 2 ∧ fld gmH 239 224 = 2 ∧ bits (memRead (stGm true 0 3 300).mem (padKey 0 0x100) 8) 32 16 = 300 := by decide +kernel
/-- Transitions that keep, push and pop: `sym`, `act` and the next state. -/
theorem wit_grammar_step : (match (stGm false (1 + 1 * 2 ^ 10 + 1 * 2 ^ 12) 0 0).gmRead (kGm false) 0x10200 8 with | .ok y => y == 1 | .error _ => false) = true ∧
    (match (stGm false (1 + 1 * 2 ^ 10 + 1 * 2 ^ 12) 0 0).gmSearch (kGm false) 0x10300 0 5 34 0 1 with | .ok (some x) => bits x 10 2 == 1 && bits x 0 10 == 1 && bits x 32 32 == 5 | _ => false) = true ∧
    (match (stGm false 0 0 0).gmSearch (kGm false) 0x10300 0 6 34 0 1 with | .ok none => true | _ => false) = true ∧
    ({ stGm false 0 0 0 with poison := [padKey 0 0x100 / 8] } : State).bad (padKey 0 0x100) 8 = true ∧ PlainWrites (stGm false 0 0 0) (kGm false) := by unfold PlainWrites Untraced; decide +kernel
-- R342: a push writes the next state, the depth and the symbol; R341: the mask row's byte goes to the scratchpad.
theorem test_gstep : memRead (after (exec (.genCommandStart 0) (stGm false (1 + 1 * 2 ^ 10 + 1 * 2 ^ 12) 0 0))).mem (padKey 0 0x100) 10 = 1 + 2 ^ 32 + 1 * 2 ^ 64 := by decide +kernel
theorem test_gmask : memRead (after (exec (.genCommandStart 0) (stGm true 0 0 0))).mem (padKey 0 0x400) 1 = 0xA5 := by decide +kernel
/-- A collective of two cells in which cell 0 has joined and cell 128 is awaited; a failure owed to cell 0. -/
def coD2 : Nat := coD + 2 ^ 44
def co2 : Coll := { joined := [(0, cmd .cred coD2)], since := 0 }
theorem wit_collective_joins : co2.awaits 0 128 = true ∧ co2.awaits 0 0 = false ∧ co2.cells = [0, 128] ∧ co2.cells.Nodup ∧ ((stCo [] (cmd .cred coD)).cell 0).missed = 0 ∧
    (((stCo [] (cmd .cred coD)).mapCell 0 (fun c => { c with missed := 1 })).cell 0).missed = 1 ∧ co2.since + 65536 < ({ stCo [co2] (cmd .cred coD) with gt := 65537 } : State).gt.toNat ∧
    (stCo [co2] (cmd .cred coD)).gt.toNat ≤ co2.since + 65536 := by decide +kernel
theorem wit_collective_plain : PlainWrites (stCo [coOk] (cmd .cred coD)) (cmd .cred coD) ∧ coOp coD ≤ 2 ∧ coTy coD ∈ [0, 1, 2, 13, 7, 8] ∧ (coCells coD).Nodup ∧ fld coD 62 56 + coW coD ≤ 128 ∧
    (∀ c ∈ coCells coD, ∃ j ∈ coOk.joined, j.1 = c) := by unfold PlainWrites Untraced; decide +kernel
-- R346 and R348: SCAN, the pairs of OP 3, and GATH, by form.
theorem wit_collective_ops : coBad (cmd .cscan coD) = false ∧ coBad (cmd .cgath coD) = false ∧ coBad (cmd .cbc coD) = false ∧ coBad (cmd .cred (coD + 3 * 2 ^ 37 + 7 * 2 ^ 40)) = false := by decide +kernel
theorem test_cscan : memRead (after (exec (.collectiveResult 0) (stCo [{ coOk with joined := [(0, { cmd .cscan coD with started := true })] }] (cmd .cscan coD)))).mem (padKey 0 0x200) 4 = 5 := by decide +kernel

/-! ### Launches, ends, contexts and the platform -/

/-- The same launch with tables of ASID 5 at 0x2000 and 0x3000, the handler table at 0x500 and one gate entry at 0x600. -/
def lrT (more : Nat) : Nat := lr5 + 0x500 * 2 ^ 128 + more
def stLr (lr : Nat) (htab gate : Nat) : State :=
  { stQ0 1 pl0 with ctx := [(5, 0x1001)], mem := memPut (memPut (memPut (memPut (memPut tables 0x100 (bytesOf 8 0x400)) 0x400 (bytesOf 256 lr)) 0x500 (bytesOf 8 htab)) 0x600 (bytesOf 16 gate)) 0x700 (bytesOf 72 0) }
theorem wit_record_reads : let s := stLr (lrT 0) 0x40 0
    (match s.vget 0 noGrid 5 0x500 8 with | .ok (h, _) => h == 0x40 | .error _ => false) = true ∧ (match (stQ0 1 pl0).vget 0 noGrid 5 0x500 8 with | .ok _ => false | .error _ => true) = true ∧
    (match s.checkLaunch (lrT 0) with | .ok (l, _) => l.lr == lrT 0 | .error _ => false) = true ∧ nhand (lrT 0) = 1 := by decide +kernel
theorem wit_record_fails : (match (stLr (lrT 0) 0 0).checkLaunch (lrT 0) with | .error e => e == (5, 0) | .ok _ => false) = true ∧
    (match (stLr (lrT (2 ^ 768 * 93057)) 0x40 0).checkLaunch (lrT (2 ^ 768 * 93057)) with | .error e => e == (7, 0) | .ok _ => false) = true ∧
    Slot.cap .hbm < reserved (lrT (2 ^ 768 * 93057)) .hbm := by decide +kernel
/-- One gate entry, for handler 0 of cell 0, or another. -/
def stGateE (e : Nat) : State := { stLr (lrT (0x600 * 2 ^ 640 + 2 ^ 704)) 0x40 0 with mem := memPut (stLr (lrT (0x600 * 2 ^ 640 + 2 ^ 704)) 0x40 0).mem 0x600 (bytesOf 16 e) }
theorem wit_gate_entries : let lr := lrT (0x600 * 2 ^ 640 + 2 ^ 704)
    ngateOf lr = 1 ∧ (match (stGateE 1).checkLaunch lr with | .ok (l, _) => l.gates.length == 1 | .error _ => false) = true ∧
    (match (stGateE (1 + 2 ^ 27)).checkLaunch lr with | .error e => e == (3, 0) | .ok _ => false) = true := by decide +kernel
/-- One record of a tensor image at 0x700: an entry that is not valid for id 3, and the same for no id. -/
def stTid (r : Nat) : State := { stLr (lrT (0x700 * 2 ^ 320 + 2 ^ 384)) 0x40 0 with mem := memPut (stLr (lrT (0x700 * 2 ^ 320 + 2 ^ 384)) 0x40 0).mem 0x700 (bytesOf 72 r) }
theorem wit_tensors : let lr := lrT (0x700 * 2 ^ 320 + 2 ^ 384)
    ntidOf lr = 1 ∧ (match (stTid 3).readTids 0 5 0x700 1 0 with | .ok (rs, _) => rs == [3] | .error _ => false) = true ∧
    (match (stTid 3).checkLaunch lr with | .ok _ => true | .error _ => false) = true ∧
    (match (stTid 4096).checkLaunch lr with | .error e => e == (6, 4096) | .ok _ => false) = true := by decide +kernel
/-- A launch that records into the area at 0x10000, and one that replays. -/
def stRec (len : Nat) : State := let lr := lr5 + 2 ^ 420
  { stQ0 1 pl0 with ctx := [(5, 1 + len * 2 ^ 440 + 0x10 * 2 ^ 460)], plat := { pl0 with replays := [(7, [(16, 0)])], queues := [(0, { base := 0x100, log := 1, tail := 1, pending := some { lr := lr, gates := [], fuse := [], tid := [] } })] } }
theorem wit_recording : recording (lr5 + 2 ^ 420) = true ∧ recArea (stRec 1).ctx 5 = (0x10000, 4096) ∧ (stRec 1).admissible 0 { lr := lr5 + 2 ^ 420, gates := [], fuse := [], tid := [] } = true ∧
    (rectCells (lr5 + 2 ^ 420)).length = 1 ∧ (look (stRec 1).plat.replays 7).isSome = true ∧ (look (stRec 1).plat.replays (fld lr5 127 96)).isNone = true := by decide +kernel
def stDue (gt : Nat) : State := { stEnd (fun g => { g with replay := some [(3, 16, 0)], metAt := 5 }) with gt := BitVec.ofNat 64 gt }
theorem wit_replay_due : (look (stDue 0).grids 0).map (fun x => ((x.replay.getD []).map (·.1), x.metAt)) = some ([3], 5) ∧ 5 + 2 ^ 24 ≤ (stDue (5 + 2 ^ 24)).gt.toNat ∧ (stDue 0).gt.toNat < 5 + 2 ^ 24 := by decide
def stNone : State := { mem := tables, ctx := [(0, 0x1001)], cells := [(0, { lo := {}, hi := {}, grid := some 0 })], grids := [(0, { lr := 64 * 2 ^ 64, queue := 0, gtStart := 0 })] }
theorem wit_nothing_left : NothingLeft stNone 0 { lr := 64 * 2 ^ 64, queue := 0, gtStart := 0 } ∧ stNone.finished 0 = true ∧ stNone.caching 0 = false ∧ stNone.cellsOf 0 = [0] := by
  refine ⟨⟨rfl, fun d e he => ?_, fun p e he => ?_⟩, by decide +kernel, by decide +kernel, by decide +kernel⟩
  · have hd : (stNone.die d).streams = [] := rfl
    simp [hd] at he
  · have hl : stNone.locksAt p = [] := by
      cases p with
      | slice d n => rfl
      | port c => simp only [State.locksAt, State.cell, stNone, lookD, look]; split <;> rfl
    simp [hl] at he
theorem wit_switch_area : let lr := 64 * 2 ^ 64
    (stSv .preempting 0).saveSpot lr = some 0 ∧ 0 + saveNeed lr ≤ 2 ^ 40 ∧ ((stSv .preempting 0).mapCell 0 (fun c => { c with tongs := [cmd .cpy cpyD] })).saveSpot lr = some 0 ∧
    (((stSv .preempting 0).mapCell 0 (fun c => { c with tongs := [cmd .cpy cpyD] })).cell 0).copies = true ∧
    (((stSv .preempting 0).mapCell 0 (fun c => { c with tongs := [cmd .cpy cpyD] })).cell 0).arrays = false ∧ (cmd .cpy cpyD).preStatus lr = none := by decide +kernel
theorem wit_ports : let s : State := { st0 with plat := { down := [.port 3] } }
    LinkId.port 3 ∈ s.plat.down ∧ LinkId.port 2 ∉ s.plat.down ∧ s.plat.deaf 32 = true ∧ s.plat.deaf 0 = false ∧
    ([] : List (BitVec 512)).length ≤ 64 ∧ 64 < (List.replicate 65 (0 : BitVec 512)).length := by decide +kernel
-- R447: behind by 3 and 1,000 of the 1,024 cycles gone; after 30 more GT has gone one further, or one less when ahead.
theorem test_slew : let s := fun (n : Int) => ({ gt := 100#64, plat := { slew := n, slewAt := 1000 } } : State).pass 30
    ((s 3).gt, (s 3).plat.slew) = (131#64, 2) ∧ ((s (-3)).gt, (s (-3)).plat.slew) = (129#64, -2) := by decide
/-! ### Turns of the whole machine -/

theorem wit_boot_held : let s : State := { stStep with plat := { stStep.plat with bootErr := [(3, 1)] } }
    s.plat.bootErr ≠ [] ∧ s.sched = [{ dt := 0, what := .issue 0 false }] ∧ (match step s with | .next t => t.b.pc == 0#64 | _ => false) = true := by decide +kernel
theorem wit_upset_turn : ({ stStep with sched := [{ dt := 1, what := .upset (.reg 0 false 5#8 0) true }] } : State).plat.bootErr = [] := by decide
-- R354: s5 is poisoned by a double-bit error, and ADD of it raises MEM.UE; a transfer to a slot whose START bit is clear raises BTM.
theorem test_upset_source : ended (after (step (after (step { stStep with sched := [{ dt := 0, what := .upset (.reg 0 false 5#8 0) true }, { dt := 0, what := .issue 0 false }] })))) = some (0x10, Cause.memUe.code) := by decide +kernel
theorem test_btm : ended (after (step (stStep.mapBank 0 false (fun b => { b with entered := some 0 })))) = some (0x10, Cause.btm.code) := by decide +kernel
theorem wit_token_source : (readsOf (.add (t3 .i64))).contains 5#8 = true ∧ ((stStep.mapBank 0 false (fun b => { b with poison := [5#8] })).bank 0 false).poison = [5#8] ∧
    ((stStep.mapBank 0 false (fun b => { b with tokens := [(5, .die)] })).bank 0 false).tokens ≠ [] := by decide +kernel


/-! ## Premises of the statements widened since -/

/-! ### Rounding, releases and atomics -/

-- 65520 is the tie above the largest number of f16, 2^-24 the smallest below 2^-14 by far; E4M3's tie above 448 stays.
theorem wit_overflow : (Ty.fmt .f16, (65504 : Rat), (32 : Rat), (1 / 2 ^ 14 : Rat), (1 / 2 ^ 25 : Rat)) ∈ limits ∧ Overflows (Ty.fmt .f16) .rne 65504 32 65520 ∧
    ¬ Overflows (Ty.fmt .f16) .rz 65504 32 65520 ∧ Overflows (Ty.fmt .f16) .rd 65504 32 (-65505) ∧ Overflows (Ty.fmt .f16) .ru 65504 32 65505 ∧
    ¬ Overflows fmtE4m3 .rne 448 32 464 ∧ Tiny .rne (1 / 2 ^ 14) (1 / 2 ^ 25) (1 / 2 ^ 24) ∧ Tiny .ru (1 / 2 ^ 14) (1 / 2 ^ 25) (-1 / 2 ^ 15) ∧
    Tiny .rd (1 / 2 ^ 14) (1 / 2 ^ 25) (1 / 2 ^ 15) := by
  refine ⟨.tail _ (.tail _ (.head _)), ?_⟩; unfold Overflows Tiny; decide +kernel
-- R209 and R221: 65504 + 32 in f16 by mode: an infinity when rounding to nearest or up, the largest number when rounding to zero or down.
theorem test_overflow : ([Rnd.rne, .rz, .rd, .ru].map (fun m => let f := fArith .add (Ty.fmt .f16) m false 0x7BFF 0x5000 0; (f.bits, f.of, f.nx))) =
    [(0x7C00, true, true), (0x7BFF, true, true), (0x7BFF, true, true), (0x7C00, true, true)] := by decide +kernel
/-- An access of the task that a release waits for, a dirty line that one sends home, and neither. -/
def stRl : State := { stG with fly := [{ n := 0, cell := 0, f := .access (stG.acc 8 (.port 0 8) 8 (.store 1 255 0)) }], serial := 1 }
theorem wit_starts_release : stG.b.task.map (·.rel) = some none ∧ stP.b.task.map (fun k => loadOf k.act (.access (stG.acc 8 (.home 0x10008) 8 (.load (.reg 4#8 .i64) .line)))) = some true ∧
    (stRl.fly.all (fun f => !loadOf 0 f.f) && stRl.fly.any (fun f => decide (f.n < stRl.serial) && relFlight (stRl.l1Cells 0) 0 0 f.f)) = true ∧
    (stL.cell 0).l1.map (fun l => (l.dirty, l.clus)) = [(1, false)] ∧ Scope.lt .cell .die = true ∧ Scope.lt .cell .cell = false := by decide +kernel
theorem test_release_writes_back : (after (exec (.stl { memG .i64 .g with sc := .die }) stL)).fly.filterMap (fun f => match f.f with | .access a => some (a.loc, a.op) | _ => none) =
    [(.home 0x10000, .store 7 1 2)] := by decide
theorem wit_discards : Discards stG 0 .clus 0 ∧ ¬ Discards stG 0 .cell 0 ∧ Discards stFu 0 .die (cellIn 0 3) ∧ ¬ Discards stFu 0 .clus 0 :=
  ⟨by unfold Discards; decide, by unfold Discards; decide, by unfold Discards; exact (if_pos (by decide)).mpr ⟨by decide, 3, by decide, by decide⟩,
    by unfold Discards; rw [if_pos (by decide)]; exact fun h => absurd h.1 (by decide)⟩
theorem wit_acquiring : (fly1 (.reply { accAt (.home 8) ldop 8 with acq := some .die } 5 none)).live 0 false 0 = true ∧ (stG.cell 0).rels = [] ∧
    ldop.isPrefetch = false := by decide
theorem wit_writing : stRl.writing (padSpot 0 0 8) = true ∧ stG.writing spotG = false ∧ (stH.heldTake spotG 8).isSome = true ∧ stG.fencing 0 stG.act = false := by decide +kernel
theorem wit_atomic_values : (3 : Nat) < 2 ^ Ty.width .i32 ∧ (fmt32.width, fmt64.width) = (32, 64) ∧ (decodeF fmt32 0x7F800000) = .inf false ∧ (decodeF fmt32 0x7FC00000).isNan = true ∧
    rat (decodeF fmt32 0x3F800000) = some 1 ∧ 0x7FC00000 < 2 ^ fmt32.width ∧ (decodeF fmt32 0xFF800000).neg = true := by decide +kernel
-- R159: -1 is the smaller as a signed number and the larger as an unsigned one; a sum wraps; a CAS that fails writes nothing.
theorem test_atomic_values : (AOp.atomic .min .i32 0xFFFFFFFF 4#8).newVal 1 = some 0xFFFFFFFF ∧ (AOp.atomic .minn .i32 0xFFFFFFFF 4#8).newVal 1 = some 1 ∧
    (AOp.atomic .add .i32 0xFFFFFFFF 4#8).newVal 1 = some 0 ∧ (AOp.cas .i64 1 5 4#8).newVal 1 = some 5 ∧ (AOp.cas .i64 2 5 4#8).newVal 1 = none ∧
    (AOp.amof .add .f32 0x3F800000 4#8).newVal 0x3F800000 = some 0x40000000 := by decide +kernel

/-! ### Channels, barriers and tensor identifiers -/

theorem wit_channel_busy : (((stCp true 0 1).cell 0).chan 0).cmd = some { cmd .cpy cpyD with started := true } ∧ (((stCp true 0 1).cell 0).chan 0).out ≠ 0 ∧
    (stCp true 0 1).holder = false ∧ stH.holder = true := by decide +kernel
/-- A task waits at the barrier. -/
def stBw (f : Flight) : State := (stB (bword 4096 4096 0 1) f).mapCell 0 (fun c => { c with watch := [{ off := 64, who := st0.who, dst := 4#8 }] })
theorem wit_watched : ((stBw (.count 0 64 4096 0 0)).cell 0).watch.map (·.off) = [64] ∧ bits (bword 0 4096 1 1) 8 8 ≠ 0 ∧ bits (bword 4096 4096 0 1) 8 8 = 0 := by decide
-- R136: the piece that completes the barrier answers the BTEST that waits: DONE, all of 4096 bytes landed.
theorem test_btest_answered : let t := after (exec (.barrierArrive 0) (stBw (.count 0 64 4096 0 0)))
    (t.cell 0).watch = [] ∧ t.fly.map (fun f => f.f) = [btReply { off := 64, who := st0.who, dst := 4#8 } 0 4096] := by decide
theorem wit_tid_flits : stFl.roundTrip 0 0 (dieOf 32) = none ∧ stFl.flits 0 0 1 1 = none ∧ (stG.flits 0 0 1 1).isSome = true ∧ (stG.roundTrip 0 0 0).isSome = true ∧
    ((2 ^ 10 : Nat).testBit 10 = true) := by decide +kernel

/-! ### Messages, spawns, streams and transfers -/

/-- A grid whose one home-slice slot of die 0 is spent, and its task. -/
def stHs : State := { stV with grids := [(0, { lr := 64 * 2 ^ 64 + 2 ^ 192 + 2 ^ 792, queue := 0, gtStart := 0 })] }.mapDie 0 (fun d => { d with spent := [(0, [(1, 1)])] })
theorem wit_no_slot : stHs.hsRead 0 0 0x1000 = none ∧ stHs.hasHandler 0 0 = none ∧ (stV.hsRead 0 0 0x1000).isSome = true := by decide +kernel
theorem wit_handler : (match ({ stLr (lrT 0) 0x40 0 with grids := [(0, { lr := lrT 0, queue := 0, gtStart := 0 })] } : State).hasHandler 0 0 with | some (k, _) => k | none => false) = true ∧
    (match stV.hasHandler 0 3 with | some (k, _) => !k | none => false) = true := by decide +kernel
/-- A message of two flits from die 1, one of which its grid can have. -/
def stMf : State := { stM [] [] with grids := [(0, { lr := 64 * 2 ^ 64 + 2 ^ 816, queue := 0, gtStart := 0 })] }
theorem wit_message_part : (stMf.flitsUp 0 1 2).2 = 1 ∧ (stMf.flitsUp 0 1 1).2 = 0 ∧ dieOf 32 ≠ dieOf 0 ∧ 0 < qm0.flits := by decide +kernel
/-- A spawn with tile `id` in an entry, 0 to 3 read and 4 and 5 written; spawns that are in the table and the entry of a tile with two buffers. -/
def spT (m k id : Nat) : Spawn := { spw with msgid := m, desc := (2 ^ 127 + id * 2 ^ 104) * 2 ^ (512 + 128 * k) }
def depT (p : Spawn) (b : Map Nat) : Dep := { p := p, after := [], ev0 := true, ev1 := true, started := false, bufs := b }
def stTl (e : Nat) (p : Spawn) (l : List Dep) : State :=
  { st0.mapDie 0 (fun d => { d with dep := l }) with grids := [(0, { lr := 64 * 2 ^ 64, queue := 0, gtStart := 0, tid := [(5, e)] })], fly := [{ n := 0, cell := 0, f := .dep p .cell }] }
def ren : Nat := 2 ^ 10 + 2 ^ 15 + 2 ^ 11
theorem wit_tiles : (spTiles (spT 3 0 5).desc false).map (·.1) = [5] ∧ spTiles (spT 3 0 5).desc true = [] ∧ (spTiles (spT 4 4 5).desc true).map (·.1) = [5] ∧
    (stTl ren (spT 3 4 5) []).tidEnt 0 0 5 = ren ∧ ren.testBit 10 = true ∧ ren.testBit 15 = true ∧ (stTl 0 (spT 3 4 5) []).tidEnt 0 0 5 = 0 ∧ bits ren 11 4 = 1 := by decide +kernel
/-- What the spawn entered waits for. -/
def waitsOf (o : Host.Outcome State Fault Refusal) : List (List Nat × Map Nat) := ((after o).die 0).dep.map (fun e => (e.after, e.bufs))
-- R377: a read waits for the write of its tile and not for that of another one. R378: a write takes the next buffer, and waits for none of another buffer; a read for its newest writer.
theorem test_tiles : waitsOf (exec (.depTableEntry 0) (stTl 0 (spT 3 0 5) [depT (spT 7 4 5) [], depT (spT 8 4 6) []])) = [([], []), ([], []), ([7], [])] ∧
    (waitsOf (exec (.depTableEntry 0) (stTl ren (spT 3 4 5) [depT (spT 7 4 5) [(5, 0)], depT (spT 8 4 5) [(5, 1)]]))).map (·.1) = [[], [], [8]] ∧
    (waitsOf (exec (.depTableEntry 0) (stTl ren (spT 3 0 5) [depT (spT 7 4 5) [(5, 0)], depT (spT 8 4 5) [(5, 1)]]))).map (·.1) = [[], [], [7]] := by decide +kernel
theorem wit_placement : (stDp [dep0 [] true]).placement (dep0 [] true) = some (0, stDp [dep0 [] true]) ∧ spPlace spw.desc = 0 := by decide +kernel
/-- Two lane stores of one instruction to state, alone together, and another task's. -/
def lnA (off : Nat) (act : Nat) : Access := { st0.acc off (.hearth 5 off) 8 (.store 1 255 0) with act := act }
def stLa : State := { stPg [] [7] with fly := [{ n := 0, cell := 0, f := .access (lnA 8 0) }, { n := 1, cell := 0, f := .access (lnA 16 1) }] }
theorem wit_alone : Alone stLa 0 (lnA 8 0) ∧ (lnA 8 0).op.isStream = false ∧ (sAcc .step).op.isStream = true ∧ 8 % (lnA 8 0).n = 0 ∧
    withState (lnA 8 0) (.access (lnA 16 0)) = true := by
  refine ⟨fun j f hj hk => ?_, by decide, by decide, by decide, by decide⟩
  match j with
  | 0 => exact absurd rfl hk
  | 1 => cases hj; decide
  | n + 2 => exact nomatch hj
/-- A state of the grid whose flits are spent, and a transfer whose answer's port has failed. -/
theorem wit_stream_waits : ({ stFl with fly := [{ n := 0, cell := 32, f := .access { sAcc .step with cell := 32 } }] } : State).roundTrip 0 (dieOf 32) (fld 5 16 14) = none := by decide +kernel
theorem wit_transfer_lost : (stMg true).ackLost (migM true) = false ∧ ({ stMg true with plat := { (stMg true).plat with down := (List.range 8).map (fun k => .port k) } } : State).ackLost (migM true) = true ∧
    (stMg true).plat.lost 1 0 (stMg true).cut = false ∧ ({ down := (List.range 8).map (fun k => .port k) } : Plat).lost 1 0 (fun _ _ => false) = true := by decide +kernel

/-! ### Sets -/

def lkg (g r : Nat) : LockMsg := { lkq false (pty r 1) with who := { pty r 1 with gid := g } }
/-- A request from die 0 for a set whose entry is at a cell of die 1, and its grant back. -/
def lkf (l : LockMsg) : LockMsg := { l with place := 2 ^ 41 + 32 * 2 ^ 18 }
theorem wit_lock_flits : stFl.lockFlit (lkf (lkg 0 0)) false = none ∧ stFl.lockFlit (lkg 0 32) true = none ∧ (lkf (lkg 0 0)).home.die = 1 := by decide +kernel
theorem wit_lock_here : (stG.lockFlit (lkg 0 0) false).isSome = true ∧ (stG.lockFlit (lkg 0 0) true).isSome = true := by decide +kernel
/-- A set that the first access of a task touches: not asked for yet, or asked; of a scratchpad or of global memory. -/
def stFs (dsp asked : Bool) : State := stG.mapBank 0 false (fun b => b.mapTask (fun k => { k with slots := [(2, { dsp := dsp, base := 0, sz := 0, asked := asked })] }))
theorem wit_unheld : FirstUnheld (stFs false false) spotG 8 2 { dsp := false, base := 0, sz := 0, asked := false } ∧
    FirstUnheld (stFs true true) (padSpot 0 0 8) 8 2 { dsp := true, base := 0, sz := 0, asked := true } ∧ Translated (stFs false false) 0 0 te := by
  refine ⟨⟨by decide, by decide, by decide, by decide, fun m q hm h => ?_⟩, ⟨by decide, by decide, by decide, by decide, fun m q hm h => ?_⟩, by unfold Translated; decide⟩ <;>
    (match m, hm with | 0, _ => exact nomatch h | 1, _ => exact nomatch h)
-- R165 and R169: the load waits, and its request goes to the slice of the set's frame.
theorem test_first_touch : (after (exec (.ld (memG .i64 .g)) (stFs false false))).fly.map (fun f => match f.f with | .lock q => (q.place, q.release, q.who.slot) | _ => (0, true, 0)) =
    [(0x10000, false, 2)] := by decide +kernel
/-- The high task of cell 0 waits for a set that its low task is about to be given. -/
theorem wit_low_of_high : let hiP : Party := { pty 0 5 with hi := true, act := 1 }
    ((stLk [lke (some (pty 3 1)) [pty 0 2, hiP]] (lkq true (pty 3 1))).bank 0 false).task.map (fun k => (k.act, k.ending)) = some ((pty 0 2).act, .none) ∧
    hiP ∈ [hiP] ∧ hiP.cell = (pty 0 2).cell := by decide

/-! ### Walks, lines, repetitions and the window -/

theorem wit_by_task : byTask (xq 0 0) ∧ ¬ byTask { xq 0 0 with eng := true } := by unfold byTask; decide
/-- A grid whose home-slice slot is spent reads no entry of a table; the read of a contiguous leaf needs two. -/
def stHw (n : Nat) : State := { stX (.wread (wk 0x123 1 2 0x3000)) with grids := [(0, { lr := 64 * 2 ^ 64 + n * 2 ^ 792, queue := 0, gtStart := 0 })] }
theorem wit_walk_slots : ((stHw 1).mapDie 0 (fun d => { d with spent := [(0, [(1, 1)])] })).hsRead 0 0 0x3000 = none ∧ ((stHw 1).hsRead 0 0 0x3000).isSome = true ∧
    (match (stHw 2).hsRead 0 0 0x3000 with | some r => (r.hsRead 0 0 0x3040).isSome | none => false) = true ∧
    ((stX (.dirty (xq 0 1) te)).hsRead 0 0 0).isSome = true := by decide +kernel
theorem wit_invalidation_flits : (fly1 (.tlbi st0.who (some 4#8) 1 0 0 none 0)).invFlits 0 0 (some 0) ≠ none ∧ (stFl.mapDie 1 (fun d => { d with spent := [(0, [(2, 1)])] })).invFlits 0 0 none = none ∧
    ((stL.mapCell 0 (fun c => { c with grid := some 0 })).cell 0).grid = some 0 ∧ (stL.cell 0).l1.map (·.dirty) = [1] := by decide +kernel
theorem wit_line_slots : ((stF [] true).mapDie 0 id).hsRead 0 0 0x10000 ≠ none ∧
    ({ stF [] true with grids := [(0, { lr := 64 * 2 ^ 64 + 2 ^ 792, queue := 0, gtStart := 0 })] }.mapDie 0 (fun d => { d with spent := [(0, [(1, 1)])] })).hsRead 0 0 0x10000 = none := by decide +kernel
-- R290: the first add of a block staggered past v31; an instruction of a class outside the list.
theorem wit_stagger : bits vaddW 90 6 ∈ blockClasses ∧ bits 0x840F00060000000004000000 90 6 ∉ blockClasses ∧ vaddW < 2 ^ 96 ∧ Leaves vaddW 0 28 1 ∧ ¬ Leaves vaddW 0 27 1 ∧
    (repFault 1 1 29 0 1 vaddW = some (.repRange, 1, 28)) ∧ repFault 1 1 28 0 1 vaddW = none := by unfold Leaves Unassigned; decide +kernel
theorem test_stagger : stagInstr { rep1 with mark := 5 } 0 1 = some vaddI := by decide +kernel
/-- A grid over 128 by 32 cells that reserves one flit of a die, spent on die 0. -/
def stW2 : State := { st0 with grids := [(0, { lr := 64 * 2 ^ 64 + 2 ^ 816 + 7 * 2 ^ 237 + 5 * 2 ^ 240, queue := 0, gtStart := 0 })] }.mapDie 0 (fun d => { d with spent := [(0, [(2, 1)])] })
theorem wit_window_flits : stW2.winFlits { cell := 0, hi := true, act := 0, msgid := 0, gid := 0 } 32 = none ∧
    (stW2.winFlits { cell := 0, hi := true, act := 0, msgid := 0, gid := 0 } 1).isSome = true := by decide +kernel
theorem wit_window_here : ((stWin (.rd 7 5#8)).winFlits { cell := 0, hi := true, act := 0, msgid := 0, gid := 0 } 0).isSome = true := by decide +kernel

/-! ### Tokens, copies and gang steps -/

/-- The token of a SMPL with no legal entry: of a task that runs, with the trap enabled or not, and of one that is gone. -/
def stNl (tok : Option RegSpec) (act : Nat) (trap : Bool) : State :=
  { (stQu (fun c => { c with lo := { c.lo with st := if trap then 0x2000 else 0 } })) with fly := [{ n := 0, cell := 0, f := .token { cmd := { cmd .smpl 0 with tok := tok, act := act }, status := 0x91, val := 0 } }] }
theorem wit_nolegal : (stNl (some 4#8) 0 false).live 0 false 0 = true ∧ (stNl none 9 false).live 0 false 9 = false ∧ ((stNl none 0 false).cell 0).grid = some 0 ∧
    ((stNl none 0 true).bank 0 false).st.getLsbD 13 = true ∧ ((stNl none 0 false).bank 0 false).st.getLsbD 13 = false := by decide +kernel
-- R336: NOLEGAL is set, and a detached one is counted; enabled, it is a trap and is not counted.
theorem test_nolegal : (let t := after (exec (.tokenWrite 0) (stNl none 0 false)); (t.b.st, lookD (t.cell 0).csr 8 0, (t.b.task.map (·.pendTrap.isSome)))) = (0x20#64, 1, some false) ∧
    (let t := after (exec (.tokenWrite 0) (stNl none 0 true)); (lookD (t.cell 0).csr 8 0, (t.b.task.map (·.pendTrap.isSome)))) = (0, some true) := by decide +kernel
theorem wit_ard_clr : (ardW 0).testBit 44 = false ∧ (ardW 0 + 2 ^ 44).testBit 44 = true ∧ ArdFit (stQu (fun c => { c with acc := [(0, acc1)] })) 0 (cmd .ard (ardW 0 + 2 ^ 44)) ∧
    fld (ardW 0) 51 48 = 1 ∧ (Ty.ofNat? 8).isSome = true ∧ fld (ardW 0 + 7 * 2 ^ 48) 51 48 = 8 := by unfold ArdFit; decide +kernel
-- R293: row 0 read and cleared.
theorem test_ard_clr : let t := after (exec (.engineQueueHead 0 .anvil) (stQu (fun c => { c with acc := [(0, { acc1 with el := [(0, 5), (32, 6)] })], anvil := [cmd .ard (ardW 0 + 2 ^ 44)] })))
    (t.cell 0).ard.map (·.rows) = some [5] ∧ (look (t.cell 0).acc 0).map (fun a => (lookD a.el 0 0, lookD a.el 32 0)) = some (0, 6) := by decide +kernel
/-- Copies over tables: CPYG and CPYS of one row of two words by an index at 0x80, a bound of 4. -/
def tabD : Nat := cpyD + 0x80 * 2 ^ 224 + 4 * 2 ^ 256
def stTab (op : CmdOp) (idx : Nat) : State :=
  { stQu (fun c => { c with chans := [(0, { cmd := some { cmd op tabD with started := true } })] }) with mem := memPut [] (padKey 0 0x80) (bytesOf 4 idx) }
theorem wit_copy_table : ((stTab .cpyg 2).slot 0 0 .tongs).isSome = true ∧ bit tabD 423 = false ∧ bits tabD 428 4 = 1 ∧ codeBytes (bits tabD 436 4) = 4 ∧ bits tabD 256 32 = 4 ∧
    0 < (cmd .cpyg tabD).total ∧ memRead (stTab .cpyg 2).mem (padKey 0 (bits tabD 224 18)) 4 = 2 ∧ plainAt tabD false 0 2 0 0 + 64 ≤ 2 ^ 18 := by decide +kernel
-- R130: an index of 32 ones is skipped; one at the bound is INDEX.
theorem test_copy_table : (((after (exec (.tongsPieceLand 0 0) (stTab .cpyg 0xFFFFFFFF))).cell 0).chan 0).w.pos = 1 := by decide +kernel
theorem test_copy_index : (((after (exec (.tongsPieceLand 0 0) (stTab .cpyg 4))).cell 0).chan 0).stop.map (·.1) = some 0x16 := by decide +kernel
/-- A piece of CPYM to cells 0 and 1, and one of CPYR that adds. -/
def gotP : Got := { els := 2, data := 0x1122334455667788, bad := false, dst := 0x200 }
def stPw (op : CmdOp) (arg cnt : Nat) (mem : List Host.Cell) : State :=
  { (stQu (fun c => { c with chans := [(0, { cmd := some { cmd op arg with started := true, cnt := cnt }, w := { got := some gotP } })] })).mapCell 1 (fun c => { c with grid := some 0 }) with mem := mem }
theorem wit_copy_member : let s := stPw .cpym cpyD 8 []
    0 < 2 * (cmd .cpym cpyD).z ∧ bit cpyD 447 = false ∧ Untraced s 0 ∧ (s.cell 0).grid = some 0 ∧ (s.cell 1).grid = some 0 ∧ bits cpyD 87 5 + 2 ^ fld 8 2 0 ≤ 32 ∧ bits cpyD 82 5 + 2 ^ fld 8 5 3 ≤ 32 ∧
    cellAt 0 0 = 0 ∧ cellAt 0 1 = 1 ∧ (s.cell 1).watch = [] ∧ 0x200 + 8 ≤ 0x3FFC0 := by unfold Untraced; decide +kernel
theorem test_copy_member : let t := after (exec (.tongsPieceLand 0 0) (stPw .cpym cpyD 8 []))
    (memRead t.mem (padKey 0 0x200) 8, memRead t.mem (padKey 1 0x200) 8, memRead t.mem (padKey 2 0x200) 8) = (0x1122334455667788, 0x1122334455667788, 0) := by decide +kernel
theorem wit_copy_reduce : (cmd .cpyr cpyD).ty = 2 ∧ bits cpyD 440 4 = 0 ∧ (cmd .cpyr cpyD).space true = 1 ∧ ((stPw .cpyr cpyD 0 []).cell 0).watch = [] ∧ Combined 2 0 0xFFFFFFFF 1 0 := by
  unfold Combined; decide +kernel
-- R129: each of the two sums wraps on its own.
theorem test_copy_reduce : memRead (after (exec (.tongsPieceLand 0 0) (stPw .cpyr cpyD 0 (memPut [] (padKey 0 0x200) (bytesOf 8 (1 + 0xFFFFFFFF * 2 ^ 32)))))).mem (padKey 0 0x200) 8 = 0x55667789 + 0x11223343 * 2 ^ 32 := by decide +kernel
/-- A step that advances its B ring too; the operand cache of its cell holds its part of A. -/
def gsB (cnt : Nat) : GangStep := { gs0 .fetching with joined := [(0, { am 3 with cnt := cnt })] }
def opA1 : OpEnt := { ctl := 0x1000, gen := 0, roleB := false, data := 0x77 }
def stOc (cnt : Nat) : State := { stAm [gsB cnt] with steps := [gsB cnt] }.mapCell 0 (fun c => { c with opc := [opA1] })
theorem wit_operands : opHit ((stOc 0).cell 0).opc (rg4 0x1000) 0 false = some opA1 ∧ opHit ((stOc 0).cell 0).opc (rg4 0x8000) 0 true = none ∧ bit (2 ^ 9 : Nat) 9 = true ∧
    (rg4 0x1000).ctl % 2 ^ 18 + 8 ≤ 0x3FFC0 ∧ cwFilled (rg4 0x8000).slots ((stOc (2 ^ 9)).ringWord (rg4 0x8000) 0) = some 1 ∧ ((stOc 0).cell ((rg4 0x8000).owner 0)).watch = [] ∧
    padKey ((rg4 0x1000).owner 0) 0x1000 + 8 ≤ padKey ((rg4 0x8000).owner 0) 0x8000 ∧ (stOc 0).bad ((rg4 0x8000).slotLoc 0 0).key 4096 = false ∧ ((stOc 0).cluster 0).bus = false := by decide +kernel
-- R283 and R286: A comes from the operand cache; B is read, and its C count is one more.
theorem test_operand_cache : let t := after (exec (.ammaFetchEnd 0) (stOc (2 ^ 9)))
    (t.steps.map (fun u => (lookD u.opA 0 0, u.phase)) == [(0x77, .fetched)]) = true ∧ t.ringWord (rg4 0x8000) 0 = 1 + 2 ^ 32 ∧ t.ringWord (rg4 0x1000) 0 = 1 ∧
    (t.cell 0).opc.map (·.roleB) = [true, false] := by decide +kernel
/-- The broadcast bus: sixteen gangs of one cell, their steps joined, with the B ring of each. -/
def gsN (ph : Phase) (b : Nat → Nat) (n : Nat) : GangStep :=
  { (stG.gangOf (cellIn 0 n)) with joined := [(cellIn 0 n, { am (3 + n) with cell := cellIn 0 n, ringD := some (rg4 (b n)) })], phase := ph }
def stBc (ph : Phase) (b : Nat → Nat) (k : Nat) : State :=
  { (stAm []).mapCluster 0 (fun c => { c with bus := true }) with steps := (List.range k).map (gsN ph b) }
theorem wit_broadcast : ((stBc .joining (fun _ => 0x8000) 16).cluster 0).bus = true ∧ (List.range 16).all (fun n => (gsN .joining (fun _ => 0x8000) n).full && (gsN .joining (fun _ => 0x8000) n).agrees &&
      decide ((gsN .joining (fun _ => 0x8000) n).cluster = 0)) = true ∧
    (((stBc .joining (fun _ => 0x8000) 16).steps.map (fun w => w.joined.length)).sum = 16) ∧ ((stBc .joining (fun _ => 0x8000) 15).steps.map (fun w => w.joined.length)).sum = 15 ∧
    ((stBc .joining (fun _ => 0x8000) 16).released (am 3)) = true ∧ (rg4 0x8000) ≠ (rg4 0x9000) ∧ (2 ^ 16 ≤ ({ stBc .joining (fun _ => 0x8000) 15 with gt := 65536 } : State).gt.toNat) := by decide +kernel
-- R285: unlike B rings end every step of the cluster with MISMATCH; like ones wait for the sixteenth.
theorem test_broadcast : let s := stBc .joining (fun n => if n = 5 then 0x9000 else 0x8000) 16
    (after (exec (.ammaStepStart 0) s)).steps.length = 0 ∧ ((after (exec (.ammaStepStart 0) s)).fly.filterMap (fun f => match f.f with | .token w => some w.status | _ => none)) = List.replicate 16 0x56 ∧
    (after (exec (.ammaStepStart 0) (stBc .joining (fun _ => 0x8000) 15))).steps.length = 15 := by decide +kernel
theorem wit_broadcast_fetch : let s := stBc .ready (fun _ => 0x8000) 16
    (s.steps.filter (fun w => decide (w.cluster = 0 ∧ w.phase = .ready ∧ w.wave = 0))).length = 16 ∧ cwFilled (rg4 0x8000).slots (s.ringWord (rg4 0x8000) 0) = some 1 := by decide +kernel
theorem wit_broadcast_end : let s := stBc .fetching (fun _ => 0x8000) 16
    (s.steps.all (fun w => w.phase == .fetching && w.wave == 0 && w.cells.all (fun c => !s.bad ((rg4 0x1000).slotLoc c w.genA).key 4096 && !s.bad ((rg4 0x8000).slotLoc c w.genB).key 16384))) = true := by decide +kernel
-- R277 in the float formats: one fused product of ones at a time in FP32; NaN in, NaN out.
theorem wit_step_sums : stepForm 8 8 = some (32, 4, .fp32) ∧ stepForm 12 12 ≠ none ∧ (List.replicate 32 0x3F800000).length = 32 ∧ (Ty.ofNat? 8).isSome = true ∧
    rat (decodeF fmt32 0x3F800000) = some 1 ∧ (decodeF fmt32 0x7FC00000).isNan = true := by decide +kernel
theorem test_step_sums : (stepEl 8 8 (List.replicate 32 0x3F800000) (List.replicate 32 0x3F800000) 0 0 true 0).bits = 0x42000000 ∧
    (stepEl 8 8 (0x7FC00000 :: List.replicate 31 0x3F800000) (List.replicate 32 0x3F800000) 0 0 true 0).nan = true := by decide +kernel
/-- The last row of an ARD to a ring of slots of 128 bytes. -/
def rgA : Ring := { desc := 128 * 2 ^ 160 + 2 * 2 ^ 128 + 0x4000, ctl := 0x1000 }
def stAr : State := stQu (fun c => { c with ard := some { cmd := { cmd .ard (ardW 2) with ringD := some rgA }, size := 128, rows := [5], loc := some (.port 0 0x4000), flags := 0 } })
theorem wit_ard_ring : ((stAr.cell 0).ard.map (fun a => (a.loc, a.rows.length, a.row, fld a.cmd.arg 43 42))) = some (some (.port 0 0x4000), 1, 0, 2) ∧ cwFilled rgA.slots (stAr.ringWord rgA 0) = some 0 ∧
    0x4000 % 64 = 0 ∧ padKey (rgA.owner 0) 0x1000 + 8 ≤ padKey 0 0x4000 ∧ rgA.slots = 2 ∧ (stAr.cell 0).watch = [] := by decide +kernel
-- R293: the producer count is raised after the last row.
theorem test_ard_ring : let t := after (exec (.ardRowLand 0) stAr); t.ringWord rgA 0 = 1 ∧ memRead t.mem (padKey 0 0x4000) 8 = 5 := by decide +kernel

/-! ### Crucibles, generation and collectives -/

/-- An append to a page whose header is poisoned, and HEADs signalled. -/
theorem wit_append_poison : (match (stKv (fun g => { g with poison := true })).appRow kApp with | some (_, some st, _) => st == 0x6F | _ => false) = true ∧
    look ({ stKv id with plat := { headDue := [(5, 2)] } } : State).plat.headDue 5 = some 2 ∧ look (stKv id).plat.headDue 5 = none := by decide +kernel
theorem test_head_copy : let s : State := { stKv id with plat := { headDue := [(5, 2)] } }
    (lookD ((after (exec (.headCopy 5) s)).cruc 3).asids 5 {}).head = 2 ∧ (lookD ((after (exec (.headCopy 6) s)).cruc 3).asids 6 {}).head = 1 := by decide +kernel
-- R270: a control word that counts past its wrap ends a query with RING, the tiles met in its token.
theorem test_query_ring : let s := { stCr [{ qry [] with full := 2, rows := [] }] (.accept kQ) with mem := memPut [] (padKey (rgq.owner 0) (rgq.ctl % 2 ^ 18)) (bytesOf 8 0xFFFFFFFF) }
    cwFilled rgq.slots (s.ringWord rgq 0) = none ∧ (after (exec (.atqResult 0 0) s)).fly.filterMap (fun f => match f.f with | .token w => some (w.status, w.val) | _ => none) = [(0x65, 2 * 2 ^ 20)] := by decide +kernel
theorem wit_gen_waits : (match (stGen kSm smMem).runGen kSm with | .error (.wait _) => true | _ => false) = true ∧ (match (stGen { kSm with op := .gmask } smMem).runGen { kSm with op := .gmask } with | .error (.fail st _ _) => st == 0x90 | _ => false) = true := by decide +kernel
/-- A collective that has run and owes flits of die 0; a bad command of a member that one awaits, and a member whose command failed before one was opened. -/
theorem wit_collective_owes : let s := stCo [{ coOk with owes := [(0, 3)] }] (cmd .cred coD)
    (s.colls.map (fun x => (x.complete, x.owes))) = [(true, [(0, 3)])] ∧ s.released { cmd .cred coD with started := true } = true := by decide +kernel
theorem test_collective_owes : (after (exec (.collectiveResult 0) (stCo [{ coOk with owes := [(0, 3)] }] (cmd .cred coD)))).colls.map (·.owes) = [[]] := by decide +kernel
def stPa (l : List Coll) (n : Nat) : State := (stCo l { cmd .cred (coD2 + 1) with cell := 128 }).mapCell 128 (fun c => { c with coll := [{ cmd .cred (coD2 + 1) with cell := 128, id := 1 }], passed := n, grid := some 0 })
theorem wit_collective_passed : coBad { cmd .cred (coD2 + 1) with cell := 128 } = true ∧ co2.awaits 0 128 = true ∧ co2.base ≤ 0 ∧ ((stPa [co2] 0).cell 128).passed = 0 ∧
    (coCells coD2).filter (fun m => decide (((stPa [] 1).cell 0).passed < ((stPa [] 1).cell m).passed ∧ ((stPa [] 1).cell m).grid = some 0)) = [128] := by decide +kernel
-- R346: the member is noted where its collective is open, and kept for the one that will be.
theorem test_collective_passed : (after (exec (.collectiveJoin 128) (stPa [co2] 0))).colls.map (·.past) = [[128]] ∧ ((after (exec (.collectiveJoin 128) (stPa [] 0))).cell 128).passed = 1 := by decide +kernel
-- R347: poison at the input of a member that is not the root stops no broadcast.
theorem wit_broadcast_poison : (cmd .cbc coD).op = .cbc ∧ coRank coD 0 = 0 ∧ fld coD 75 63 = 0 ∧ coRank coD2 128 = 1 := by decide +kernel

/-! ### Ends, contexts and the platform -/

def stFl1 : State := stL.mapCell 0 (fun c => { c with lo := {}, grid := some 0 })
theorem wit_flushed : stFl1.caching 0 = true ∧ stFl1.finished 0 = true ∧ (stFl1.cell 0).l1.map (·.dirty) = [1] ∧ 0 ∈ stFl1.cellsOf 0 := by decide +kernel
theorem test_flush : let t := after (exec (.gridEnd 0) stFl1); (t.cell 0).l1 = [] ∧ t.fly.filterMap (fun f => match f.f with | .access a => some (a.loc, a.op) | _ => none) = [(.home 0x10000, .store 7 1 2)] := by decide +kernel
/-- A grid with a stream and a sequence of its own, and a persistent one of each. -/
def stOwn : State := ((stEnd id).mapDie 0 (fun d => { d with streams := [(5, strm .live), (6, { strm .live with pers := true })] })).mapCruc 0 (fun k => { k with seqs := [(0, sq0), (1, { sq0 with pers := true })] })
theorem wit_freed : stOwn.caching 0 = false ∧ look (stOwn.die 0).streams 5 = some (strm .live) ∧ (strm .live).gid = 0 ∧ sq0.gid = 0 ∧ sq0.pers = false := by decide +kernel
theorem test_saved_gates : (let x : Grid := { lr := 64 * 2 ^ 64, queue := 0, gtStart := 0, savedGates := [(0, 3, { parked := [5] })] }; (x.savedGates.map (fun e => (e.1, e.2.1))).Nodup) := by decide +kernel
/-- The header that a quench writes under the device's key. -/
def hdr0 : QuenchHeader := { wrapped := Config.wrapKey (Config.saveKey 0), sig := Config.identitySign (Config.wrapKey (Config.saveKey 0)) }
theorem wit_image : (∃ h, some hdr0 = some h ∧ h.sig = Config.identitySign h.wrapped) ∧ ({ stSv .saved 0 with plat := { header := some hdr0 } } : State).plat.header.isSome = true ∧
    (∀ g ∈ (stSv .saved 0).grids, g.2.resid = .saved) ∧ Config.wrapKey (Config.saveKey 0) = hdr0.wrapped := ⟨⟨hdr0, rfl, rfl⟩, by decide +kernel, by decide +kernel, rfl⟩
theorem wit_reset_kinds : ¬ (∃ h, (none : Option QuenchHeader) = some h ∧ h.sig = Config.identitySign h.wrapped) ∧ (stSv .saved 0).plat.up = false := ⟨(fun ⟨_, h, _⟩ => nomatch h), by decide +kernel⟩
/-- A link that carries a transfer's packets fails. -/
def stMl : State := { (stG.mapDie 0 (fun d => { d with streams := [(5, { strm .live with mig := true, xfer := 9, pers := true })] })) with
  fly := [{ n := 0, cell := 0, f := .mig st0.who 5 4#8 9 }], plat := { coords := some (0, 0, 0, 0), sent := [.migreq [1, 0, 0, 0] { src := 0, xfer := 9, die := 0, gangid := 0, last := true, part := .entry 0 }] } }
theorem wit_transfer_link : stMl.sEnt 5 = some { strm .live with mig := true, xfer := 9, pers := true } ∧ ({ strm .live with mig := true, xfer := 9, pers := true } : Stream).moves 9 = true ∧
    (stMl.fly.filter (stMl.onLink (.port 1))).length = 1 ∧ 0 ∈ stMl.flightGrids (.mig st0.who 5 4#8 9) := by decide +kernel
-- R421: another port's failure leaves the transfer alone.
theorem test_transfer_link : (after (exec (.linkFailure (.port 4)) stMl)).fly = stMl.fly ∧ ended (after (exec (.linkFailure (.port 4)) stMl)) = none ∧
    (after (exec (.linkFailure (.port 4)) stMl)).plat.down = [.port 4] := by decide +kernel
/-- Another job's grid was told to leave; the launch that waits may want its cells too. -/
theorem wit_gang_back : ({ (stEnd id) with plat := {} } : State).launchWants 0 = false ∧ ({ stQ0 1 pl0 with grids := [] } : State).plat.quench = none := by decide +kernel
theorem wit_other_agents : otherAgent (.quench) = true ∧ otherAgent (.add (t3 .i64)) = false ∧ otherAgent (.mlq 0#3) = false ∧ otherAgent .budgetPeriod = true := by decide

/-! ### The tag of a saved block (R426) -/

-- FIPS 197: the substitution of 53 is ed.
theorem test_aes_sub : aesSub 0x53 = 0xED := by decide +kernel
-- The published AES-256-GCM vector of the zero key, zero nonce and nothing to protect.
theorem test_gmac : gmac 0 0 [] = 0x530f8afbc74536b9a963b4f1c4cb738b := by decide +kernel

end Sys2Proof.Tests
end

/-!
The integer instructions of 08 (R198 to R206). An operand is the low word of its register, a result the exact integer
of the rule narrowed to a word; what an instruction leaves beside its result is said once of each kind of completion.
-/

namespace Sys2Proof.Machine

open Sys2Proof.Spec

/-! ### Operands and results as words of the width of a type -/

theorem width_cases (ty : Ty) : Ty.width ty = 8 ∨ Ty.width ty = 16 ∨ Ty.width ty = 32 ∨ Ty.width ty = 64 := by
  cases ty <;> simp [Ty.width]

theorem width_pos (ty : Ty) : 0 < Ty.width ty := by
  have := width_cases ty
  omega

/-- `sext(x, w)` of R7 is the signed reading of the low bits. -/
theorem sx_eq_toInt (x w : Nat) : sx x w = (BitVec.ofNat w x).toInt := by
  rw [BitVec.toInt_eq_toNat_cond, BitVec.toNat_ofNat]; rfl

theorem opn_eq (s : State) (ty : Ty) (r : RegSpec) : s.opn ty r = (low s ty r).toNat := by
  simp [State.opn, low]

theorem ops_eq (s : State) (ty : Ty) (r : RegSpec) : s.ops ty r = (low s ty r).toInt := by
  rw [State.ops, sx_eq_toInt, BitVec.ofNat_toNat, low]

theorem ofNat_wrapN (x : Int) (w : Nat) : BitVec.ofNat w (wrapN x w) = BitVec.ofInt w x := by
  apply BitVec.eq_of_toNat_eq
  rw [BitVec.toNat_ofNat, BitVec.toNat_ofInt, wrapN]
  apply Nat.mod_eq_of_lt
  have := BitVec.isLt (BitVec.ofInt w x)
  rwa [BitVec.toNat_ofInt] at this

/-- A narrowed result is its word of the width of the type, sign-extended (R200). -/
theorem narrow_eq (ty : Ty) (res : Int) : narrow ty res = (BitVec.ofInt (Ty.width ty) res).signExtend 64 := by
  rw [narrow, sx_eq_toInt, ofNat_wrapN, BitVec.signExtend]

/-! ### The checks of a well-formed instruction -/

theorem firstProblem_eq_none {l : List (Bool × Problem)} (h : firstProblem l = none) : ∀ c ∈ l, c.1 = true := by
  induction l with
  | nil => simp
  | cons c l ih =>
    obtain ⟨ok, p⟩ := c
    cases ok with
    | false => simp [firstProblem] at h
    | true => simpa using ih h

/-- A destination that an instruction checks for bank 00 is a scalar register. -/
theorem rbank_of_wf {i : Instr} {a : RegSpec} (h : i.wf = true) (hm : (a.isS, Problem.bank) ∈ i.checks) : rbank a = 0 :=
  isS_bank (firstProblem_eq_none (by simpa [Instr.wf, Instr.problem] using h) _ hm)

/-! ### Completion with a result -/

/-- A well-formed instruction that completes in one cycle gives its value. -/
theorem gives_of_finish {s : State} {i : Instr} {a : RegSpec} {v r : Word} (hx : exec i s = .next (s.finish a r))
    (hv : r = v) (hw : i.wf = true) (hm : (a.isS, Problem.bank) ∈ i.checks := by unfold Instr.checks; simp) : Gives s i a v :=
  ⟨_, hv ▸ hx, finish_done s a v (rbank_of_wf hw hm)⟩

/-- The same of an integer result at the width of a type. -/
theorem intGives_of_int1 {s : State} {i : Instr} {ty : Ty} {a : RegSpec} {v : BitVec (Ty.width ty)} {res : Int}
    (hx : exec i s = s.int1 ty a res) (hv : BitVec.ofInt (Ty.width ty) res = v)
    (hm : (a.isS, Problem.bank) ∈ i.checks := by unfold Instr.checks; simp) : IntGives s i ty a v := fun hw =>
  gives_of_finish hx (by rw [narrow_eq, hv]) hw hm

/-- A number that a well-formed instruction narrows is read modulo the width. -/
theorem intGives_of_nat {s : State} {i : Instr} {ty : Ty} {a : RegSpec} {n : Nat} (hx : exec i s = s.int1 ty a (n : Nat))
    (hm : (a.isS, Problem.bank) ∈ i.checks := by unfold Instr.checks; simp) : IntGives s i ty a (BitVec.ofNat _ n) :=
  intGives_of_int1 hx (BitVec.ofInt_natCast ..) hm

/-- An instruction of the multiply-divide unit sends its result at the width of a type. -/
theorem intDelivers_of_intMd {s : State} {i : Instr} {ty : Ty} {a : RegSpec} {v : BitVec (Ty.width ty)} {res : Int}
    (hx : exec i s = s.intMd ty a res) (hv : BitVec.ofInt (Ty.width ty) res = v) : IntDelivers s i ty a v := fun _ =>
  ⟨_, _, hx, later_sent .., rfl, rfl, rfl, rfl, by rw [← hv, ← narrow_eq]; rfl, rfl⟩

/-! ### The exact integers of R200, narrowed to a word -/

section
variable {w : Nat} (p q : BitVec w)

theorem ofInt_toInt_add : BitVec.ofInt w (p.toInt + q.toInt) = p + q := by
  rw [BitVec.ofInt_add, BitVec.ofInt_toInt, BitVec.ofInt_toInt]

theorem ofInt_toInt_sub : BitVec.ofInt w (p.toInt - q.toInt) = p - q := by
  rw [Int.sub_eq_add_neg, BitVec.ofInt_add, BitVec.ofInt_neg, BitVec.ofInt_toInt, BitVec.ofInt_toInt, BitVec.sub_eq_add_neg]

theorem ofInt_toInt_mul : BitVec.ofInt w (p.toInt * q.toInt) = p * q := by
  rw [BitVec.ofInt_mul, BitVec.ofInt_toInt, BitVec.ofInt_toInt]

theorem ofInt_fdiv_two_pow (n : Int) (k : Nat) :
    BitVec.ofInt w (Int.fdiv n ((2 ^ k : Nat) : Int)) = BitVec.ofInt w (n / 2 ^ k) := by
  rw [Int.fdiv_eq_ediv_of_nonneg _ (Int.natCast_nonneg _), Int.natCast_pow]; rfl

theorem toNat_eq_zero_iff : q.toNat = 0 ↔ q = 0 := by
  rw [← BitVec.toNat_inj]; simp

theorem ofInt_neg_one (w : Nat) : BitVec.ofInt w (-1) = BitVec.allOnes w := by
  rw [BitVec.ofInt_neg, ← BitVec.neg_one_eq_allOnes]; rfl

theorem ofInt_tdiv : BitVec.ofInt w (if q.toNat = 0 then -1 else Int.tdiv p.toInt q.toInt) =
    if q = 0 then BitVec.allOnes w else p.sdiv q := by
  simp only [toNat_eq_zero_iff]
  split
  · exact ofInt_neg_one w
  · apply BitVec.eq_of_toInt_eq
    rw [BitVec.toInt_ofInt, BitVec.toInt_sdiv]

theorem ofInt_div : BitVec.ofInt w (if q.toNat = 0 then ((2 ^ w : Nat) : Int) - 1 else ((p.toNat / q.toNat : Nat) : Int)) =
    if q = 0 then BitVec.allOnes w else p / q := by
  simp only [toNat_eq_zero_iff]
  split
  · have hzero : BitVec.ofNat w (2 ^ w) = 0#w :=
      BitVec.eq_of_toNat_eq (by rw [BitVec.toNat_ofNat, Nat.mod_self, BitVec.toNat_zero])
    rw [Int.sub_eq_add_neg, BitVec.ofInt_add, BitVec.ofInt_natCast, hzero, BitVec.zero_add, ofInt_neg_one]
  · rw [BitVec.ofInt_natCast, ← BitVec.toNat_udiv, BitVec.ofNat_toNat, BitVec.setWidth_eq]

theorem ofInt_tmod : BitVec.ofInt w (if q.toNat = 0 then p.toInt else Int.tmod p.toInt q.toInt) =
    if q = 0 then p else p.srem q := by
  simp only [toNat_eq_zero_iff]
  split
  · exact BitVec.ofInt_toInt
  · rw [← BitVec.toInt_srem, BitVec.ofInt_toInt]

theorem ofInt_mod : BitVec.ofInt w ((if q.toNat = 0 then p.toNat else p.toNat % q.toNat : Nat) : Int) = p % q := by
  rw [BitVec.ofInt_natCast]
  split
  · rw [(toNat_eq_zero_iff q).mp ‹_›]; simp
  · rw [← BitVec.toNat_umod, BitVec.ofNat_toNat, BitVec.setWidth_eq]

theorem ofInt_land : BitVec.ofInt w (bitwise Nat.land p.toNat q.toNat) = p &&& q := by
  rw [bitwise, BitVec.ofInt_natCast]; exact BitVec.ofNat_and.trans (by simp)

theorem ofInt_lor : BitVec.ofInt w (bitwise Nat.lor p.toNat q.toNat) = p ||| q := by
  rw [bitwise, BitVec.ofInt_natCast]; exact BitVec.ofNat_or.trans (by simp)

theorem ofInt_xor : BitVec.ofInt w (bitwise Nat.xor p.toNat q.toNat) = p ^^^ q := by
  rw [bitwise, BitVec.ofInt_natCast]; exact BitVec.ofNat_xor.trans (by simp)

theorem ofInt_landNot : BitVec.ofInt w (bitwise Nat.land p.toNat (2 ^ w - 1 - q.toNat)) = p &&& ~~~q := by
  rw [← BitVec.toNat_not, ofInt_land]

theorem ofInt_mul_two_pow (k : Nat) : BitVec.ofInt w ((p.toNat * 2 ^ k : Nat) : Int) = p <<< k := by
  apply BitVec.eq_of_toNat_eq
  rw [BitVec.ofInt_natCast, BitVec.toNat_ofNat, BitVec.toNat_shiftLeft, Nat.shiftLeft_eq]

theorem ofInt_div_two_pow (k : Nat) : BitVec.ofInt w ((p.toNat / 2 ^ k : Nat) : Int) = p >>> k := by
  rw [BitVec.ofInt_natCast, ← Nat.shiftRight_eq_div_pow, ← BitVec.toNat_ushiftRight, BitVec.ofNat_toNat, BitVec.setWidth_eq]

theorem ofInt_ediv_two_pow (k : Nat) : BitVec.ofInt w (p.toInt / 2 ^ k) = p.sshiftRight k := by
  rw [BitVec.sshiftRight, Int.shiftRight_eq_div_pow]; simp

/-- A rotation as a sum: what leaves at the top comes in below what was shifted (R200). -/
theorem ofInt_rotate {k : Nat} (hk : k < w) :
    BitVec.ofInt w ((if k = 0 then p.toNat else p.toNat * 2 ^ k + p.toNat / 2 ^ (w - k) : Nat) : Int) = p.rotateLeft k := by
  rw [BitVec.ofInt_natCast, BitVec.rotateLeft_def, Nat.mod_eq_of_lt hk]
  by_cases h0 : k = 0
  · subst h0; simp [BitVec.ushiftRight_eq_zero]
  · have hlow : p.toNat / 2 ^ (w - k) < 2 ^ k := by
      rw [Nat.div_lt_iff_lt_mul (Nat.two_pow_pos _), ← Nat.pow_add]
      rw [Nat.add_sub_cancel' (Nat.le_of_lt hk)]; exact p.isLt
    rw [if_neg h0, ← Nat.shiftLeft_eq, Nat.shiftLeft_add_eq_or_of_lt hlow, BitVec.ofNat_or, Nat.shiftLeft_eq]
    rw [← BitVec.ofInt_natCast, ← BitVec.ofInt_natCast, ofInt_mul_two_pow, ofInt_div_two_pow]

theorem ofInt_min : BitVec.ofInt w (min p.toInt q.toInt) = if p.slt q then p else q := by
  rw [BitVec.slt]
  by_cases h : p.toInt < q.toInt
  · rw [Int.min_eq_left (Int.le_of_lt h), decide_eq_true h, if_pos rfl, BitVec.ofInt_toInt]
  · rw [Int.min_eq_right (Int.not_lt.mp h), decide_eq_false h, if_neg Bool.false_ne_true, BitVec.ofInt_toInt]

theorem ofInt_max : BitVec.ofInt w (max p.toInt q.toInt) = if p.slt q then q else p := by
  rw [BitVec.slt]
  by_cases h : p.toInt < q.toInt
  · rw [Int.max_eq_right (Int.le_of_lt h), decide_eq_true h, if_pos rfl, BitVec.ofInt_toInt]
  · rw [Int.max_eq_left (Int.not_lt.mp h), decide_eq_false h, if_neg Bool.false_ne_true, BitVec.ofInt_toInt]

theorem ofInt_minn : BitVec.ofInt w ((min p.toNat q.toNat : Nat) : Int) = if p.ult q then p else q := by
  rw [BitVec.ofInt_natCast, BitVec.ult]
  by_cases h : p.toNat < q.toNat
  · rw [Nat.min_eq_left (Nat.le_of_lt h), decide_eq_true h, if_pos rfl, BitVec.ofNat_toNat, BitVec.setWidth_eq]
  · rw [Nat.min_eq_right (Nat.not_lt.mp h), decide_eq_false h, if_neg Bool.false_ne_true, BitVec.ofNat_toNat,
      BitVec.setWidth_eq]

theorem ofInt_maxn : BitVec.ofInt w ((max p.toNat q.toNat : Nat) : Int) = if p.ult q then q else p := by
  rw [BitVec.ofInt_natCast, BitVec.ult]
  by_cases h : p.toNat < q.toNat
  · rw [Nat.max_eq_right (Nat.le_of_lt h), decide_eq_true h, if_pos rfl, BitVec.ofNat_toNat, BitVec.setWidth_eq]
  · rw [Nat.max_eq_left (Nat.not_lt.mp h), decide_eq_false h, if_neg Bool.false_ne_true, BitVec.ofNat_toNat,
      BitVec.setWidth_eq]

/-- `sat_i` of R7 ends at the least and at the greatest signed number of the width. -/
theorem ofInt_satI (hw : 0 < w) (v : Int) : BitVec.ofInt w (satI v w) = clamp w v := by
  have hb : (bot w).toInt = -((2 ^ (w - 1) : Nat) : Int) := by
    rw [bot, BitVec.toInt_intMin, Nat.mod_eq_of_lt (Nat.pow_lt_pow_right (by decide) (by omega))]
  have ht : (top w).toInt = ((2 ^ (w - 1) : Nat) : Int) - 1 := by
    rw [top, BitVec.toInt_intMax]; simp
  rw [clamp, satI, ← hb, ← ht]
  split
  · exact BitVec.ofInt_toInt
  · split
    · exact BitVec.ofInt_toInt
    · rfl

end

/-! ### The integer register instructions (R200) -/

theorem integerResults : IntegerResults := by
  intro s x p q k
  have hk : k < Ty.width x.ty := Nat.mod_lt _ (width_pos _)
  and_intros
  all_goals
    refine intGives_of_int1 rfl ?_
    simp only [State.count, ops_eq, opn_eq]
  · exact ofInt_toInt_add p q
  · exact ofInt_toInt_sub p q
  · exact ofInt_land p q
  · exact ofInt_lor p q
  · exact ofInt_xor p q
  · exact ofInt_landNot p q
  · exact ofInt_mul_two_pow p k
  · exact ofInt_div_two_pow p k
  · rw [ofInt_fdiv_two_pow]; exact ofInt_ediv_two_pow p k
  · exact ofInt_rotate p hk
  · exact ofInt_min p q
  · exact ofInt_max p q
  · exact ofInt_minn p q
  · exact ofInt_maxn p q
  · exact ofInt_satI (width_pos _) _
  · exact ofInt_satI (width_pos _) _

theorem multiplyDivideResults : MultiplyDivideResults := by
  intro s x p q w
  and_intros
  all_goals
    refine intDelivers_of_intMd rfl ?_
    simp only [ops_eq, opn_eq]
  · exact ofInt_toInt_mul p q
  · exact ofInt_fdiv_two_pow _ _
  · exact BitVec.ofInt_natCast ..
  · exact ofInt_tdiv p q
  · exact ofInt_div p q
  · exact ofInt_tmod p q
  · exact ofInt_mod p q

/-- Settles O1: the exact integers of R200 narrowed to the width are the words of the table. -/
theorem integerArithmetic : Obligations.IntegerArithmetic := ⟨integerResults, multiplyDivideResults⟩

/-! ### Immediates, compares, selects and extensions (R201, R203, R206, R35) -/

theorem shiftLeft_eq_mul_pow (v : Word) (k : Nat) : v <<< k = v * 2#64 ^ k := by
  have hpow : ∀ k, BitVec.twoPow 64 k = 2#64 ^ k := by
    intro k
    induction k with
    | zero => rfl
    | succ k ih => rw [BitVec.pow_succ, ← ih, ← BitVec.twoPow_mul_twoPow_eq]; rfl
  rw [BitVec.shiftLeft_eq_mul_twoPow, hpow]

theorem immediateResults : ImmediateResults := by
  intro s m x
  refine ⟨gives_of_finish rfl rfl, fun hw => ?_⟩
  have hm : (x.a.isS, Problem.bank) ∈ (Instr.addi x).checks := by unfold Instr.checks; simp
  refine ⟨gives_of_finish rfl rfl hw hm, gives_of_finish rfl rfl hw hm, gives_of_finish rfl rfl hw hm,
    gives_of_finish rfl rfl hw hm, gives_of_finish rfl ?_ hw hm, gives_of_finish rfl ?_ hw hm, gives_of_finish rfl ?_ hw hm⟩
  · exact shiftLeft_eq_mul_pow ..
  · rw [← ofInt_div_two_pow, BitVec.ofInt_natCast]
  · rw [← ofInt_ediv_two_pow]

/-- A condition between the readings of two words is the condition between the words (R39). -/
theorem iCond_eq_cond {w : Nat} (c : Cond) (p q : BitVec w) : iCond c p.toInt q.toInt p.toNat q.toNat = cond c p q := by
  have heq : (p.toNat == q.toNat) = (p == q) := by
    rw [Bool.eq_iff_iff, beq_iff_eq, beq_iff_eq, BitVec.toNat_inj]
  cases c with
  | eq => exact heq
  | ne => exact congrArg not heq
  | _ => rfl

theorem compareSelectResults : CompareSelectResults := by
  intro s c x y l
  refine ⟨gives_of_finish rfl ?_, gives_of_finish rfl ?_, gives_of_finish rfl ?_, gives_of_finish rfl ?_,
    gives_of_finish rfl ?_⟩
  · rw [ops_eq, ops_eq, opn_eq, opn_eq, iCond_eq_cond, boolWord]
  · exact ite_not ..
  · rw [ops_eq, BitVec.signExtend]
  · rw [opn_eq, BitVec.ofNat_toNat]
  · rw [State.ea, ea, BitVec.ofNat_toNat, BitVec.setWidth_eq]

/-- Settles O2: each immediate form, compare, select, extension and LEA completes with the value of its rule. -/
theorem immediatesAndSelects : Obligations.ImmediatesAndSelects := ⟨immediateResults, compareSelectResults⟩

/-! ### Counts, reversals and fields, bit by bit (R204, R205) -/

/-- The zero bits of `clz` stand above the highest set bit. -/
theorem clz_spec {w x : Nat} (hx : x < 2 ^ w) : clz w x ≤ w ∧ (∀ i, w - clz w x ≤ i → x.testBit i = false) ∧
    (clz w x < w → x.testBit (w - 1 - clz w x) = true) := by
  unfold clz
  split
  · subst_vars; simp
  · rename_i h0
    have hlog : x.log2 < w := (Nat.log2_lt h0).mpr hx
    refine ⟨by omega, fun i hi => ?_, fun _ => ?_⟩
    · exact Nat.testBit_lt_two_pow (Nat.lt_of_lt_of_le Nat.lt_log2_self (Nat.pow_le_pow_right (by decide) (by omega)))
    · rw [show w - 1 - (w - 1 - x.log2) = x.log2 by omega]
      exact Nat.testBit_log2 h0

/-- The zero bits of `ctz` stand below the lowest set bit. -/
theorem ctz_spec (w x : Nat) : ctz w x ≤ w ∧ (∀ i, i < ctz w x → x.testBit i = false) ∧
    (ctz w x < w → x.testBit (ctz w x) = true) := by
  induction w generalizing x with
  | zero => simp [ctz]
  | succ w ih =>
    obtain ⟨hle, hzero, hone⟩ := ih (x / 2)
    unfold ctz
    split
    · simp [Nat.testBit_zero, *]
    · refine ⟨by omega, fun i hi => ?_, fun hlt => ?_⟩
      · cases i with
        | zero => simp [Nat.testBit_zero, *]
        | succ i => rw [Nat.testBit_add_one]; exact hzero i (by omega)
      · rw [Nat.add_comm, Nat.testBit_add_one]; exact hone (by omega)

theorem popCount_eq_countP (w x : Nat) : popCount w x = (List.range w).countP x.testBit := by
  induction w generalizing x with
  | zero => rfl
  | succ w ih =>
    have hsucc : x.testBit ∘ Nat.succ = (x / 2).testBit := funext fun i => Nat.testBit_add_one x i
    rw [popCount, ih, List.range_succ_eq_map, List.countP_cons, List.countP_map, hsucc, Nat.testBit_zero]
    have := Nat.mod_two_eq_zero_or_one x
    by_cases h : x % 2 = 1 <;> simp [h] <;> omega

theorem popCount_le (w x : Nat) : popCount w x ≤ w := by
  rw [popCount_eq_countP]
  exact Nat.le_trans List.countP_le_length (Nat.le_of_eq List.length_range)

theorem bitRev_lt (w x : Nat) : bitRev w x < 2 ^ w := by
  induction w generalizing x with
  | zero => simp [bitRev]
  | succ w ih =>
    have hlow := ih (x / 2)
    have htop : x % 2 * 2 ^ w ≤ 1 * 2 ^ w := Nat.mul_le_mul_right _ (by omega)
    rw [bitRev, Nat.pow_succ]
    omega

theorem testBit_bitRev {w i : Nat} (x : Nat) (hi : i < w) : (bitRev w x).testBit i = x.testBit (w - 1 - i) := by
  induction w generalizing x with
  | zero => omega
  | succ w ih =>
    rw [bitRev, Nat.mul_comm, Nat.testBit_two_pow_mul_add _ (bitRev_lt w _)]
    split
    · rw [ih _ ‹_›, ← Nat.testBit_add_one]; congr 1; omega
    · rw [show i - w = 0 by omega, show w + 1 - 1 - i = 0 by omega]; simp [Nat.testBit_zero]

theorem byteRev_lt (n x : Nat) : byteRev n x < 2 ^ (8 * n) := by
  induction n generalizing x with
  | zero => simp [byteRev]
  | succ n ih =>
    have hlow := ih (x / 256)
    have htop : x % 256 * 2 ^ (8 * n) ≤ 255 * 2 ^ (8 * n) := Nat.mul_le_mul_right _ (by omega)
    rw [byteRev, show 256 ^ n = 2 ^ (8 * n) from (Nat.pow_mul 2 8 n).symm, Nat.mul_succ, Nat.pow_add]
    omega

theorem testBit_byteRev {n i : Nat} (x : Nat) (hi : i < 8 * n) :
    (byteRev n x).testBit i = x.testBit (8 * n - 8 - i / 8 * 8 + i % 8) := by
  induction n generalizing x with
  | zero => omega
  | succ n ih =>
    rw [byteRev, show 256 ^ n = 2 ^ (8 * n) from (Nat.pow_mul 2 8 n).symm, Nat.mul_comm,
      Nat.testBit_two_pow_mul_add _ (byteRev_lt n _)]
    split
    · rw [ih _ ‹_›, show 256 = 2 ^ 8 from rfl, Nat.testBit_div_two_pow]; congr 1; omega
    · rw [show 256 = 2 ^ 8 from rfl, Nat.testBit_mod_two_pow, decide_eq_true (by omega), Bool.true_and]; congr 1; omega

/-- A count of bits of a word is not changed by its narrowing to the width. -/
theorem narrow_count (ty : Ty) {n : Nat} (hn : n ≤ Ty.width ty) : narrow ty n = BitVec.ofNat 64 n := by
  have hw : 2 * Ty.width ty < 2 ^ Ty.width ty := by
    rcases width_cases ty with h | h | h | h <;> rw [h] <;> decide
  have hmod : n % 2 ^ Ty.width ty = n := Nat.mod_eq_of_lt (by omega)
  have hnat : (BitVec.ofNat (Ty.width ty) n).toNat = n := (BitVec.toNat_ofNat ..).trans hmod
  rw [narrow_eq, BitVec.signExtend, BitVec.ofInt_natCast, BitVec.toInt_eq_toNat_of_lt (by omega), hnat,
    BitVec.ofInt_natCast]

theorem gives_of_count {s : State} {i : Instr} {ty : Ty} {a : RegSpec} {n : Nat} (hx : exec i s = s.int1 ty a (n : Nat))
    (hn : n ≤ Ty.width ty) (hw : i.wf = true) (hm : (a.isS, Problem.bank) ∈ i.checks := by unfold Instr.checks; simp) :
    Gives s i a (BitVec.ofNat 64 n) :=
  gives_of_finish hx (narrow_count ty hn) hw hm

theorem fieldLen_eq_len (n : BitVec 7) : fieldLen n = len n := by
  unfold fieldLen len
  split <;> omega

/-- A field of no bits is zero, as its sign extension is (R205). -/
theorem ofInt_field (w n f : Nat) :
    BitVec.ofInt w (if n = 0 then 0 else (BitVec.ofNat n f).toInt) = (BitVec.ofNat n f).signExtend w := by
  rw [BitVec.signExtend]
  split
  · subst_vars; rw [BitVec.toInt_zero_length]
  · rfl

theorem sub_and_eq_and_not {w : Nat} (v m : BitVec w) : v - (v &&& m) = v &&& ~~~m := by
  have hdis : (v &&& ~~~m) &&& (v &&& m) = 0#w := by
    ext i; cases h : m[i] <;> simp [h]
  rw [BitVec.sub_eq_iff_eq_add, BitVec.add_eq_or_of_and_eq_zero _ _ hdis]
  ext i; cases h : m[i] <;> simp [h]

/-- What BFI inserts, as words: `v` outside the mask and the shifted value inside it (R205). -/
theorem ofInt_insert {w : Nat} (v : BitVec w) (c : Word) (k n : Nat) :
    BitVec.ofInt w ((Nat.lor (v.toNat - Nat.land v.toNat (n % 2 ^ w)) (Nat.land (c.toNat * 2 ^ k) (n % 2 ^ w)) : Nat) : Int) =
      v &&& ~~~BitVec.ofNat w n ||| (c.setWidth w <<< k &&& BitVec.ofNat w n) := by
  have hkeep : BitVec.ofNat w (v.toNat - Nat.land v.toNat (n % 2 ^ w)) = v &&& ~~~BitVec.ofNat w n := by
    have hland : (v &&& BitVec.ofNat w n).toNat = Nat.land v.toNat (n % 2 ^ w) := by
      rw [BitVec.toNat_and, BitVec.toNat_ofNat]; rfl
    have hle : v &&& BitVec.ofNat w n ≤ v := by
      rw [BitVec.le_def, BitVec.toNat_and]; exact Nat.and_le_left
    rw [← sub_and_eq_and_not, ← hland, ← BitVec.toNat_sub_of_le hle, BitVec.ofNat_toNat, BitVec.setWidth_eq]
  have hshift : BitVec.ofNat w (c.toNat * 2 ^ k) = c.setWidth w <<< k := by
    apply BitVec.eq_of_toNat_eq
    simp [Nat.shiftLeft_eq, Nat.mul_mod]
  rw [BitVec.ofInt_natCast]
  refine BitVec.ofNat_or.trans ?_
  rw [hkeep]
  congr 1
  refine BitVec.ofNat_and.trans ?_
  rw [hshift]
  congr 1
  apply BitVec.eq_of_toNat_eq
  simp

/-- Settles O3: each count is the number that its bits say, and each reversal and field holds the bits of its rule. -/
theorem bitResults : Obligations.BitResults := by
  intro s x y z w p f
  have hp : ∀ i, p.getLsbD i = (s.opn x.ty x.b).testBit i := fun i => by rw [opn_eq]; rfl
  have hlt : s.opn x.ty x.b < 2 ^ w := by rw [opn_eq]; exact p.isLt
  have hw8 : 8 * (w / 8) = w := by have := width_cases x.ty; omega
  simp only [hp]
  refine ⟨fun hw => ?_, fun hw => ?_, fun hw => ?_, fun hw => ?_, fun hw => ?_, ?_, ?_, ?_⟩
  · obtain ⟨hle, hzero, hone⟩ := clz_spec hlt
    exact ⟨_, hle, hzero, hone, gives_of_count rfl hle hw⟩
  · obtain ⟨hle, hzero, hone⟩ := ctz_spec w (s.opn x.ty x.b)
    exact ⟨_, hle, hzero, hone, gives_of_count rfl hle hw⟩
  · have hones : ones p = popCount w (s.opn x.ty x.b) := by
      rw [popCount_eq_countP]; exact congrArg (List.countP · _) (funext hp)
    rw [hones]
    exact gives_of_count rfl (popCount_le _ _) hw
  · refine ⟨_, fun i hi => ?_, intGives_of_nat (n := bitRev w (s.opn x.ty x.b)) rfl (by unfold Instr.checks; simp) hw⟩
    rw [BitVec.getLsbD_ofNat, decide_eq_true hi, Bool.true_and, testBit_bitRev _ hi]
  · refine ⟨_, fun i hi => ?_, intGives_of_nat (n := byteRev (w / 8) (s.opn x.ty x.b)) rfl (by unfold Instr.checks; simp) hw⟩
    rw [BitVec.getLsbD_ofNat, decide_eq_true hi, Bool.true_and, testBit_byteRev _ (by omega), hw8]
  · exact intGives_of_int1 rfl (by rw [BitVec.ofInt_natCast, fieldLen_eq_len, opn_eq])
  · refine intGives_of_int1 rfl ?_
    rw [fieldLen_eq_len, opn_eq, sx_eq_toInt]
    exact ofInt_field ..
  · refine intGives_of_int1 rfl ?_
    rw [fieldLen_eq_len, opn_eq]
    exact ofInt_insert ..

end Sys2Proof.Machine

/-!
The two modes of the mask unit (13 R319 to R322). A program that runs on a tile pair and on one row and slot of the pair
keeps both units in step: an interval of the first covers the point of the second as far as it is not saturated, and a
tri-state value of the first that is not M is the value of the second.
-/

namespace Sys2Proof.Machine

/-! ### Intervals and points -/

/-- A value lies in an interval. -/
def Ival.Contains (a : Ival) (p : Int) : Prop := a.lo ≤ p ∧ p ≤ a.hi

/-- A value lies within those bounds of an interval that carry no saturation mark (R322). -/
def Ival.Covers (a : Ival) (p : Int) : Prop := (a.slo = false → a.lo ≤ p) ∧ (a.shi = false → p ≤ a.hi)

theorem pointOf_contains (p : Int) : (pointOf p).Contains p := ⟨Int.le_refl _, Int.le_refl _⟩

theorem ivalOf_contains {l : List Int} {p : Int} (hp : p ∈ l) : (ivalOf l).Contains p := by
  cases l with
  | nil => exact absurd hp List.not_mem_nil
  | cons x r =>
    exact ⟨(List.min?_eq_some_iff.mp List.min?_cons').2 p hp, (List.max?_eq_some_iff.mp List.max?_cons').2 p hp⟩

theorem int_min_mono {a b c d : Int} (hac : a ≤ c) (hbd : b ≤ d) : min a b ≤ min c d :=
  Int.le_min.mpr ⟨Int.le_trans (Int.min_le_left ..) hac, Int.le_trans (Int.min_le_right ..) hbd⟩

theorem int_max_mono {a b c d : Int} (hac : a ≤ c) (hbd : b ≤ d) : max a b ≤ max c d :=
  Int.max_le.mpr ⟨Int.le_trans hac (Int.le_max_left ..), Int.le_trans hbd (Int.le_max_right ..)⟩

/-- In tile mode a clamped bound that is not marked is the bound itself, formed from unmarked ones (R319). -/
theorem clampB_tile_of_unmarked {v : Int} {mark : Bool} (h : (clampB true v mark).2 = false) :
    (clampB true v mark).1 = v ∧ mark = false := by
  simp only [clampB, Bool.not_true, Bool.false_eq_true, if_false] at h ⊢
  split at h
  · cases h
  · next hle =>
    split at h
    · cases h
    · next hge => rw [if_neg hle, if_neg hge]; exact ⟨rfl, h⟩

/-! ### The order of tri-state values -/

/-- A value of tile mode allows a value of element mode: M allows every value, T and F only themselves. -/
def Tri.Allows (c e : Tri) : Prop := c ≠ .m → e = c

theorem Tri.allows_m (e : Tri) : Tri.Allows .m e := fun h => absurd rfl h

theorem Tri.Allows.tnot {c e : Tri} (h : c.Allows e) : (Spec.tnot c).Allows (Spec.tnot e) := by
  cases c with
  | m => exact Tri.allows_m _
  | t | f => rw [h (by decide)]; exact fun _ => rfl

theorem Tri.tand_f (c : Tri) : Spec.tand c .f = .f := by cases c <;> rfl

theorem Tri.Allows.tand {c e c' e' : Tri} (h : c.Allows e) (h' : c'.Allows e') :
    (Spec.tand c c').Allows (Spec.tand e e') := by
  cases c with
  | f => rw [h (by decide)]; exact fun _ => rfl
  | t =>
    rw [h (by decide)]
    cases c' with
    | m => exact Tri.allows_m _
    | t | f => rw [h' (by decide)]; exact fun _ => rfl
  | m =>
    cases c' with
    | f => rw [h' (by decide), Tri.tand_f e]; exact fun _ => rfl
    | t | m => exact Tri.allows_m _

/-! ### The registers of the unit -/

theorem MaskU.getX_setX (u : MaskU) (d r : BitVec 3) (lo hi : Int) (slo shi : Bool) :
    (u.setX d lo hi slo shi).getX r =
      if r = d then
        { lo := (clampB u.inp.tile lo slo).1, hi := (clampB u.inp.tile hi shi).1,
          slo := (clampB u.inp.tile lo slo).2, shi := (clampB u.inp.tile hi shi).2 }
      else u.getX r := by
  simp only [MaskU.getX, MaskU.setX, lookD_put, BitVec.toNat_inj]

/-- In element mode every value is exact (R319). -/
theorem MaskU.getX_setX_point {u : MaskU} (hu : u.inp.tile = false) (d r : BitVec 3) (p : Int) (slo shi : Bool) :
    (u.setX d p p slo shi).getX r = if r = d then pointOf p else u.getX r := by
  rw [MaskU.getX_setX, hu]
  rfl

theorem MaskU.getB_setB (u : MaskU) (d r : BitVec 3) (v : Tri) :
    (u.setB d v).getB r = if r = d then v else u.getB r := by
  simp only [MaskU.getB, MaskU.setB, lookD_put, BitVec.toNat_inj]

theorem muMband_eq (x : Mask3) (u : MaskU) : muMband x u = u.setB x.d (Spec.tand (u.getB x.a) (u.getB x.b)) := by
  unfold muMband
  cases u.getB x.a <;> cases u.getB x.b <;> rfl

/-- MBOR is the dual of MBAND (R320). -/
theorem muMbor_eq (x : Mask3) (u : MaskU) :
    muMbor x u = u.setB x.d (Spec.tnot (Spec.tand (Spec.tnot (u.getB x.a)) (Spec.tnot (u.getB x.b)))) := by
  unfold muMbor
  cases u.getB x.a <;> cases u.getB x.b <;> rfl

theorem muMbnot_eq (d a : BitVec 3) (u : MaskU) : muMbnot d a u = u.setB d (Spec.tnot (u.getB a)) := by
  unfold muMbnot
  cases u.getB a <;> rfl

/-! ### A tile pair and one of its elements -/

/-- An input of tile mode holds the point that element mode reads instead. -/
def Ival.Has (a e : Ival) : Prop := ∃ p, e = pointOf p ∧ a.Contains p

/-- The inputs of a tile pair, and those of a row and a slot of it (R319). -/
structure MaskIn.Has (m e : MaskIn) : Prop where
  tile : m.tile = true
  point : e.tile = false
  q : m.q.Has e.q
  k : m.k.Has e.k
  dq : m.dq.Has e.dq
  dk : m.dk.Has e.dk
  at_ : m.at_.Has e.at_
  par : m.par = e.par

/-- A unit in tile mode and one in element mode that have run the same words (R322). -/
structure MaskU.Follows (u v : MaskU) : Prop where
  inp : u.inp.Has v.inp
  x : ∀ r, ∃ p, v.getX r = pointOf p ∧ (u.getX r).Covers p
  b : ∀ r, (u.getB r).Allows (v.getB r)
  res : ∀ c, u.res = some c → ∃ e, v.res = some e ∧ c.Allows e

namespace MaskU.Follows

variable {u v : MaskU}

/-- A write of an interval register keeps the units in step when the exact value lies within the unmarked bounds. -/
theorem setX (h : u.Follows v) (d : BitVec 3) {lo hi p : Int} {slo shi : Bool} (ml mh : Bool)
    (hlo : slo = false → lo ≤ p) (hhi : shi = false → p ≤ hi) :
    (u.setX d lo hi slo shi).Follows (v.setX d p p ml mh) where
  inp := h.inp
  x r := by
    rw [getX_setX_point h.inp.point, getX_setX, h.inp.tile]
    split
    · refine ⟨p, rfl, fun hm => ?_, fun hm => ?_⟩
      · obtain ⟨hv, hs⟩ := clampB_tile_of_unmarked hm
        exact Int.le_trans (Int.le_of_eq hv) (hlo hs)
      · obtain ⟨hv, hs⟩ := clampB_tile_of_unmarked hm
        exact Int.le_trans (hhi hs) (Int.le_of_eq hv.symm)
    · exact h.x r
  b := h.b
  res := h.res

theorem setB (h : u.Follows v) (d : BitVec 3) {c e : Tri} (hc : c.Allows e) : (u.setB d c).Follows (v.setB d e) where
  inp := h.inp
  x := h.x
  b r := by
    rw [getB_setB, getB_setB]
    split
    · exact hc
    · exact h.b r
  res := h.res

theorem load (h : u.Follows v) (d : BitVec 3) {a e : Ival} (ha : a.Has e) : (u.load d a).Follows (v.load d e) := by
  obtain ⟨p, rfl, hlo, hhi⟩ := ha
  exact h.setX d _ _ (fun _ => hlo) (fun _ => hhi)

theorem mlp (h : u.Follows v) (d : BitVec 3) (imm : BitVec 17) : (muMlp d imm u).Follows (muMlp d imm v) := by
  unfold muMlp
  rw [← h.inp.par]
  exact h.setX d _ _ (fun _ => Int.le_refl _) (fun _ => Int.le_refl _)

theorem mli (h : u.Follows v) (d : BitVec 3) (imm : BitVec 17) : (muMli d imm u).Follows (muMli d imm v) :=
  h.setX d _ _ (fun _ => Int.le_refl _) (fun _ => Int.le_refl _)

theorem madd (h : u.Follows v) (x : MaskR) : (muMadd x u).Follows (muMadd x v) := by
  obtain ⟨p, hp, hplo, hphi⟩ := h.x x.a
  obtain ⟨q, hq, hqlo, hqhi⟩ := h.x x.b
  simp only [muMadd, hp, hq]
  refine h.setX _ _ _ (fun hm => ?_) (fun hm => ?_) <;> obtain ⟨ha, hb⟩ := Bool.or_eq_false_iff.mp hm
  · exact Int.add_le_add_right (Int.add_le_add (hplo ha) (hqlo hb)) _
  · exact Int.add_le_add_right (Int.add_le_add (hphi ha) (hqhi hb)) _

theorem msub (h : u.Follows v) (x : MaskR) : (muMsub x u).Follows (muMsub x v) := by
  obtain ⟨p, hp, hplo, hphi⟩ := h.x x.a
  obtain ⟨q, hq, hqlo, hqhi⟩ := h.x x.b
  simp only [muMsub, hp, hq]
  refine h.setX _ _ _ (fun hm => ?_) (fun hm => ?_) <;> obtain ⟨ha, hb⟩ := Bool.or_eq_false_iff.mp hm
  · exact Int.add_le_add_right (Int.sub_le_sub (hplo ha) (hqhi hb)) _
  · exact Int.add_le_add_right (Int.sub_le_sub (hphi ha) (hqlo hb)) _

theorem mmin (h : u.Follows v) (x : Mask3) : (muMmin x u).Follows (muMmin x v) := by
  obtain ⟨p, hp, hplo, hphi⟩ := h.x x.a
  obtain ⟨q, hq, hqlo, hqhi⟩ := h.x x.b
  simp only [muMmin, hp, hq]
  refine h.setX _ _ _ (fun hm => ?_) (fun hm => ?_) <;> obtain ⟨ha, hb⟩ := Bool.or_eq_false_iff.mp hm
  · exact int_min_mono (hplo ha) (hqlo hb)
  · exact int_min_mono (hphi ha) (hqhi hb)

theorem mmax (h : u.Follows v) (x : Mask3) : (muMmax x u).Follows (muMmax x v) := by
  obtain ⟨p, hp, hplo, hphi⟩ := h.x x.a
  obtain ⟨q, hq, hqlo, hqhi⟩ := h.x x.b
  simp only [muMmax, hp, hq]
  refine h.setX _ _ _ (fun hm => ?_) (fun hm => ?_) <;> obtain ⟨ha, hb⟩ := Bool.or_eq_false_iff.mp hm
  · exact int_max_mono (hplo ha) (hqlo hb)
  · exact int_max_mono (hphi ha) (hqhi hb)

/-- A comparison keeps the units in step when its test for T, met by two intervals, is met by all points of theirs, and
its test for F, met by two intervals, is met by all points of theirs, which then do not meet the one for T (R320). -/
theorem cmp (h : u.Follows v) (x : Mask3) {t f : Ival → Ival → Bool}
    (ht : ∀ a b p q, a.Contains p → b.Contains q → t a b = true → t (pointOf p) (pointOf q) = true)
    (hf : ∀ a b p q, a.Contains p → b.Contains q → f a b = true →
      t (pointOf p) (pointOf q) = false ∧ f (pointOf p) (pointOf q) = true) :
    (u.cmp x t f).Follows (v.cmp x t f) := by
  obtain ⟨p, hp, hplo, hphi⟩ := h.x x.a
  obtain ⟨q, hq, hqlo, hqhi⟩ := h.x x.b
  simp only [MaskU.cmp, hp, hq]
  refine h.setB _ ?_
  by_cases hm : ((u.getX x.a).slo || (u.getX x.a).shi || (u.getX x.b).slo || (u.getX x.b).shi) = true
  · rw [if_pos hm]
    exact Tri.allows_m _
  · have hpt : ¬ ((pointOf p).slo || (pointOf p).shi || (pointOf q).slo || (pointOf q).shi) = true :=
      Bool.false_ne_true
    rw [if_neg hm, if_neg hpt]
    simp only [Bool.or_eq_true, not_or, Bool.not_eq_true] at hm
    obtain ⟨⟨⟨hal, hah⟩, hbl⟩, hbh⟩ := hm
    have ha : (u.getX x.a).Contains p := ⟨hplo hal, hphi hah⟩
    have hb : (u.getX x.b).Contains q := ⟨hqlo hbl, hqhi hbh⟩
    split
    · next htrue =>
      rw [if_pos (ht _ _ _ _ ha hb htrue)]
      exact fun _ => rfl
    · split
      · next hfalse =>
        obtain ⟨hnt, hpf⟩ := hf _ _ _ _ ha hb hfalse
        simp only [hnt, hpf]
        exact fun _ => rfl
      · exact Tri.allows_m _

theorem mclt (h : u.Follows v) (x : Mask3) : (muMclt x u).Follows (muMclt x v) := by
  refine h.cmp x (fun a b p q ha hb ht => ?_) (fun a b p q ha hb hf => ?_)
  · exact decide_eq_true (Int.lt_of_le_of_lt ha.2 (Int.lt_of_lt_of_le (of_decide_eq_true ht) hb.1))
  · have hqp : q ≤ p := Int.le_trans hb.2 (Int.le_trans (of_decide_eq_true hf) ha.1)
    exact ⟨decide_eq_false (Int.not_lt.mpr hqp), decide_eq_true hqp⟩

theorem mcle (h : u.Follows v) (x : Mask3) : (muMcle x u).Follows (muMcle x v) := by
  refine h.cmp x (fun a b p q ha hb ht => ?_) (fun a b p q ha hb hf => ?_)
  · exact decide_eq_true (Int.le_trans ha.2 (Int.le_trans (of_decide_eq_true ht) hb.1))
  · have hqp : q < p := Int.lt_of_le_of_lt hb.2 (Int.lt_of_lt_of_le (of_decide_eq_true hf) ha.1)
    exact ⟨decide_eq_false (Int.not_le.mpr hqp), decide_eq_true hqp⟩

theorem mceq (h : u.Follows v) (x : Mask3) : (muMceq x u).Follows (muMceq x v) := by
  refine h.cmp x (fun a b p q ha hb ht => ?_) (fun a b p q ha hb hf => ?_)
  · simp only [Bool.and_eq_true, beq_iff_eq] at ht
    obtain ⟨⟨hal, hbl⟩, hab⟩ := ht
    have hap : a.lo = p := Int.le_antisymm ha.1 (hal ▸ ha.2)
    have hbq : b.lo = q := Int.le_antisymm hb.1 (hbl ▸ hb.2)
    have hpq : p = q := hap.symm.trans (hab.trans hbq)
    simp only [pointOf, hpq, beq_self_eq_true, Bool.and_self]
  · simp only [Bool.or_eq_true, decide_eq_true_eq] at hf
    have hpq : p < q ∨ q < p := by
      refine hf.imp (fun hlt => ?_) (fun hlt => ?_)
      · exact Int.lt_of_le_of_lt ha.2 (Int.lt_of_lt_of_le hlt hb.1)
      · exact Int.lt_of_le_of_lt hb.2 (Int.lt_of_lt_of_le hlt ha.1)
    have hne : p ≠ q := fun he => hpq.elim (fun hlt => Int.ne_of_lt hlt he) (fun hlt => Int.ne_of_lt hlt he.symm)
    refine ⟨?_, Bool.or_eq_true_iff.mpr (hpq.imp decide_eq_true decide_eq_true)⟩
    simp only [pointOf, beq_self_eq_true, Bool.true_and, beq_eq_false_iff_ne]
    exact hne

theorem mband (h : u.Follows v) (x : Mask3) : (muMband x u).Follows (muMband x v) := by
  rw [muMband_eq, muMband_eq]
  exact h.setB _ ((h.b x.a).tand (h.b x.b))

theorem mbor (h : u.Follows v) (x : Mask3) : (muMbor x u).Follows (muMbor x v) := by
  rw [muMbor_eq, muMbor_eq]
  exact h.setB _ ((h.b x.a).tnot.tand (h.b x.b).tnot).tnot

theorem mbnot (h : u.Follows v) (d a : BitVec 3) : (muMbnot d a u).Follows (muMbnot d a v) := by
  rw [muMbnot_eq, muMbnot_eq]
  exact h.setB _ (h.b a).tnot

theorem mvis (h : u.Follows v) (a : BitVec 3) : (muMvis a u).Follows (muMvis a v) where
  inp := h.inp
  x := h.x
  b := h.b
  res _ hc := ⟨v.getB a, rfl, Option.some.inj hc ▸ h.b a⟩

theorem maskStep (h : u.Follows v) (i : Instr) : (maskStep i u).Follows (maskStep i v) := by
  cases i with
  | mlq d => exact h.load d h.inp.q
  | mlk d => exact h.load d h.inp.k
  | mldq d => exact h.load d h.inp.dq
  | mldk d => exact h.load d h.inp.dk
  | mla d => exact h.load d h.inp.at_
  | mlp d imm => exact h.mlp d imm
  | mli d imm => exact h.mli d imm
  | madd x => exact h.madd x
  | msub x => exact h.msub x
  | mmin x => exact h.mmin x
  | mmax x => exact h.mmax x
  | mclt x => exact h.mclt x
  | mcle x => exact h.mcle x
  | mceq x => exact h.mceq x
  | mband x => exact h.mband x
  | mbor x => exact h.mbor x
  | mbnot d a => exact h.mbnot d a
  | mvis a => exact h.mvis a
  | _ => exact h

/-- Before the first word every register is unset in both units (R316, log 1). -/
theorem init (prog : List (BitVec 32)) {m e : MaskIn} (h : m.Has e) :
    ({ prog := prog, inp := m } : MaskU).Follows { prog := prog, inp := e } where
  inp := h
  x _ := ⟨0, rfl, fun _ => Int.le_refl _, fun _ => Int.le_refl _⟩
  b _ := fun _ => rfl
  res _ hc := nomatch hc

theorem runMask (prog : List (BitVec 32)) {m e : MaskIn} (h : m.Has e) : (runMask prog m).Follows (runMask prog e) := by
  refine List.foldl_rel (init prog h) fun w _ u v huv => ?_
  split
  · exact huv.maskStep _
  · exact huv

end MaskU.Follows

/-- The ranges of a tile pair hold the tags of each of its rows and filled slots (R298, R319). -/
theorem tileIn_has_elemIn {q : Query} {g : KvPage} {r : QRow} {j : Nat} (base : Nat) (hr : r ∈ q.rows) (hj : j < g.fill)
    (hd : ({ lo := g.dmin, hi := g.dmax } : Ival).Contains (lookD g.tags j (0, 0)).2)
    (ha : ({ lo := g.amin, hi := g.amax } : Ival).Contains (lookD g.tags j (0, 0)).1) :
    (tileIn q g base).Has (elemIn q g base r j) where
  tile := rfl
  point := rfl
  q := ⟨_, rfl, ivalOf_contains (List.mem_map_of_mem hr)⟩
  k := ⟨_, rfl, by simp only [tileIn, Ival.Contains]; omega⟩
  dq := ⟨_, rfl, ivalOf_contains (List.mem_map_of_mem hr)⟩
  dk := ⟨_, rfl, hd⟩
  at_ := ⟨_, rfl, ha⟩
  par := rfl

/-- Settles O36: the two runs stay in step word by word, and a result that is not M allows only itself. -/
theorem maskTilesAreConservative : Obligations.MaskTilesAreConservative := by
  intro prog q g base r j c hhdr hres hc hr hj
  obtain ⟨hdmin, hdmax, hamin, hamax⟩ := hhdr j hj
  have hrun := MaskU.Follows.runMask prog (tileIn_has_elemIn base hr hj ⟨hdmin, hdmax⟩ ⟨hamin, hamax⟩)
  obtain ⟨e, he, hallow⟩ := hrun.res c hres
  rw [he, hallow hc]

end Sys2Proof.Machine
